-- ==== Sys2Proof/Word.lean ====
section
/-! DEFINITION. The word types of the node and the index types of its repeated blocks (R10, R11 and the port and
channel counts of spec/00_scope.md and spec/01_node_at_a_glance.md). -/

namespace Sys2Proof

/-- A byte of an image, of the Quarry or of the Vault. -/
abbrev Byte := BitVec 8
/-- A word of the Spaka line: 16 bits (R10). -/
abbrev Word := BitVec 16
/-- A register value: 32 bits (R10). -/
abbrev Reg := BitVec 32
/-- A 64-bit value: a line time, a Quarry word (R10, R16). -/
abbrev DWord := BitVec 64
/-- A Spaka port SP0 to SP7, and a local Ethernet port LE0 to LE7. -/
abbrev Port := Fin 8
/-- A local CAN port LC0 to LC3. -/
abbrev CanPort := Fin 4
/-- A load channel LD0 to LD47. -/
abbrev Chan := Fin 48
/-- A register page. -/
abbrev Page := Fin 64
/-- A Quarry bank. -/
abbrev Bank := Fin 64
/-- A Quarry master ID (table before R278). -/
abbrev Master := Fin 16
/-- A trace of received or sent line words. -/
abbrev Frame := List Word

end Sys2Proof
end

