-- ==== Sys2Proof/Machine/Types.lean ====
section
/-! DEFINITION. The parts of the node's state that no register holds: queues, contexts, timers, images and the facts
that straps and fuses give. Every part is plain data; the registers themselves lie in the register file of State. -/

namespace Sys2Proof.Machine

/-- A host interface (R446): PCIe, local bus, SPI; its master ID is 0, 1, 2 (table before R278). -/
inductive Ifc where
  | pcie | lb | spi
  deriving DecidableEq, Repr

/-- What straps and fuses fix at a start (R4, R423, R461). -/
structure Boot where
  straps     : Nat                  -- TOP_STRAP [7:0] as sampled
  uid        : Nat                  -- 48 bits; 0 where the UID block failed its check (R423)
  fuseLanes  : Nat                  -- lanes fused as failed
  fuseWords  : Nat                  -- repair fuse words spent
  repairs    : List (Nat × Nat)     -- fused repair entries: 12 × bank + entry ↦ register word (R293)
  deriving DecidableEq, Repr

/-- The node's clocks: `now` counts nanoseconds since power good; line time and the RTC count from it. -/
structure Clock where
  now      : Nat
  lt       : Nat        -- line time, 64 bits (R141)
  ltFrac   : Nat        -- fraction of a nanosecond, in 1/(256·10⁹)
  slewRate : Int        -- slew in progress (R151), in 1/(256·10⁹) per nanosecond
  slewLeft : Int        -- what of it is left, in 1/(256·10⁹) ns
  ltOn     : Bool       -- line time counts (R42, R397)
  sec      : Nat        -- RTC seconds, 40 bits (R372)
  sub      : Nat        -- RTC subsecond, 15 bits
  rtcAcc   : Nat        -- fraction of a crystal cycle, in 1/10⁹
  rtcOwed  : Nat        -- ticks the trim still withholds (R373)
  rtcExtra : Nat        -- ticks the trim still adds
  trimmed  : Nat        -- seconds value at which the trim last corrected (R373)
  xtal     : Bool       -- the crystal gives edges
  q0Ns     : Nat        -- the timer of Quarry island 0 (R284), stopped while that island is frozen
  deriving DecidableEq, Repr

/-- A mark raised and not yet recorded: its code, flag DEFERRED, whether TIME_VALID was 0, its payload (R396). -/
structure Mark where
  code     : Nat
  deferred : Bool
  invalid  : Bool
  bytes    : List Nat
  deriving DecidableEq, Repr

/-- A record as the recorder wrote it, kept for the mirror until the Vault holds it (R405). -/
structure MarkRec where
  seq   : Nat
  bytes : List Nat      -- the padded record
  off   : Nat           -- its offset in the Mark Store area
  first : Bool          -- it went to FIRST as well
  deriving DecidableEq, Repr

/-- The Mark recorder (chapter 15). -/
structure Marks where
  queue      : List Mark           -- at most 64 (R403)
  held       : List Mark           -- the 8 places of the always-on island (R404)
  tokens     : Nat                 -- token bucket, in 1/10⁹ token
  tokenAt    : Nat                 -- instant of the last refill
  supN       : Nat                 -- marks suppressed since the last SUPPRESSED record
  dropN      : Nat
  supCode    : Nat                 -- code of the first one suppressed
  live       : Bool                -- start-up step 7 is complete
  fInForce   : Nat                 -- F in force (R406)
  recs       : List MarkRec        -- whole records in RECENT, oldest first
  firstOff   : Nat                 -- next free byte of FIRST, as an offset in the area
  recentOff  : Nat                 -- next free byte of RECENT
  firstFull  : Bool
  toMirror   : List MarkRec        -- records not yet mirrored
  gapFrom    : Nat                 -- first SEQ lost to the mirror, 0 if none
  gapTo      : Nat
  vFirstOff  : Nat                 -- next free byte of the FIRST mirror, in the MARKS partition
  vRecentOff : Nat                 -- next free byte of the RECENT ring mirror
  vSectors   : Nat                 -- sectors opened
  deriving DecidableEq, Repr

/-- Error state of a Vault physical sector. -/
inductive PhysState where
  | inUse | spare | retired | failed
  deriving DecidableEq, Repr

/-- The wear table's entry of one physical sector (R414 to R417). -/
structure Phys where
  count      : Nat
  state      : PhysState
  slow       : Bool
  overLimit  : Bool
  incomplete : Bool     -- an erase was cut short by loss of main (R421)
  deriving DecidableEq, Repr

/-- What a Vault operation is for; the answer to it is given when its last program operation or pulse ends. -/
inductive VPurpose where
  | save                       -- main-failure save (class 1, R366)
  | retire (logical : Nat) (cause : Nat)   -- class 2 (R416)
  | dump (slot : Nat)          -- Rubble dump subset (class 3)
  | tally (count : Nat)        -- class 4: Tally records up to VLT_IDX + count
  | tallyErase                 -- class 4
  | mirror (seq : Nat)         -- class 5
  | host                       -- class 6 (R419)
  | hostErase                  -- class 6
  | aborting                   -- class 6: a host command that ABORT stops at its next row or pulse (R419)
  | marksErase                 -- class 7
  | dumpErase (slot : Nat)     -- erase of a subset slot (R492)
  | redo (cls : Nat)           -- an erase cut short is repeated ahead of an operation of that class (R421)
  deriving DecidableEq, Repr

/-- A Vault operation that waits or is in progress: runs of bytes still to program (logical offset, bytes), or a
sector to erase with the pulses already given (R410, R411). -/
structure VOp where
  purpose : VPurpose
  rows    : List (Nat × List Nat)
  sector  : Nat
  erase   : Bool
  pulses  : Nat
  retired : Bool
  deriving DecidableEq, Repr

/-- The Vault (chapter 16). -/
structure Vault where
  mem      : List Host.Cell         -- by physical offset; an unlisted byte reads 0xFF (R410)
  remap    : List (Nat × Nat)       -- logical ↦ physical, where it is not the identity (R409)
  wear     : List (Nat × Phys)      -- physical sectors that differ from the manufactured state
  ue       : List Nat               -- physical word offsets that read uncorrectable (R412)
  ops      : List VOp               -- in order of arrival
  bootKey  : Option Nat             -- instant of the last BOOT key (R419)
  retireQ  : List (Nat × Nat)       -- logical sectors whose retirement a loss of main cut, with its cause (R416, R421)
  updates  : Nat                    -- update count of the remap table (R409)
  deriving DecidableEq, Repr

/-- A march run in progress (R290). -/
structure MarchRun where
  bank        : Nat
  destructive : Bool
  full        : Bool
  background  : Nat      -- 0 to 3 (R288)
  segment     : Nat      -- transparent: segment next to run
  segEnd      : Nat      -- instant the last segment ended
  inSegment   : Bool     -- accesses to the segment are held now (R290)
  aborting    : Bool
  deriving DecidableEq, Repr

/-- A Quarry access that waits for a held bank or island (R24, R291, R295). -/
structure HeldAccess where
  master : Nat
  addr   : Nat          -- byte address of the Quarry word
  be     : Nat
  write  : Option Nat
  deriving DecidableEq, Repr

/-- The Quarry (chapter 10). -/
structure Quarry where
  mem     : List Host.Cell          -- by bank × 1 MiB + byte in the bank; an unlisted byte reads 0 (R274)
  ue      : List (Nat × Nat)        -- bank words that read uncorrectable ↦ syndrome (R275)
  leases  : List (Nat × Nat)        -- semaphore ↦ expiry on the timer of Quarry island 0 (R284)
  march   : Option MarchRun
  copies  : List Nat                -- repair entries whose spare copy is in progress (R295)
  scrub   : Nat                     -- bank × 131,072 + word the patrol reads next (R277)
  burnRpr : List Nat                -- entries the burn in progress still has to fuse
  burnLn  : List Nat                -- lanes the burn in progress still has to fuse (R311)
  held    : List HeldAccess
  deriving DecidableEq, Repr

/-- The power ladder (chapter 17). -/
structure Power where
  target    : Nat               -- state being entered, or entered last
  entryAt   : Nat               -- instant of the entry decision (R432)
  step      : Nat               -- last step of R432 taken by the entry in progress, or by the one a wake aborted; 0 none
  exiting   : Bool              -- a wake has been accepted and the exit sequence runs
  wakeAt    : Nat               -- instant of that acceptance
  network   : Bool              -- the last entry came from network sleep
  confirm   : Option Nat        -- deadline of WAKE_CONFIRM after a line wake (R443)
  image     : List (Nat × Nat)  -- register image in the retention store (R429)
  window    : Option Nat        -- start of the false-wake window (R444)
  backoff   : Option Nat        -- RTC second at which back-off ends
  wakingEnd : Option Nat        -- end of the WAKING phase (R442)
  stopState : Nat               -- target announced with the stop course held
  voted     : List (Nat × Nat)  -- (position, slot) of the SLEEP votes heard in this course
  awake     : Bool              -- an AWAKE vote, or a REPORT, was heard in this course
  announce  : Option Nat        -- datum: course n of R437 while an announcement is being sent
  withdrawn : Bool              -- datum: the announcement is being withdrawn
  swLevel   : Nat               -- debounced levels of WAKE_SW0 to WAKE_SW3
  wokeBy    : Option Nat        -- port whose watcher woke the node and awaits the acknowledgement (R445)
  deriving DecidableEq, Repr

/-- The RTC's commit that waits for a course, and the detectors of retention (R381, R388). -/
structure RtcExtra where
  form    : Bool     -- FORM of the pending commit
  forced  : Bool
  brown   : Bool     -- BROWN latch
  oscStop : Bool     -- OSC_STOP latch
  deriving DecidableEq, Repr

/-- What the metering island has been stamped with and not yet decided (R356, R357); `valid` is TIME_VALID just before. -/
inductive MtrEvent where
  | edge (nominal : Nat) (stamp : Nat) (valid : Bool)                        -- a billing edge
  | set (oldSec oldSub newSec newSub : Nat) (stamp : Nat) (valid : Bool)     -- a commit
  | stop (sec sub : Nat) (stamp : Nat) (valid : Bool)                        -- EN written 0 (R353)
  deriving DecidableEq, Repr

/-- One metering channel and its part of the open period (R350, R351, R369). -/
structure MtrChan where
  counter : Nat      -- mJ
  atOpen  : Nat      -- counter at the open period's start
  residue : Int      -- in 1/(2^31 · 10^27) mJ, so that every product adds exactly
  cov     : Nat      -- coverage in ns
  flags   : Nat      -- channel flags of the open period
  joined  : Bool     -- it belongs to the open period (R352)
  deriving DecidableEq, Repr

/-- A scaled result pair: channel, stamp, length in ns, nV, pA, channel flags it brings (R321). -/
structure MtrPair where
  chan  : Nat
  stamp : Nat
  len   : Nat
  v     : Int
  i     : Int
  flags : Nat
  deriving DecidableEq, Repr

/-- The metering island beside the MTR and TALY registers (chapter 13). -/
structure Meter where
  chans     : List MtrChan                  -- 48
  isOpen    : Bool                          -- a period is open
  edgeAt    : Option Nat                    -- stamp of the edge that opened the open period (R361)
  span      : Nat                           -- nominal intervals the open period has run through
  events    : List MtrEvent                 -- stamped, not yet decided
  late      : List MtrPair                  -- pairs that belong to the period the first event opens
  waiting   : List (List (Nat × List Nat))  -- closed records that wait for room: channel, 64 bytes
  lastEnd   : Option Nat                    -- RTC second of the last close by a stop
  snapCount : Nat                           -- snapshot count (R366)
  retained  : Option (List Nat)             -- the snapshot in the retention store
  saveAt    : Nat                           -- instant at which the Vault save began
  boundary  : List MtrChan                  -- a standby's entries as at the last boundary (R370)
  seqThen   : Nat                           -- its sequence number there
  closed    : Bool                          -- it has closed a period since
  deriving DecidableEq, Repr

/-! ### Load channels (chapter 12) -/

/-- A measurement window (R322): kind 0 off, 1 on, 2 proof; its bounds in line time, and the sums of its results. -/
structure LWin where
  kind     : Nat
  opened   : Nat
  close    : Option Nat
  n        : Nat
  sumI     : Int
  sumV     : Int
  sumP     : Int
  sqI      : Nat
  sqV      : Nat
  overI    : Bool
  overV    : Bool
  deferred : Bool
  void     : Bool       -- an autozero ran in it (R320)
  deriving DecidableEq, Repr

/-- A load channel beside its LDS block. Instants are of the node's clock unless they say line time. -/
structure LChan where
  eff      : Nat               -- LAMP: the command its PWM runs (R325)
  latchLt  : Nat               -- line time of the last latch
  edgeAt   : Nat               -- line time of the last gate instant taken
  misses   : Nat               -- courses without an image command (R326)
  toSafe   : Bool              -- timeout action SAFE is in force
  clrLock  : Bool              -- CLR_LOCK waits for the next latch
  held     : Bool              -- short hold (R336)
  status   : Nat               -- on-window status
  stuck    : Bool              -- off-window status is STUCK_ON
  onV      : Nat               -- on-window verdict being counted, and its count
  onN      : Nat
  offV     : Nat
  offN     : Nat
  phase    : Nat               -- FEED: 0 off, 1 on, 2 tripped, 3 locked out
  gateAt   : Nat               -- last gate change
  settleTo : Option Nat        -- end of SETTLE_MS
  retryAt  : Option Nat        -- end of RETRY_MS
  clrFrom  : Nat               -- start of active gate without a trip
  overAt   : Option Nat        -- stamp, on the clock, of the first result at or above I_OVER without a break
  fast     : Bool              -- the last result was at or above I_SHORT
  provenAt : Option Nat        -- close of the last passing proof window
  proofEnd : Nat               -- line time at which the proof pulse in progress ends, 0 none
  proofAt  : Option Nat        -- line time of the start of the previous proof
  windows  : List LWin         -- oldest first
  low      : Bool              -- HEATER: a voltage result at or below −328 has been seen since the last crossing
  crossAt  : Option Nat        -- stamp of the last crossing
  crosses  : Nat               -- crossings in the window
  validAt  : Nat               -- instant of the last valid crossing
  learnN   : Nat               -- windows still to learn
  learnSum : Int               -- in pA
  azN      : Nat               -- results still to average (R320)
  azI      : Int
  azV      : Int
  snap     : Nat               -- status at the last boundary (R248)
  deriving DecidableEq, Repr

/-! ### The line: schedule, composition, ports -/

/-- A slot entry of an Uliros image (R102). -/
structure Slot where
  start  : Nat      -- ns from the boundary
  len    : Nat
  kind   : Nat      -- 0 EMPTY, 1 SYNC, 2 SETOUT, 3 CLAIM_REQ, 4 CLAIM_DEC, 5 ANNOUNCE, 6 PROC, 7 MSG, 8 VOTE, 9 QUOIN
  mode   : Nat      -- 0 none, 1 position, 2 UID index, 3 datum, 4 contended
  noA    : Bool
  val    : Nat
  dst    : Nat
  maxLen : Nat      -- words
  stream : Nat
  deriving DecidableEq, Repr

/-- A schedule (R101, R108). -/
structure Sched where
  id       : Nat
  courseUs : Nat
  gapUs    : Nat
  genset   : Nat
  profile  : Nat
  uids     : List Nat
  slots    : List Slot
  crc      : Nat
  deriving DecidableEq, Repr

/-- What the datum's PLAN says (R116). -/
structure Plan where
  commit    : Nat
  gen       : Nat
  count     : Nat
  keySwitch : Bool
  handover  : Bool
  sched     : Nat
  segs      : List Nat      -- segment words 1 to 3 (R119)
  joinGen   : Nat
  mine      : Bool          -- this node planned it
  joining   : Bool          -- this node takes its place through a segment of source 2
  refused   : Bool          -- KEY_SWITCH with no valid next key (R139)
  deriving DecidableEq, Repr

/-- A port under probe (R115, R116) and what its partner's last PROBE said. -/
structure Probe where
  port   : Nat
  passed : Nat          -- consecutive courses with a valid exchange
  seen   : Bool         -- a valid PROBE arrived in this course
  uid    : Nat
  pos    : Nat
  count  : Nat
  pref   : Bool
  arb    : Bool
  datum  : Bool
  gen    : Nat
  outer  : Nat
  inst   : Bool         -- admitted only under an installer key (R138)
  deriving DecidableEq, Repr

/-- Positions that hang off the walk of the line at one node (R113): what lies behind port `port` of the hub at position `hub`
(0 and 0xFF where this node does not know them), or, with `mid`, the first of the two arms of a datum that is at no end. -/
structure Limb where
  hub   : Nat
  port  : Nat
  first : Nat
  last  : Nat
  mid   : Bool
  deriving DecidableEq, Repr

/-- Setting-out and claims (chapters 03 and 04) beside the SETO, SCHD and ADM registers. -/
structure SetOut where
  back      : Nat                    -- state PROBING returns to
  probes    : List Probe
  event     : Option (List Nat)      -- the REPORT payload this node repeats until it is answered
  held      : List (List Nat × Nat)  -- events held until the state allows them, with their DST (R140)
  limbs     : List Limb              -- branches and arms as the plans have shown them (R113)
  eventDst  : Nat
  eventFrom : Nat                    -- first course in which it may be sent
  sentAt    : Option Nat             -- course in which it was last sent
  stored    : List (Nat × List Nat)  -- REPORTs to send on, with their DST (R117)
  relayed   : Bool                   -- the REPORT slot of this course carries the node's own REPORT
  plan      : Option Plan
  answers   : List (Nat × List Nat)  -- datum: REPORTs to answer, in order: course of receipt, payload
  sending   : List (Nat × Nat × List Nat)   -- datum: (course, FLAGS, payload) for slot 3
  aborted   : Bool                   -- datum: the pending plan has already been superseded once (R120)
  trigger   : Nat                    -- course of the trigger
  syncSeen  : Bool                   -- a valid SYNC arrived in this course
  foreign   : Bool                   -- a foreign-generation SYNC arrived in this course
  foreigns  : Nat                    -- consecutive courses with one and no own SYNC (R124)
  orphanAt  : Option Nat             -- course in which ORPHAN was entered
  provis    : Bool                   -- provisional datum (R132)
  provisAt  : Nat                    -- first course in which it transmits slot 0
  alt       : Nat                    -- position of a provisional datum heard of, 0 none
  silent    : Bool                   -- a joiner after its first PLAN (R131)
  excluded  : List Nat               -- ports excluded (R133)
  syncs     : List (Nat × Nat)       -- the survivor's last two SYNCs (R155): course, boundary
  facing    : Option Nat             -- datum-facing port
  cab       : Bool                   -- CAB_ACTIVE after debounce
  cpl       : Nat                    -- CPL_A, CPL_B after debounce
  partner   : List (Nat × Nat)       -- twin partner UIDs by table UID (R241)
  arbs      : List Nat               -- UIDs of arbiters heard of (R128)
  prefMoved : List (Nat × Nat)       -- UID ↦ course in which its ROLL last changed the preference (R130)
  planFor   : Option (List Nat)      -- datum: the REPORT that the pending plan answers (R120)
  claimKept : List (Nat × Nat)       -- quoin ↦ lowest competing UID of the closing course (R88)
  claimNow  : List (Nat × Nat)       -- the same, in this course
  claimRel  : Bool                   -- a RELEASE is to be sent
  claimSent : Bool                   -- the node has sent a CLAIM frame in this course
  claims    : List (List Nat)        -- datum: CLAIM requests of this course
  claimsP   : List (List Nat)        -- of the course before
  claimsPP  : List (List Nat)        -- of the course before that
  quoins    : List (Nat × Nat)       -- quoin slot ↦ owner UID
  hub       : Nat                    -- HUB_EN, END0_BRANCH, END1_BRANCH in effect (R178)
  heard     : List Nat               -- positions heard in this course (R174)
  unheard   : List (Nat × Nat)       -- position ↦ consecutive courses in which it was not heard
  grants    : List (Nat × Nat × Nat) -- (course, slot, UID) granted and not yet in effect
  releases  : List Nat               -- quoins released in this course
  deriving DecidableEq, Repr

/-- Line time beside the LINE registers (chapter 05). -/
structure Pacing where
  theta    : Option Int        -- θ at the datum-facing port from this course's exchange
  syncEps  : Option Int        -- ε from this course's SYNC
  slew     : Int               -- the slew begun at the last boundary (R151)
  stepped  : Bool              -- a backward step has been taken for the boundary still to come
  haltAt   : Nat               -- instant at which PLL_TRW was lost
  haltN    : Nat               -- Lintel boundaries since then
  models   : List (Nat × Nat × Nat × Option Nat)   -- path models: UID ↦ D0, L1, K (R154)
  deriving DecidableEq, Repr

/-- A Lintel map (after R164). -/
structure LMap where
  courseNs : Nat
  n        : Nat
  g        : Nat
  gap      : Nat            -- G from the boundary
  w        : Nat
  pos      : Nat
  count    : Nat
  gen      : Nat
  datum    : Bool
  standby  : Bool
  facing   : Bool
  dSync    : Nat
  atCourse : Nat
  entries  : List (Nat × Nat × Nat × Nat)   -- START_NS, LEN_NS, owner position, class
  db       : Option Nat                     -- hub map: D_b, none while the branch closes at G (R179)
  behind   : List Nat                       -- hub map: positions behind the branch
  deriving DecidableEq, Repr

/-- One Spaka port: its PHY, its timing exchanges, its Lintel and its branch gate (chapters 03, 05, 06). -/
structure Line where
  lfsr     : Nat                    -- role dither (R74)
  attempt  : Option (Nat × Nat × Bool)  -- link attempt: the instant it ends, its generation and role (R74)
  lastRx   : Nat                    -- Spaka-A: instant of the last frame that passed HCHK (R71)
  rxTiming : List (Nat × Int × Nat) -- partner UID ↦ m of its last TIMING frame, and the stamp of its W0 (R149)
  peer     : Option Nat             -- UID of the partner, from its last PROBE or TIMING frame (R147)
  probeTx  : Option Nat             -- transmit stamp of the last PROBE (R116)
  probeRx  : Option Nat             -- receive stamp of the partner's last PROBE
  dSent    : Option Int             -- d as last sent
  outliers : Nat                    -- consecutive outliers
  ofs      : Int                    -- the Lintel's boundary minus the Trowel's
  lead     : Nat                    -- the Lintel's course count minus the Trowel's (R167)
  map      : Option LMap
  shadow   : Option (LMap × Bool)   -- the map being loaded, and whether the CRCs agreed
  crcBad   : Bool                   -- the active map's CRC disagreed in this course (R166)
  arming   : Bool                   -- REARM has been entered and has not ended (R168)
  primed   : Bool                   -- REARM has its SYNC token; opens at the next boundary (R168)
  sending  : Option (Nat × Nat × List Nat)   -- a frame of this course's own slot: slot, start, words
  relaying : Option (Nat × Nat)     -- a relayed frame: slot, and the line time at which it ends
  ownCar   : Bool                   -- own carrier in this course (R174)
  wakeAt   : Nat                    -- instant of the last WAKE frame (R176)
  passedAt : Nat                    -- instant at which the link came up or the Lintel last passed a frame (R445)
  hold     : Bool                   -- Lintel test hold (R308)
  behind   : List Nat               -- positions behind the branch
  violRun  : Nat                    -- consecutive courses with a violation
  violNow  : Bool
  deriving DecidableEq, Repr

/-! ### The Trowel -/

/-- A frame context in use: its number, and the whole engine state of the frame or message it serves (R195, R197). -/
structure Ctx where
  num    : Nat
  chan   : Nat
  state  : Nat         -- 1 BOUND, 2 MOVING, 3 CHECKING, 4 COMMITTING, 5 WAITING
  since  : Nat         -- instant of entering the state
  slot   : Nat         -- own slot, or 0x400 + index of what it serves
  header : List Nat    -- W0 to W7 of the frame
  dest   : Option Nat  -- destination buffer
  words  : Nat         -- words moved
  crc    : Nat         -- running CRC-32
  mac    : Nat         -- CMAC state: the tag it has come to
  stamps : List Nat
  deriving DecidableEq, Repr

/-- A frame whose header a port island holds while a slice isolates the engine (R194): what the Trowel will be offered. -/
structure Crossing where
  port    : Nat
  stamp   : Nat
  stop    : Nat
  words   : List Nat
  relayed : Bool
  close   : Option Int
  short   : Bool
  desc    : List Nat
  coll    : Nat
  deriving DecidableEq, Repr

/-- A message being received (R99, R100). -/
structure RxMsg where
  uid      : Nat
  src      : Nat
  stream   : Nat
  id       : Nat
  next     : Nat
  last     : Nat
  words    : List Nat
  seq      : Nat         -- stream sequence of its last fragment
  course   : Nat         -- course of its last fragment
  deferred : Bool
  restart  : Bool
  stamp    : Nat
  deriving DecidableEq, Repr

/-- A message to send: from transmit queue `q` (or from a map entry, `q` = 0x100 + entry for Ethernet, 0x200 + entry
for CAN), its descriptor's place and the fragments sent so far. -/
structure TxMsg where
  q      : Nat
  idx    : Nat          -- descriptor counter
  stream : Nat
  dst    : Nat
  id     : Nat
  words  : List Nat
  frag   : Nat
  stamp  : Nat          -- line time of W0 of the first fragment
  desc   : List Nat     -- the descriptor as read
  bound  : Nat          -- fragments bound to a slot, those sent included
  deriving DecidableEq, Repr

/-- A local frame waiting in a transmit buffer: source (queue, or 0x100/0x200 + map entry), class, bytes, descriptor. -/
structure LocalTx where
  src  : Nat
  cls  : Nat
  data : List Nat
  idx  : Nat
  desc : List Nat
  deriving DecidableEq, Repr

/-- A completion held until those ahead of it are written (R201). -/
structure Done where
  idx  : Nat
  desc : List Nat
  deriving DecidableEq, Repr

/-- The Trowel beside its registers (chapter 07). -/
structure Trowel where
  rotate   : Bool                         -- a lane rotation waits for the wrap
  withdraw : List Nat                     -- lanes to be removed at the wrap (R193)
  ctxs     : List Ctx
  rx       : List RxMsg
  given    : List (Nat × Nat × Nat)       -- (UID, stream, identifier) last delivered (R203)
  broken   : List (Nat × Nat × Nat)       -- (UID, stream, identifier) of partial messages discarded
  tx       : List TxMsg
  streams  : List (Nat × Nat × Nat)       -- stream, next sequence, next identifier
  ctl      : Nat                          -- control sequence (R92)
  fetched  : List (Nat × Nat)             -- queue ↦ next descriptor counter to take
  done     : List (Nat × Done)            -- completions out of order, by queue
  imgFor   : Option Nat                   -- course the armed READY names
  late     : Bool                         -- no image for this course (R207)
  lateSent : Bool                         -- a null frame with cause HOST_LATE has gone out in this course
  bufTx    : List (Nat × List Nat)        -- slots bound to a context: slot ↦ kind, flags, words
  closing  : List Nat                     -- queues disabled whose message ends at the next fragment boundary (R204)
  relays   : List (Nat × Nat)             -- relay requests of this course: arrival in cycles, port (R187)
  crossing : List Crossing                -- header crossings that port islands hold (R194)
  tieHeld  : List (Nat × Nat × List Nat)  -- TIE work held for want of a context: type, course, payload (R196)
  deriving DecidableEq, Repr

/-- An IEEE 1588 message by its messageType in the standard the node supports (R161, R162): its sequence number and the
seconds and nanoseconds it carries (`req`: the request answered, as its source's ten-byte identity). Other fields are
those R161 names. -/
structure Ptp where
  kind   : Nat
  seq    : Nat
  sec    : Nat
  ns     : Nat
  req    : List Nat
  fields : List Nat
  log    : Nat                            -- logMessageInterval, as an octet
  dest   : Nat                            -- destination address of the IEEE 802.3 transport
  etype  : Nat                            -- its EtherType
  deriving DecidableEq, Repr

/-- A CAN frame (R220). -/
structure CanFrame where
  id  : Nat
  ide : Bool
  rtr : Bool
  fdf : Bool
  dlc : Nat
  brs : Bool
  esi : Bool
  data : List Nat
  deriving DecidableEq, Repr

/-- The local ports beside their registers (chapter 08). -/
structure Locals where
  ethTx   : List (Nat × LocalTx)          -- by LE port, in order
  canTx   : List (Nat × LocalTx)          -- by LC port, in order
  turn    : List (Nat × Nat)              -- port × 4 + class ↦ source served last
  pause   : List (Nat × Nat)              -- LE port ↦ end of a PAUSE
  bundles : List (Nat × List (List Nat))  -- LC map entry ↦ CAN records of the open bundle
  recover : List Nat                      -- LC ports counting towards recovery
  ptpSeq  : List (Nat × Nat)              -- LE port × 2 (+ 1 for Announce) ↦ sequence number
  ptpAt   : List (Nat × Nat)              -- the same ↦ instant of the last one
  ptpTx   : List (Nat × Ptp)              -- 1588 messages that wait for their LE port
  busOff  : List Nat                      -- LC ports in bus-off, which a monitoring port's STATE does not show (R228, R229)
  ethRx   : List (Nat × Nat × List Nat × List Nat)   -- LE receive buffers: port, stamp, frame, descriptor (R227)
  canRx   : List (Nat × Nat × CanFrame × List Nat)   -- LC receive buffers
  deriving DecidableEq, Repr

/-- A twin's or an arbiter's state beside the TWIN, TIE and PLMB registers (chapter 09). -/
structure Twin where
  roleLevel  : Nat                 -- ARB_ROLE as taken (R233)
  fencedIn   : Bool                -- ARB_FENCED as taken
  killPin    : Bool                -- ARB_KILL_N is low
  cmdAt      : Nat                 -- instant at which ROLE_CMD was taken
  cmdWas     : Nat                 -- ROLE_CMD as it stood at the boundary before it was taken (R234)
  fencedAt   : Nat                 -- instant at which ARB_FENCED was taken
  fencedWas  : Bool                -- ARB_FENCED as it stood at the boundary before
  sawCarrier : Bool                -- an end port saw carrier in an own window of this course
  swapAt     : Nat                 -- SWAP_AT proposed, or committed
  commit     : Bool                -- COMMIT for swapAt sent or received
  ackOk      : Bool                -- the last record sent was acknowledged
  lastTake   : Option Nat          -- course of the last takeover
  partnerAt  : Option Nat          -- course of the last HEALTH frame received
  recAt      : Option Nat          -- course of the last valid record
  stateDiff  : Bool
  selfDiff   : Bool
  would      : List (Nat × Nat)    -- own frames built in this course: slot ↦ C_f
  heard      : List (Nat × Nat)    -- own-position frames heard in this course
  heardBad   : Bool                -- one of them failed HCHK or CRC-32
  silent     : Bool                -- an own slot of this course was silent
  lastHeard  : Nat                 -- heard digest of the closing course
  pllLost    : Bool                -- a PLL lost lock in this course
  eccAt      : Option Nat          -- course of the last uncorrectable Quarry error
  outUntil   : Bool                -- OUT by R265 until ROLE_CMD changes
  snapshot   : List (Nat × Nat × Nat)      -- streams at the last boundary (R248)
  hbMiss     : List (Nat × Nat)    -- arbiter: twin ↦ consecutive heartbeats missed
  hbHeard    : List (Nat × Nat)    -- arbiter: twin ↦ course of the last heartbeat heard
  pmRun      : Nat                 -- arbiter: consecutive samples with the standby's PM high
  pairBad    : Nat                 -- arbiter: check failures from the pair's position in those courses
  swapSec    : Nat                 -- arbiter: RTC second of the last swap or takeover
  standby    : Nat                 -- arbiter: which twin it takes as the standby (0 A, 1 B)
  swapDue    : Bool                -- arbiter: a periodic swap waits to be tried again (R264)
  swapOn     : Bool                -- arbiter: swap levels are driven
  isOut      : Bool                -- the role held is OUT, a takeover pending or not
  driveCmd   : Nat                 -- most recent role command other than KEEP (R526)
  refused    : Bool                -- a swap was refused and the levels have not changed since (R263)
  pm         : Bool                -- PLUMB_MISMATCH is high
  twAct      : Bool                -- TW_ACT is high
  sameStrap  : Bool                -- SAME_STRAP holds (R471)
  prefDiff   : Bool                -- PAIR_PREF holds (R472)
  activePref : Bool                -- the active's DATUM_PREF as ROLL word 8 bit 1 gave it
  recSeq     : Nat                 -- Next Mark sequence of the last valid record (R400)
  recGen     : Nat                 -- its Mark generation
  staleTable : Bool                -- a table digest differed (R248)
  ownDigest  : Nat                 -- active: its own digest of the course that closed
  ownCount   : Nat
  dualBit    : Bool                -- DUAL_ACTIVE as the next health word shows it
  snapFrags  : List (Nat × Nat)    -- streams with a message in progress at the last boundary ↦ next fragment (R248)
  snapDigest : List Nat            -- context digests at the last boundary
  snapTable  : Nat                 -- table digest there
  snapHead   : List Nat            -- generation, position, count and SCHED_ID there
  deriving DecidableEq, Repr

/-- A register write staged by the shadow buffer of a block under test (R64). -/
structure Staged where
  ifc   : Nat
  addr  : Nat
  value : Nat
  be    : Nat
  deriving DecidableEq, Repr

/-- The host attachment beside the HOST and IRQ registers (chapters 02 and 18). -/
structure HostX where
  perst   : Bool                      -- PERST_N is high
  bme     : Bool                      -- Bus Master Enable
  msix    : Bool                      -- MSI-X Enable
  fmask   : Bool                      -- MSI-X function mask
  latch   : List (Nat × Nat × Nat)    -- values latched for an interface (R60, R377): interface, address, value
  parts   : List (Nat × Nat × Nat)    -- parts held for an interface (R60, R529): interface, address, value
  lbLow   : Option (Nat × Nat × Nat)  -- local bus: low half held: register address, value, byte enables (R453)
  lbHigh  : List (Nat × Nat)          -- local bus: high halves latched: register address ↦ value (R453)
  spiBad  : Bool                      -- the previous SPI frame was discarded
  wdogAt  : Nat                       -- instant of the last kick or expiry (R460)
  frozen  : List (Nat × List (Nat × Nat))  -- snapshot of a frozen page (R50)
  staged  : List Staged               -- writes staged for blocks under test (R64)
  reset   : List (Nat × Nat)          -- pages in soft reset ↦ instant at which it completes (R49)
  dmaDone : List (Nat × Nat)          -- DMA channel ↦ bytes copied so far
  deriving DecidableEq, Repr

/-- The Rubble dump beside the DUMP registers (chapter 20). -/
structure Dump where
  held    : Option Bool         -- a trigger that is held (R479): whether the watchdog gave it
  at_     : Nat                 -- instant of the acceptance of the trigger
  course  : Nat                 -- course of the last boundary token before it
  lt      : Nat                 -- line time at it
  sec     : Nat                 -- RTC at it
  sub     : Nat
  before  : List Nat            -- state codes of the 32 islands before it
  forced  : List Nat            -- islands force-stopped (R481)
  high    : Nat                 -- highest sequence found in a valid slot at the last start, or given since (R490)
  subset  : List Nat            -- subset being written to the Vault (R489)
  vault   : Bool                -- a program operation or an erase pulse that the freeze of the Vault waits for (R422)
  swrst   : Bool                -- TOP_SWRST waits for the end of step 4 (R493)
  flags   : Nat                 -- header flags of the image
  deriving DecidableEq, Repr

/-- The test access port (R521): the instruction in force (0 BYPASS, 1 IDCODE, 2 SAMPLE/PRELOAD, 3 EXTEST, 4 CLAMP,
5 HIGHZ) and the boundary register. -/
structure Tap where
  ir       : Nat
  boundary : Nat
  deriving DecidableEq, Repr

/-- Pins and supplies that no register holds (R385, R463, R506). -/
structure Pins where
  main     : Bool     -- main is valid (R385)
  therm    : Bool     -- THERM_N is low (R506)
  join     : Option Bool   -- GA_JOIN: `none` undriven, `some true` high (R70)
  testMode : Nat      -- TEST_MODE[3:0]
  pps      : Option Nat   -- line time of the last pulse on PPS_OUT (R506)
  back     : Bool     -- main has returned while the save of R366 runs: a start follows it (R392)
  deriving DecidableEq, Repr

/-- Readings of the on-chip monitors that commands are judged by (R311, R424, R506). -/
structure Monitors where
  vfuse : Nat     -- VFUSE in mV
  vao   : Nat     -- VAO in mV (R384)
  tj    : Int     -- Tj in 0.1 °C
  deriving DecidableEq, Repr

/-- The logic BIST controller (chapter 11). -/
structure SelfTest where
  running : List Nat           -- domains whose run is in progress
  due     : List (Nat × Nat)   -- domain ↦ instant from which its next run starts (R299)
  slices  : List (Nat × Nat)   -- slices in progress: domain ↦ instant of their start
  shadow  : List (Nat × Nat)   -- registers as they read when those slices began (R64): address ↦ value
  next    : Nat                -- domain from which the round-robin goes on (R306)
  laneEnd : Nat                -- instant at which the last rest-lane slice ended
  stale   : List Nat           -- domains whose slice in progress belongs to a run that was started again
  nine    : Bool               -- a boundary has followed the entry into degraded mode (R309)
  deriving DecidableEq, Repr

/-- Clock islands that have halted, frozen or stopped (R22, R42, R482). -/
structure Islands where
  pllLost : List Nat      -- PLLs out of lock: 0 to 7 PLL_SP, 8 TRW, 9 QRY, 10 TIE, 11 HST, 12 LDM
  frozen  : List Nat      -- islands the dump froze
  started : Nat           -- last start-up step completed (R462)
  token   : Nat           -- course number of the last boundary token (R31, CLMP), 0 since a start
  deriving DecidableEq, Repr

/-- What the node gives to the outside: the model's own record, newest first, of frames, messages, pulses and data. -/
inductive Emit where
  | line (port : Nat) (start : Nat) (words : List Nat)   -- a Spaka transmission and the line time at which it begins
  | cut (port : Nat) (slot : Nat)                        -- a transmission cut short by a Lintel or the kill
  | lead (port : Nat) (start : Nat)                      -- a lead-in or preamble that no W0 follows (R171)
  | tie (kind : Nat) (bytes : List Nat)                  -- a Tie link frame
  | beat (bytes : List Nat)                              -- a heartbeat frame on HB_OUT (R255)
  | msix (vector addr data : Nat)                        -- an MSI-X message (R457)
  | eth (port : Nat) (bytes : List Nat)                  -- a local Ethernet frame
  | ptp (port : Nat) (message : Ptp)                     -- a 1588 message on an LE port (R161)
  | can (port : Nat) (record : List Nat)                 -- a CAN FD frame, in the form of R220
  | hostRead (ifc : Nat) (addr value : Nat)              -- data a register or window read returns
  | quarry (master addr : Nat) (status : Nat) (data : Nat) -- the answer to a Quarry access
  | hostMem (addr : Nat) (bytes : List Nat)              -- a posted write to host memory (R450)
  | spi (bytes : List Nat)                               -- bytes on SPI_MISO
  | pulse (name : String)                                -- a pulse of 1 µs on an output pin (R506)
  | tap (instruction : Nat) (value : Nat)                -- the register a TAP instruction selects (R521)
  | wake (port : Nat)                                    -- the wake pattern of a PHY
  deriving DecidableEq, Repr

/-! ### Physical facts that commands bring -/

/-- What the bits of the word read turn out to hold, a fact of the memory cells. -/
inductive Upset where
  | none | single (syndrome : Nat) | multi (syndrome : Nat)
  deriving DecidableEq, Repr

/-- A cell that failed a march: row, column, slice. -/
structure FailCell where
  row   : Nat
  col   : Nat
  slice : Nat
  deriving DecidableEq, Repr

/-- What a march run of one bank finds: spares that fail their own march, cells that fail, and whether the quick run
with the spares in place passes (R293, R294). -/
structure MarchFacts where
  bank      : Nat
  badSpares : List Nat        -- entries 0 to 11 of the bank
  cells     : List FailCell
  element   : Nat             -- element of the first failure
  again     : Bool
  deriving DecidableEq, Repr

/-- A member's part in the TIMING exchange on a Spaka-A segment: it replies, or begins as X (R148), and read-back finds a
mismatch (R69). -/
structure TimingTurn where
  reply : Bool
  coll  : Bool
  deriving DecidableEq, Repr

/-- What a PHY noted of a frame: RS-FEC codewords corrected and not correctable (Spaka-C), whether a Manchester code
violation outside a delimiter ended it (Spaka-A), and the Spaka-A ports on which read-back finds a mismatch while the frame
is relayed onto them (R69). -/
structure RxPhy where
  corrected   : Nat
  uncorrected : Nat
  violation   : Bool
  coll        : Nat
  deriving DecidableEq, Repr

/-- What a slice found: extreme VDD_CORE readings and the last one in mV, the clock error in 0.01 %, PLL locked, a
checkpoint mismatch, and for domain 9 the lane a mismatch names. -/
structure SliceFacts where
  vddMin   : Nat
  vddMax   : Nat
  vddLast  : Nat
  freqErr  : Int
  pll      : Bool
  mismatch : Bool
  lane     : Nat
  deriving DecidableEq, Repr

/-- How the read-back verify of a program operation ends (R410, R415). -/
inductive Verify where
  | clean | corrected | failed
  deriving DecidableEq, Repr

/-- How a CAN transmission ends: sent, arbitration lost, an error, or no acknowledgement, which a port that is error passive and
sees no dominant bit during its passive error flag does not count (R214, ISO 11898-1). -/
inductive CanEnd where
  | sent | lost | error | unacked
  deriving DecidableEq, Repr

/-- What a CAN receiver made of a frame: intact, in error, or in error with a dominant bit after its own error flag, which
counts eight (R214, ISO 11898-1). -/
inductive CanRx where
  | intact | error | dominant
  deriving DecidableEq, Repr

/-- New evidence for the arbiter (R256, R257). -/
inductive Evidence where
  | window (a b : Option (List Nat)) (pmA pmB : Bool)   -- the heartbeat window of the course, PM sampled at its end
  | silent (slot : Nat) (pm : Bool)                     -- an own slot of the pair was silent; the standby's PM 2 µs later
  deriving DecidableEq, Repr

/-- What the fuses of the part hold: the UID, lanes blown as failed, fuse words spent by bank, repair entries
(12 × bank + entry ↦ register word). -/
structure Fuses where
  uid     : Nat
  lanes   : Nat
  spent   : List (Nat × Nat)
  repairs : List (Nat × Nat)
  deriving DecidableEq, Repr

/-- What start-up LBIST finds in a domain (R313). -/
structure BootTest where
  domain    : Nat
  abandoned : Bool     -- more than 3 INVALID slices
  ckpt      : Nat      -- failing checkpoint, 1 or 2; 0 where it passed
  deriving DecidableEq, Repr

/-- What a start meets: strap levels, TEST_MODE, fuse blocks that fail their check, PLLs that fail to lock, remap copies
lost, cells that fail the march, LBIST outcomes, and how long it takes in ns. -/
structure StartFacts where
  straps   : Nat
  testMode : Nat
  loadErr  : Nat
  plls     : Nat
  mapLost  : Bool
  march    : List MarchFacts
  lbist    : List BootTest
  took     : Nat
  deriving DecidableEq, Repr

/-- What a register write may meet outside the node: the start that a node reset runs into, the units of eight bytes a
DMA channel has copied before an ABORT, and the host memory it read for them. -/
structure WFacts where
  start : StartFacts
  units : Nat
  host  : List Nat
  deriving DecidableEq, Repr

/-! ### What the parts hold when nothing has happened yet -/

/-- The built-in schedule (R108). -/
def builtIn : Sched :=
  let c (start len kind mode maxLen : Nat) : Slot := ⟨start, len, kind, mode, false, 0, 63, maxLen, 0xFFFF⟩
  { id := 0, courseUs := 10000, gapUs := 486, genset := 7, profile := 2, uids := [], crc := 0,
    slots := [c 0 150000 1 3 4, c 150000 580000 2 4 10, c 730000 580000 2 4 10, c 1310000 195000 2 3 10,
              c 1505000 195000 2 0 10, c 1700000 565000 3 4 8, c 2265000 180000 4 3 8, c 2445000 150000 5 3 4]
             ++ (List.range 8).map (fun i => c (2595000 + 1000 * i) 1000 0 0 0) }

/-- A load channel of KIND NONE. -/
def LChan.zero : LChan :=
  { eff := 0, latchLt := 0, edgeAt := 0, misses := 0, toSafe := false, clrLock := false, held := false, status := 15,
    stuck := false, onV := 0, onN := 0, offV := 0, offN := 0, phase := 0, gateAt := 0, settleTo := none, retryAt := none,
    clrFrom := 0, overAt := none, fast := false, provenAt := none, proofEnd := 0, proofAt := none, windows := [], low := false,
    crossAt := none, crosses := 0, validAt := 0, learnN := 0, learnSum := 0, azN := 0, azI := 0, azV := 0, snap := 15 }

/-- A metering channel with an empty counter. -/
def MtrChan.zero : MtrChan := { counter := 0, atOpen := 0, residue := 0, cov := 0, flags := 0, joined := false }

/-- A port at a start; its dither register is seeded by the start (R74). -/
def Line.zero : Line :=
  { lfsr := 1, attempt := none, lastRx := 0, rxTiming := [], peer := none, probeTx := none, probeRx := none, dSent := none, outliers := 0,
    ofs := 0, lead := 0, map := none, shadow := none, crcBad := false, arming := false, primed := false, sending := none,
    relaying := none, ownCar := false, wakeAt := 0, passedAt := 0,
    hold := false, behind := [], violRun := 0, violNow := false }

/-- Setting-out before any event. -/
def SetOut.zero : SetOut :=
  { back := 0, probes := [], event := none, held := [], limbs := [], eventDst := 0, eventFrom := 0, sentAt := none, stored := [], relayed := false,
    plan := none, answers := [], sending := [], aborted := false, trigger := 0, syncSeen := false, foreign := false, foreigns := 0,
    orphanAt := none, provis := false, provisAt := 0, alt := 0, silent := false, excluded := [], syncs := [], facing := none,
    cab := false, cpl := 0, partner := [], arbs := [], prefMoved := [], planFor := none, claimKept := [], claimNow := [], claimRel := false, claimSent := false, claims := [],
    claimsP := [], claimsPP := [], quoins := [], hub := 0, heard := [], unheard := [], grants := [], releases := [] }

/-- Line time before any correction. -/
def Pacing.zero : Pacing := { theta := none, syncEps := none, slew := 0, stepped := false, haltAt := 0, haltN := 0, models := [] }

/-- An idle Trowel. -/
def Trowel.zero : Trowel :=
  { rotate := false, withdraw := [], ctxs := [], rx := [], given := [], broken := [], tx := [], streams := [], ctl := 0,
    fetched := [], done := [], imgFor := none, late := false, lateSent := false, bufTx := [], closing := [], relays := [],
    crossing := [], tieHeld := [] }

/-- Idle local ports. -/
def Locals.zero : Locals :=
  { ethTx := [], canTx := [], turn := [], pause := [], bundles := [], recover := [], ptpSeq := [], ptpAt := [], ptpTx := [],
    busOff := [], ethRx := [], canRx := [] }

/-- A twin, or an arbiter, that has just started. -/
def Twin.zero : Twin :=
  { roleLevel := 0, fencedIn := false, killPin := false, cmdAt := 0, cmdWas := 0, fencedAt := 0, fencedWas := false, sawCarrier := false,
    swapAt := 0, commit := false, ackOk := false, lastTake := none, partnerAt := none, recAt := none, stateDiff := false,
    selfDiff := false, would := [], heard := [], heardBad := false, silent := false, lastHeard := 0,
    pllLost := false, eccAt := none, outUntil := false, snapshot := [], hbMiss := [], hbHeard := [], pmRun := 0, pairBad := 0,
    swapSec := 0, standby := 1, swapDue := false, swapOn := false, isOut := false, driveCmd := 0, refused := false, pm := false,
    twAct := false, sameStrap := false, prefDiff := false, activePref := false, recSeq := 0, recGen := 0, staleTable := false,
    ownDigest := 0, ownCount := 0, dualBit := false, snapFrags := [], snapDigest := [], snapTable := 0, snapHead := [] }

/-- The metering island with nothing metered. -/
def Meter.zero : Meter :=
  { chans := List.replicate 48 MtrChan.zero, isOpen := false, edgeAt := none, span := 1, events := [], late := [], waiting := [],
    lastEnd := none, snapCount := 0, retained := none, saveAt := 0, boundary := [], seqThen := 0, closed := false }

/-- The recorder with nothing recorded. -/
def Marks.zero : Marks :=
  { queue := [], held := [], tokens := 0, tokenAt := 0, supN := 0, dropN := 0, supCode := 0, live := false, fInForce := 0,
    recs := [], firstOff := 0, recentOff := 0, firstFull := false, toMirror := [], gapFrom := 0, gapTo := 0, vFirstOff := 0,
    vRecentOff := 0, vSectors := 0 }

/-- The Quarry with nothing stored. -/
def Quarry.zero : Quarry :=
  { mem := [], ue := [], leases := [], march := none, copies := [], scrub := 0, burnRpr := [], burnLn := [], held := [] }

/-- A Vault as manufactured. -/
def Vault.zero : Vault :=
  { mem := [], remap := [], wear := [], ue := [], ops := [], bootKey := none, retireQ := [], updates := 0 }

/-- The power ladder in RUN, with nothing entered yet. -/
def Power.zero : Power :=
  { target := 0, entryAt := 0, step := 0, exiting := false, wakeAt := 0, network := false, confirm := none, image := [],
    window := none, backoff := none, wakingEnd := none, stopState := 0, voted := [], awake := false, announce := none,
    withdrawn := false, swLevel := 0, wokeBy := none }

/-- The host attachment before any access; PERST_N is low. -/
def HostX.zero : HostX :=
  { perst := false, bme := false, msix := false, fmask := false, latch := [], parts := [], lbLow := none, lbHigh := [],
    spiBad := false, wdogAt := 0, frozen := [], staged := [], reset := [], dmaDone := [] }

/-- No dump taken. -/
def Dump.zero : Dump :=
  { held := none, at_ := 0, course := 0, lt := 0, sec := 0, sub := 0, before := [], forced := [], high := 0, subset := [],
    vault := false, swrst := false, flags := 0 }

/-- The BIST controller before any run. -/
def SelfTest.zero : SelfTest :=
  { running := [], due := [], slices := [], shadow := [], next := 0, laneEnd := 0, stale := [], nine := false }

end Sys2Proof.Machine
end

