-- ==== Sys2Proof/Syntax.lean ====
section
/-! DEFINITION. The commands of the block: one constructor per row of spec/opcode_table.json, in its order. A command names
what a host interface, a pin, a link or a clock does to the node, with the operands it has. Operands called `facts`, `found`,
`host`, `took` and the like are what the node meets outside itself at that instant. -/

namespace Sys2Proof

open Sys2Proof.Machine

/-- A command. -/
inductive Instr where
  /-- REGISTER_WRITE: a host write (R44 to R65) of the aligned register at BAR0 address `addr`. -/
  | registerWrite (ifc : Ifc) (addr : BitVec 18) (value : Reg) (be : BitVec 4) (facts : WFacts)
  /-- HELD_PART_WRITE: a write to a lower part of a value that spans registers, held for its interface (R60). -/
  | heldPartWrite (ifc : Ifc) (addr : BitVec 18) (value : Reg) (be : BitVec 4) (facts : WFacts)
  /-- LO_PART_READ_LATCH: a read of the least significant register of a value, which latches the other parts for its
      interface (R60). -/
  | loPartReadLatch (ifc : Ifc) (addr : BitVec 18) (facts : WFacts)
  /-- RTC_NOW_SUB_READ: a read of RTC_NOW_SUB, which latches the count and both calendar registers as one instant
      (R377). -/
  | rtcNowSubRead (ifc : Ifc) (facts : WFacts)
  /-- SOFT_RESET: PG_CTRL.SRST of a page written 1 (R49). -/
  | softReset (ifc : Ifc) (page : Page) (facts : WFacts)
  /-- SOFT_RESET_DONE: the soft reset of a page completes, `took` ns after it began and no later than 10 µs (R49). -/
  | softResetDone (page : Page) (took : Nat) (facts : WFacts)
  /-- PAGE_ENABLE: PG_CTRL.EN of a page written (R48). -/
  | pageEnable (ifc : Ifc) (page : Page) (on : Bool) (facts : WFacts)
  /-- PAGE_FREEZE: PG_CTRL.FREEZE of a page written (R50). -/
  | pageFreeze (ifc : Ifc) (page : Page) (on : Bool) (facts : WFacts)
  /-- PAGE_LOCK: PG_LOCK of a page written 1 (R51). -/
  | pageLock (ifc : Ifc) (page : Page) (facts : WFacts)
  /-- CLAMP_REPORT_CLEAR: PG_CLAMP.VALID of a page written 1 (R58). -/
  | clampReportClear (ifc : Ifc) (page : Page) (facts : WFacts)
  /-- SOFTWARE_RESET: the key written to TOP_SWRST (R463). -/
  | softwareReset (ifc : Ifc) (facts : WFacts)
  /-- RESET_PIN: RST_N low for `low` ns: a pulse shorter than 1 µs is ignored (R463). -/
  | resetPin (low : Nat) (facts : StartFacts)
  /-- POWER_ON: power good and a full start (R462): what it meets, the fuses of the part, and what the canary reads.
      -/
  | powerOn (facts : StartFacts) (fuses : Fuses) (canary : Reg)
  /-- HELD_TRANSFER_DELIVERY: a held transfer is delivered once nothing holds it (R24). -/
  | heldTransferDelivery
  /-- PLL_LOCK_LOSS: a PLL loses lock (R42): 0 to 7 PLL_SP, 8 TRW, 9 QRY, 10 TIE, 11 HST, 12 LDM. -/
  | pllLockLoss (pll : Fin 13)
  /-- PLL_RELOCK: a halted PLL locks again (R153). -/
  | pllRelock (pll : Fin 13)
  /-- COURSE_BOUNDARY: line time reaches the start of the next course (R33). -/
  | courseBoundary
  /-- SLOT_TRANSMIT: the start of a slot by the own line time (R83). `rival` is the lowest other UID that counts down
      in a contended slot on Spaka-A, `coll` the Spaka-A ports on which read-back finds a mismatch (R69). -/
  | slotTransmit (slot : Fin 1024) (rival : Option (BitVec 48)) (coll : BitVec 8)
  /-- TX_CONTEXT_BIND: the context of an own slot is bound at TRW_TX_LEAD before it starts (R205); `held` tells that a
      slice held the transfer. -/
  | txContextBind (slot : Fin 1024) (held : Bool)
  /-- FRAME_RECEIVE: a Spaka frame has arrived whole on a port (R97): the line time of its W0, its words, whether it
      met a wheel short of fast entries, the receive descriptor a host queue in host memory would hold, and what the
      PHY noted. -/
  | frameReceive (port : Port) (stamp : DWord) (words : Frame) (short : Bool) (desc : List Byte) (phy : RxPhy)
  /-- MSG_REASSEMBLY_TIMEOUT: partial messages 16 courses old are discarded (R100). -/
  | msgReassemblyTimeout
  /-- LINK_ATTEMPT: a link attempt begins (R74). -/
  | linkAttempt (port : Port)
  /-- LINK_UP: the PHY reports link (R75); generation and role are those a listening twin reports (R526). -/
  | linkUp (port : Port) (gen : BitVec 2) (master : Bool)
  /-- LINK_DOWN: the PHY reports the loss of its link (R75). -/
  | linkDown (port : Port)
  /-- SPAKA_A_LINK_EXPIRY: 30 ms without a frame that passes HCHK (R71). -/
  | spakaALinkExpiry (port : Port)
  /-- SPK_CFG_WRITE: SPK_CFG of a port written (R525). -/
  | spkCfgWrite (ifc : Ifc) (port : Port) (value : Reg) (facts : WFacts)
  /-- PMA_TEST_MODE: SPK_TEST.MODE of a port written (R524). -/
  | pmaTestMode (ifc : Ifc) (port : Port) (mode : BitVec 4) (facts : WFacts)
  /-- SCHEDULE_LOAD: SCHD_CMD.LOAD (R106). -/
  | scheduleLoad (ifc : Ifc) (facts : WFacts)
  /-- SCHEDULE_VALIDATION_DONE: validation of an image ends (R528). -/
  | scheduleValidationDone
  /-- SCHEDULE_DISCARD: SCHD_CMD.DISCARD (R107). -/
  | scheduleDiscard (ifc : Ifc) (facts : WFacts)
  /-- CLAIM_START: SCHD_CLAIM_CMD.CLAIM (R88). -/
  | claimStart (ifc : Ifc) (facts : WFacts)
  /-- CLAIM_RELEASE: SCHD_CLAIM_CMD.RELEASE (R90). -/
  | claimRelease (ifc : Ifc) (facts : WFacts)
  /-- COUPLING_CHANGE: CPL_A (0) or CPL_B (1) has been stable at a level for CPL_DEB (R115, R140); asleep the node
      only keeps the level. -/
  | couplingChange (port : Fin 2) (level : Bool)
  /-- CAB_ACTIVE_CHANGE: CAB_ACTIVE after its debounce (R130). -/
  | cabActiveChange (level : Bool)
  /-- SETOUT_START: SETO_CMD.START (R140). -/
  | setoutStart (ifc : Ifc) (facts : WFacts)
  /-- SYNC_LOSS: three courses without a valid SYNC (R132); `beyond` tells that the break lies next to this node on
      the side of the datum. -/
  | syncLoss (beyond : Bool)
  /-- REPORT_REPEAT_TIMEOUT: a REPORT unanswered for 3 courses is repeated (R117). -/
  | reportRepeatTimeout
  /-- ORPHAN_TIMEOUT: an ORPHAN without REPORT and PLAN for 3 courses becomes ALONE (R140). -/
  | orphanTimeout
  /-- JOINER_ADOPTION: a joiner adopts the survivor's line time at the commit boundary (R155). -/
  | joinerAdoption
  /-- KEY_INSTALL: ADM_KEY3 written: the held 128-bit key is installed (R529). -/
  | keyInstall (ifc : Ifc) (high : Reg) (facts : WFacts)
  /-- KEY_SELECT: ADM_KEYSEL written (R529). -/
  | keySelect (ifc : Ifc) (slot : BitVec 2) (facts : WFacts)
  /-- KEY_ROLL: ADM_CMD.ROLL (R139). -/
  | keyRoll (ifc : Ifc) (facts : WFacts)
  /-- KEY_CLEAR: ADM_CMD.CLEAR_KEY (R530). -/
  | keyClear (ifc : Ifc) (facts : WFacts)
  /-- STRANGER_TABLE_CLEAR: ADM_CMD.STR_CLEAR (R137). -/
  | strangerTableClear (ifc : Ifc) (facts : WFacts)
  /-- TIMING_EXCHANGE_START: the TIMING exchange at G (R148): on a Spaka-A segment X's frame names `dst`, and the
      member named replies, as `turn` tells. -/
  | timingExchangeStart (port : Port) (dst : BitVec 6) (turn : TimingTurn)
  /-- LINE_TIME_SET: LINE_CMD.SET (R141). -/
  | lineTimeSet (ifc : Ifc) (facts : WFacts)
  /-- LINE_TIME_SNAP: LINE_CMD.SNAP (R142). -/
  | lineTimeSnap (ifc : Ifc) (facts : WFacts)
  /-- PTP_SYNC_TX: a Sync falls due on an LE port (R161). -/
  | ptpSyncTx (port : Port)
  /-- PTP_ANNOUNCE_TX: an Announce falls due on an LE port (R161). -/
  | ptpAnnounceTx (port : Port)
  /-- PPS_PULSE: PPS_OUT at a whole multiple of 10⁹ ns of line time (R506). -/
  | ppsPulse
  /-- LINTEL_MAP_LOAD: the Trowel loads the shadow bank of a port's Lintel; `agree` tells whether the CRCs do (R165).
      -/
  | lintelMapLoad (port : Port) (agree : Bool)
  /-- MAP_CRC_REFRESH: the Trowel sends the active map's CRC before G (R166). -/
  | mapCrcRefresh (port : Port) (agree : Bool)
  /-- ORIGINATE_WINDOW_CLOSE: a window of the Lintel closes (R170). -/
  | originateWindowClose (port : Port) (slot : Fin 1024)
  /-- KILL_ASSERT: ARB_KILL_N low for `low` ns; `taken` tells what the filter makes of a pulse between 10 ns and 30 ns
      (R172). -/
  | killAssert (low : Nat) (taken : Bool)
  /-- KILL_RELEASE: ARB_KILL_N high for 1 µs (R173). -/
  | killRelease
  /-- BABBLE_DETECT: carrier in [G + w, B), or longer than 760 words (R174). -/
  | babbleDetect (port : Port)
  /-- OWN_CARRIER_DETECT: carrier inside an originate window of the own position while the Lintel passed nothing
      (R174, R236). -/
  | ownCarrierDetect (port : Port) (slot : Fin 1024)
  /-- BRANCH_VIOLATION: a violation on a branch port (R181); slot 0x3FF and SRC 0 for carrier. -/
  | branchViolation (port : Port) (slot : Fin 1024) (src : BitVec 6)
  /-- BRANCH_REINSTATE: a cut branch whose clean courses have reached CLEAN_N (R182). -/
  | branchReinstate (port : Port)
  /-- BRANCH_CUT_COMMAND: HUB_CMD.CUT (R182). -/
  | branchCutCommand (ifc : Ifc) (mask : BitVec 8) (facts : WFacts)
  /-- BRANCH_REINSTATE_COMMAND: HUB_CMD.REINSTATE (R182). -/
  | branchReinstateCommand (ifc : Ifc) (mask : BitVec 8) (facts : WFacts)
  /-- WHEEL_WRAP: the wheel wraps (R189). -/
  | wheelWrap
  /-- WHEEL_APPLY: TRW_WHEEL_CMD.APPLY (R189). -/
  | wheelApply (ifc : Ifc) (facts : WFacts)
  /-- CONTEXT_RECLAIM: contexts that have aged are reclaimed (R198). -/
  | contextReclaim
  /-- QUEUE_DOORBELL: Q_IDX.TAIL of a queue written (R199). -/
  | queueDoorbell (ifc : Ifc) (queue : Fin 128) (tail : Word) (facts : WFacts)
  /-- DESCRIPTOR_FETCH: the next descriptor of a transmit queue is taken (R196); `host` is what host memory answers,
      descriptor and data. -/
  | descriptorFetch (queue : Fin 128) (host : List Byte)
  /-- QUEUE_DISABLE: Q_BASE_HI.EN of a queue written 0 (R204). -/
  | queueDisable (ifc : Ifc) (queue : Fin 128) (facts : WFacts)
  /-- IMAGE_READY: TRW_IMG_READY written (R207). -/
  | imageReady (ifc : Ifc) (course : Reg) (facts : WFacts)
  /-- ETH_FRAME_RECEIVE: an Ethernet frame with its FCS has arrived (R217): its stamp in line time, whether a code
      error spoilt it, whether it met a wheel short of entries (R189), and a receive descriptor in host memory. -/
  | ethFrameReceive (port : Port) (stamp : DWord) (frame : List Byte) (code short : Bool) (desc : List Byte)
  /-- CAN_FRAME_RECEIVE: a CAN frame has arrived (R217), and how: whole, with an error, or with one after which the port
      sent a dominant flag in vain (R214); whether it met a wheel short of entries (R189). -/
  | canFrameReceive (port : CanPort) (stamp : DWord) (frame : CanFrame) (rx : CanRx) (short : Bool) (desc : List Byte)
  /-- ETH_LINK_CHANGE: LE_LOS, PCS synchronisation and auto-negotiation of an LE port (R213). -/
  | ethLinkChange (port : Port) (los : Bool) (sync : Bool) (an : Bool)
  /-- ETH_TRANSMIT: an LE port sends its next frame (R225). -/
  | ethTransmit (port : Port)
  /-- PAUSE_EXPIRY: the quanta of a PAUSE run out (R225). -/
  | pauseExpiry (port : Port)
  /-- CAN_TRANSMIT: an LC port sends its head frame, and how that ends (R226). -/
  | canTransmit (port : CanPort) (stamp : DWord) (ending : CanEnd)
  /-- CAN_BUS_OFF_RECOVERY: 128 occurrences of 11 recessive bits have passed (R228). -/
  | canBusOffRecovery (port : CanPort)
  /-- CAN_RECOVER_COMMAND: LC_P_CMD.RECOVER (R228). -/
  | canRecoverCommand (ifc : Ifc) (port : CanPort) (facts : WFacts)
  /-- LOCAL_PORT_DISABLE: CFG.EN of an LE port (0 to 7) or of an LC port (8 to 11) written 0 (R227). -/
  | localPortDisable (ifc : Ifc) (port : Fin 12) (facts : WFacts)
  /-- ARB_ROLE_CHANGE: ARB_ROLE stable at a new level for 1 µs (R233). -/
  | arbRoleChange (level : BitVec 2)
  /-- ARB_FENCED_CHANGE: ARB_FENCED stable at a new level for 1 µs (R235). -/
  | arbFencedChange (level : Bool)
  /-- TIE_LANE_LOCK: a Tie lane locks (R242). -/
  | tieLaneLock (lane : Fin 2) (aligned : Bool) (skew : BitVec 8)
  /-- TIE_LANE_LOSS: a Tie lane is lost after `bad` invalid headers (R242). -/
  | tieLaneLoss (lane : Fin 2) (bad : Nat)
  /-- TIE_RECORD_RX: a REC frame has arrived (R248); line times of its first and last word. -/
  | tieRecordRx (bytes : List Byte) (start : DWord) (stop : DWord)
  /-- TIE_HEALTH_RX: a HEALTH frame has arrived (R265). -/
  | tieHealthRx (bytes : List Byte)
  /-- TIE_ACK_RX: an ACK frame has arrived (R262). -/
  | tieAckRx (bytes : List Byte) (stamp : DWord)
  /-- TIE_COMMIT_RX: a COMMIT frame has arrived (R262). -/
  | tieCommitRx (bytes : List Byte) (stamp : DWord)
  /-- PLUMB_SILENT_SLOT: the horizon of an own slot passes without carrier (R252). -/
  | plumbSilentSlot (slot : Fin 1024)
  /-- ARBITER_EVIDENCE_HORIZON: a horizon of new evidence (R257). -/
  | arbiterEvidenceHorizon (evidence : Evidence)
  /-- ARB_CMD_FAILOVER: TWIN_ARB_CMD.FAILOVER (R259). -/
  | arbCmdFailover (ifc : Ifc) (facts : WFacts)
  /-- ARB_CMD_SWAP: TWIN_ARB_CMD.SWAP (R263). -/
  | arbCmdSwap (ifc : Ifc) (facts : WFacts)
  /-- ARB_CMD_RESTORE: TWIN_ARB_CMD.RESTORE (R259). -/
  | arbCmdRestore (ifc : Ifc) (mask : BitVec 2) (facts : WFacts)
  /-- ARB_CMD_OUT: TWIN_ARB_CMD.OUT (R259). -/
  | arbCmdOut (ifc : Ifc) (mask : BitVec 2) (facts : WFacts)
  /-- PERIODIC_SWAP: SWAP_H hours have passed since the last swap (R264). -/
  | periodicSwap
  /-- QUARRY_ACCESS: an access of a master to a Quarry word (R278): a write where `data` is given; `found` is what the
      word turns out to hold. -/
  | quarryAccess (master : Master) (addr : BitVec 26) (be : BitVec 8) (data : Option DWord) (found : Upset)
  /-- SCRUB_PATROL: the patrol reads its next word (R277); `hard` tells that a corrected word reads back in error. -/
  | scrubPatrol (found : Upset) (hard : Bool)
  /-- BANK_POWER_WRITE: a QRY_BANK_RUN register written (R272). -/
  | bankPowerWrite (ifc : Ifc) (index : Fin 4) (value : Reg) (facts : WFacts)
  /-- BANK_CLEAR_DONE: a clearing bank finishes (R274). -/
  | bankClearDone (bank : Bank)
  /-- FENCE_SET: RGN_FENCE_SET written (R280). -/
  | fenceSet (ifc : Ifc) (mask : Word) (facts : WFacts)
  /-- FENCE_CLEAR: RGN_FENCE_CLR written (R280). -/
  | fenceClear (ifc : Ifc) (mask : Word) (facts : WFacts)
  /-- SEM_ACQUIRE: QRY_SEM_n written with OP ACQUIRE (R284). -/
  | semAcquire (ifc : Ifc) (index : Fin 64) (tag : Word) (lease : BitVec 8) (facts : WFacts)
  /-- SEM_RENEW: QRY_SEM_n written with OP RENEW (R284). -/
  | semRenew (ifc : Ifc) (index : Fin 64) (tag : Word) (lease : BitVec 8) (facts : WFacts)
  /-- SEM_RELEASE: QRY_SEM_n written with OP RELEASE (R284). -/
  | semRelease (ifc : Ifc) (index : Fin 64) (tag : Word) (lease : BitVec 8) (facts : WFacts)
  /-- SEM_LEASE_EXPIRY: the lease of a semaphore runs out (R285). -/
  | semLeaseExpiry (index : Fin 64)
  /-- SEM_BREAK: QRY_SEM_BREAK written (R286). -/
  | semBreak (ifc : Ifc) (mask : Word) (facts : WFacts)
  /-- MARCH_START: MRCH_CMD.START: MODE 1 is transparent (R292). -/
  | marchStart (ifc : Ifc) (bank : Bank) (mode : Bool) (full : Bool) (facts : WFacts)
  /-- MARCH_ABORT: MRCH_CMD.ABORT (R292). -/
  | marchAbort (ifc : Ifc) (facts : WFacts)
  /-- MARCH_SEGMENT: a transparent march ends its segment and begins the next (R290). -/
  | marchSegment
  /-- MARCH_DONE: a march run ends (R294). -/
  | marchDone (found : MarchFacts)
  /-- SPARE_ENTRY_ENABLE: a repair entry written with VALID (R295). -/
  | spareEntryEnable (ifc : Ifc) (entry : Fin 768) (value : Reg) (facts : WFacts)
  /-- SPARE_COPY_DONE: a copy into a spare completes (R295). -/
  | spareCopyDone (entry : Fin 768)
  /-- REPAIR_BURN: RPR_CMD.BURN with VFUSE in mV and Tj in 0.1 °C as they read (R296). -/
  | repairBurn (ifc : Ifc) (vfuse : Nat) (tj : Int) (facts : WFacts)
  /-- LANE_FUSE: LANE_CMD.FUSE with VFUSE and Tj as they read (R311). -/
  | laneFuse (ifc : Ifc) (vfuse : Nat) (tj : Int) (facts : WFacts)
  /-- FUSE_BURN_DONE: a fuse burn ends: for each fuse blown whether it verified; fewer than were due where a condition
      left its range (R424). -/
  | fuseBurnDone (verified : List Bool)
  /-- REST_LANE_SLICE_START: the next slice of the rest lane starts (R302). -/
  | restLaneSliceStart
  /-- GAP_SLICE_START: the slices of a mortar gap start at B − 6 µs (R304); `tie` tells that a Tie frame is in
      progress. -/
  | gapSliceStart (tie : Bool)
  /-- SLICE_END: a slice ends (R300), and the writes it held are applied (R64). -/
  | sliceEnd (domain : Fin 33) (found : SliceFacts) (facts : WFacts)
  /-- LBIST_RUN_START: PERIOD after a run, the next one starts (R299). -/
  | lbistRunStart (domain : Fin 33)
  /-- LBIST_RETEST: LBST_CMD.RETEST (R307). -/
  | lbistRetest (ifc : Ifc) (domain : Fin 33) (facts : WFacts)
  /-- LBIST_RELEASE: LBST_CMD.RELEASE (R308). -/
  | lbistRelease (ifc : Ifc) (domain : Fin 33) (facts : WFacts)
  /-- ADC_RESULT: a result pair of a channel (R318): the line time of its conversion's end, the length of the
      conversion in ns, the raw codes, and whether a slice held it. -/
  | adcResult (chan : Chan) (stamp : DWord) (len : Nat) (codeI : Word) (codeV : Word) (held : Bool)
  /-- MEASUREMENT_WINDOW_CLOSE: the oldest measurement window of a channel closes (R322). -/
  | measurementWindowClose (chan : Chan)
  /-- GATE_EDGE: the next gate instant of a channel (R331). -/
  | gateEdge (chan : Chan)
  /-- PROOF_AGE_EXPIRY: PROOF_AGE after the last passing proof (R335). -/
  | proofAgeExpiry (chan : Chan)
  /-- COMMAND_TIMEOUT: CMD_TO courses without an image command (R326). -/
  | commandTimeout (chan : Chan)
  /-- SETTLE_EXPIRY: SETTLE_MS after a gate change (R340). -/
  | settleExpiry (chan : Chan)
  /-- NO_MAINS_TIMEOUT: 100 ms without a valid mains crossing (R338). -/
  | noMainsTimeout (chan : Chan)
  /-- SLOW_TRIP: TRIP_MS of results at or above I_OVER (R341). -/
  | slowTrip (chan : Chan)
  /-- FEED_RETRY: RETRY_MS after a trip (R342). -/
  | feedRetry (chan : Chan)
  /-- RETRY_COUNT_CLEAR: CLR_S of active gate without a trip (R342). -/
  | retryCountClear (chan : Chan)
  /-- LOAD_LEARN: LDS_CTRL.LEARN (R330). -/
  | loadLearn (ifc : Ifc) (chan : Chan) (facts : WFacts)
  /-- CLEAR_LOCK: LDS_CTRL.CLR_LOCK (R342). -/
  | clearLock (ifc : Ifc) (chan : Chan) (facts : WFacts)
  /-- AUTOZERO: ADC_CMD.AUTOZERO (R320). -/
  | autozero (ifc : Ifc) (pair : Chan) (facts : WFacts)
  /-- BILLING_EDGE: the RTC reaches a nominal boundary (R356). -/
  | billingEdge
  /-- PERIOD_CLOSE: the horizon of an edge or of a set (R357); `slice` tells that a metering slice held the close. -/
  | periodClose (slice : Bool)
  /-- METERING_STOP: MTR_CFG.EN written 0 (R353). -/
  | meteringStop (ifc : Ifc) (facts : WFacts)
  /-- METERING_START: MTR_CFG.EN written 1 (R353). -/
  | meteringStart (ifc : Ifc) (facts : WFacts)
  /-- TALLY_VAULT_COPY: the mover takes the next record (R364). -/
  | tallyVaultCopy
  /-- TALLY_ACK: TALY_ACK written (R363). -/
  | tallyAck (ifc : Ifc) (index : Reg) (facts : WFacts)
  /-- RTC_TRIM: the next seconds value that is a multiple of 32 is reached, and the trim corrects (R373). -/
  | rtcTrim
  /-- RTC_SECONDS_END: the RTC reaches its maximum and stops (R372). -/
  | rtcSecondsEnd
  /-- CALENDAR_END: the count reaches the end of the calendar (R376). -/
  | calendarEnd
  /-- RTC_COMMIT: RTC_SET.COMMIT (R380). -/
  | rtcCommit (ifc : Ifc) (force : Bool) (form : Bool) (atCourse : Bool) (facts : WFacts)
  /-- RTC_PENDING_COMMIT: the boundary of the named course takes a pending commit (R381). -/
  | rtcPendingCommit
  /-- RTC_DISCARD: RTC_SET.DISCARD (R379). -/
  | rtcDiscard (ifc : Ifc) (facts : WFacts)
  /-- RTC_CAPTURE: RTC_SET.CAPTURE (R379). -/
  | rtcCapture (ifc : Ifc) (facts : WFacts)
  /-- ALARM: the count reaches an armed alarm (R383). -/
  | alarm
  /-- MAIN_VALID: VDD_AO_IN rises to 2.9 V (R385). -/
  | mainValid (facts : StartFacts) (canary : Reg)
  /-- MAIN_FAILURE: VDD_AO_IN below 2.8 V for 1 µs (R385). -/
  | mainFailure
  /-- SNAPSHOT_SAVE_DONE: the snapshot of the main-failure save is in the Vault (R366). -/
  | snapshotSaveDone (facts : StartFacts) (canary : Reg)
  /-- VBAT_MEASURE: VBAT is measured (R387), VAO reading `vao` mV. -/
  | vbatMeasure (mv : BitVec 16) (vao : BitVec 16)
  /-- BROWN_OUT_DETECT: VAO falls below 1.62 V (R388). -/
  | brownOutDetect
  /-- CRYSTAL_STOP_DETECT: no crystal edge for 122 µs (R388); `resumes` tells whether the edges come back then. -/
  | crystalStopDetect (resumes : Bool)
  /-- MARK_RAISE: a block raises a mark (R403): its code and the bytes that follow the RTC in its payload. -/
  | markRaise (code : BitVec 12) (bytes : List Byte) (deferred : Bool)
  /-- MARK_RECORD: the recorder takes the next queued mark (R401). -/
  | markRecord
  /-- SUPPRESSED_RECORD: the first RTC second boundary after a suppression or a drop (R403). -/
  | suppressedRecord
  /-- MARK_MIRROR: the mover takes the next record to the mirror (R405). -/
  | markMirror
  /-- MARK_CLEAR: MARK_CLEAR with the key (R406). -/
  | markClear (ifc : Ifc) (part : BitVec 2) (facts : WFacts)
  /-- HOST_MARK: MARK_HOST_CMD written (R407). -/
  | hostMark (ifc : Ifc) (code : BitVec 12) (len : BitVec 5) (facts : WFacts)
  /-- VAULT_PROGRAM: VLT_CMD PROGRAM (R419). -/
  | vaultProgram (ifc : Ifc) (facts : WFacts)
  /-- VAULT_ERASE: VLT_CMD ERASE (R419). -/
  | vaultErase (ifc : Ifc) (facts : WFacts)
  /-- VAULT_ABORT: VLT_CMD.ABORT (R419). -/
  | vaultAbort (ifc : Ifc) (facts : WFacts)
  /-- BOOT_KEY: the key written to VLT_BOOT_KEY (R419). -/
  | bootKey (ifc : Ifc) (facts : WFacts)
  /-- BOOT_KEY_WINDOW_EXPIRY: 1 ms after the BOOT key (R419). -/
  | bootKeyWindowExpiry
  /-- VAULT_PROGRAM_OP_DONE: a program operation ends after its pulses and verify (R410). -/
  | vaultProgramOpDone (pulses : Nat) (verify : Verify)
  /-- VAULT_ERASE_PULSE_DONE: an erase pulse and its verify end, Tj in 0.1 °C (R411). -/
  | vaultErasePulseDone (tj : Int) (erased : Bool)
  /-- VAULT_RETIREMENT_DONE: a retirement finishes (R416): spares retired on the way, words copied as stored. -/
  | vaultRetirementDone (bad : Nat) (ue : Nat)
  /-- POWER_STATE_ENTER: PWR_CMD.GO with a target below RUN (R427). -/
  | powerStateEnter (ifc : Ifc) (target : BitVec 3) (facts : WFacts)
  /-- ENTRY_COMPLETE: the entry sequence ends, `took` ns after the decision (R432). -/
  | entryComplete (took : Nat)
  /-- HOST_WAKE: PWR_CMD.GO with TARGET 0 (R440). -/
  | hostWake (ifc : Ifc) (facts : WFacts)
  /-- HOST_WAKE_PIN: HOST_WAKE_N low for 1 µs (R440). -/
  | hostWakePin
  /-- WAKE_SWITCH: a WAKE_SW input stable at a level for 10 ms (R440). -/
  | wakeSwitch (switch : Fin 4) (level : Bool)
  /-- LINE_WAKE: the wake watcher of a port detects its pattern (R441). -/
  | lineWake (port : Port)
  /-- EXIT_COMPLETE: the exit sequence ends, `took` ns after the wake (R434). -/
  | exitComplete (took : Nat)
  /-- SLEEP_UNANIMITY_REACHED: the datum's count of unanimous courses has reached 8 (R437). -/
  | sleepUnanimityReached
  /-- NETWORK_SLEEP_STOP: the announced stop course begins (R439). -/
  | networkSleepStop
  /-- WAKE_FRAME_TX: a WAKE frame of the WAKING phase (R442). -/
  | wakeFrameTx (port : Port)
  /-- WAKING_END: WAKING_MS after a network wake (R442). -/
  | wakingEnd
  /-- WAKE_CONFIRM_EXPIRY: no valid frame within WAKE_CONFIRM of a line wake (R443). -/
  | wakeConfirmExpiry
  /-- BACKOFF_END: BACKOFF_S have passed (R444). -/
  | backoffEnd
  /-- FALSE_WAKE_WINDOW_CLOSE: the 3,600 s window closes (R444). -/
  | falseWakeWindowClose
  /-- PHY_FAILSAFE: a PHY watchdog acts (R445): 500 ms without wake acknowledgement, or 2 s without a passed frame. -/
  | phyFailsafe (port : Port) (ack : Bool)
  /-- PCIE_RESET: a reset of the endpoint (R449): 0 fundamental, 1 hot, 2 link down, 3 function level. -/
  | pcieReset (kind : BitVec 2)
  /-- PCIE_COMPLETION_TIMEOUT: a bus-master read without completion for HOST_CPL_TO ms (R450), by a DMA channel or for
      a transmit queue. -/
  | pcieCompletionTimeout (dma : Bool) (index : Fin 64)
  /-- DMA_START: DMA_CTRL.START (R451). -/
  | dmaStart (ifc : Ifc) (channel : Fin 4) (facts : WFacts)
  /-- DMA_ABORT: DMA_CTRL.ABORT (R451). -/
  | dmaAbort (ifc : Ifc) (channel : Fin 4) (facts : WFacts)
  /-- DMA_DONE: the copy of a channel ends (R451); `host` is what host memory answers its reads. -/
  | dmaDone (channel : Fin 4) (host : List Byte)
  /-- LOCAL_BUS_READ: a 16-bit local-bus read (R453). -/
  | localBusRead (addr : BitVec 21) (found : Upset) (facts : WFacts)
  /-- LOCAL_BUS_WRITE: a 16-bit local-bus write (R453). -/
  | localBusWrite (addr : BitVec 21) (data : Word) (be : BitVec 2) (found : Upset) (facts : WFacts)
  /-- SPI_READ: an SPI READ frame after its command byte, one unit read for each member of `found` (R455). -/
  | spiRead (frame : List Byte) (found : List Upset)
  /-- SPI_WRITE: an SPI WRITE frame after its command byte; any command byte but those of READ and STATUS (R456). -/
  | spiWrite (command : Byte) (frame : List Byte) (found : Upset) (facts : WFacts)
  /-- SPI_STATUS: an SPI STATUS frame (R455). -/
  | spiStatus
  /-- IRQ_EOI: IRQ_EOI written (R457). -/
  | irqEoi (ifc : Ifc) (mask : Reg) (facts : WFacts)
  /-- WATCHDOG_KICK: the key written to HOST_WDOG_KICK (R460). -/
  | watchdogKick (ifc : Ifc) (facts : WFacts)
  /-- WATCHDOG_EXPIRY: no kick within TIMEOUT_MS (R460). -/
  | watchdogExpiry (facts : StartFacts)
  /-- DUMP_GO: the key written to DUMP_GO (R478). -/
  | dumpGo (ifc : Ifc) (facts : WFacts)
  /-- HELD_DUMP_START: a held dump starts (R479). -/
  | heldDumpStart
  /-- DUMP_FORCE_STOP: islands not at a handshake boundary after 100 µs (R481). -/
  | dumpForceStop (islands : Reg)
  /-- DUMP_IMAGE_DONE: the image is written (R488): freeze latencies of the islands in 10 ns, the time since the
      trigger. -/
  | dumpImageDone (latencies : List Word) (took : Nat) (facts : StartFacts)
  /-- DUMP_SUBSET_DONE: the subset is written, or fails after `good` sectors (R489). -/
  | dumpSubsetDone (good : Nat) (hot : Bool) (took : Nat)
  /-- DUMP_CLEAR: DUMP_CMD.CLEAR (R492). -/
  | dumpClear (ifc : Ifc) (facts : WFacts)
  /-- DUMP_VAULT_CLEAR: DUMP_CMD.VLT_CLEAR (R492). -/
  | dumpVaultClear (ifc : Ifc) (mask : BitVec 4) (facts : WFacts)
  /-- THERMAL_ALERT: a reading of the Tj sensor in 0.1 °C (R506). -/
  | thermalAlert (tj : Int)
  /-- TAP_RESET: TRST_N low: Test-Logic-Reset, in which IDCODE is selected (R521). -/
  | tapReset
  /-- TAP_BYPASS: BYPASS (R521). -/
  | tapBypass
  /-- TAP_IDCODE: IDCODE (R521). -/
  | tapIdcode
  /-- TAP_SAMPLE_PRELOAD: SAMPLE/PRELOAD: the levels of the covered pins, and what is shifted in (R521). -/
  | tapSamplePreload (pins : Nat) (shifted : Option Nat)
  /-- TAP_EXTEST: EXTEST (R521). -/
  | tapExtest
  /-- TAP_CLAMP: CLAMP (R521). -/
  | tapClamp
  /-- TAP_HIGHZ: HIGHZ (R521). -/
  | tapHighz
  /-- PCIE_LINK_UP: the endpoint finishes training (R447): SPEED and WIDTH as HOST_STAT codes them. -/
  | pcieLinkUp (speed : BitVec 2) (width : BitVec 2)
  /-- PERST_N_RELEASE: PERST_N rises (R463). -/
  | perstNRelease
  /-- PCIE_CONFIG_WRITE: a configuration write: Bus Master Enable, MSI-X Enable, function mask, D3hot (R448, R450,
      R457). -/
  | pcieConfigWrite (bme : Bool) (msix : Bool) (fmask : Bool) (d3hot : Bool)
  /-- BAR4_WINDOW_ACCESS: a PCIe access of 4 bytes to the BAR4 window (R448). -/
  | bar4WindowAccess (write : Bool) (addr : BitVec 23) (found : Upset)
  deriving DecidableEq, Repr

end Sys2Proof
end

