-- ==== Sys2Proof/Decode.lean ====
section
/-! DEFINITION. The table's bits. spec/opcode_table.json gives none of its rows bits: a command is no encoded instruction but
something that reaches the node from outside, so no word spells one. -/

namespace Sys2Proof

/-- The command that a word of `nbits` bits spells by the table: none, as no row has bits. -/
def decodeTableWord (_nbits _w : Nat) : Option Instr := none

end Sys2Proof
end

