-- ==== Sys2Proof/Config.lean ====
section
/-! DEFINITION. What the manual leaves open and the node fixes: opaque constants, of which nothing can be proved. -/

namespace Sys2Proof.Config

/-- The CRC-32 of a Lintel map: R165 names the polynomial but no byte order of the map, so its value is free; equal
maps give equal values. The map is given as the list of its numbers. -/
opaque mapCrc : List Nat → Nat

/-- The UID of the partner of the twin with a UID: no rule says how a twin learns it, so it is free (R116, R237, R241). -/
opaque partnerUid : Nat → Nat

/-- What byte `x` of the Vault array reads after an erase pulse or a program operation that has not verified: no rule
says (R410, R411, R421); `n` tells such occasions apart. -/
opaque unverified : Nat → Nat → Nat

/-- Where in [119, 127] a CAN receive error count above 127 goes with a frame received well: ISO 11898-1 leaves the choice (R214);
`n` tells such occasions apart. -/
opaque canRec : Nat → Nat

end Sys2Proof.Config
end

