-- ==== Sys2Proof/Machine/Bits.lean ====
section
/-! DEFINITION. Bit fields, signed values, byte order, and the checks the spec computes over bytes and words: CRC-8,
CRC-16, CRC-32 and AES-128-CMAC. Every helper works on Nat; widths are applied where a value is stored. -/

namespace Sys2Proof.Machine

/-- Bits `lo` to `lo + w - 1` of `v` (R11). -/
def bits (v lo w : Nat) : Nat := v / 2 ^ lo % 2 ^ w

/-- Bit `i` of `v`. -/
def bit (v i : Nat) : Bool := v / 2 ^ i % 2 == 1

/-- `v` with bits `lo` to `lo + w - 1` replaced by `x`. -/
def setBits (v lo w x : Nat) : Nat := v - bits v lo w * 2 ^ lo + x % 2 ^ w * 2 ^ lo

/-- `v` with bit `i` set to `b`. -/
def setBit (v i : Nat) (b : Bool) : Nat := setBits v i 1 b.toNat

/-- The signed value of a `w`-bit field (two's complement). -/
def signed (w v : Nat) : Int := if 2 * (v % 2 ^ w) < 2 ^ w then (v % 2 ^ w : Nat) else (v % 2 ^ w : Nat) - (2 ^ w : Nat)

/-- The `w`-bit field that holds the signed value `x`. -/
def unsigned (w : Nat) (x : Int) : Nat := (x % (2 ^ w : Nat)).toNat

/-- The value of a `w`-bit signed field nearest `x` (a field that "saturates"). -/
def satSigned (w : Nat) (x : Int) : Nat :=
  unsigned w (max (-(2 ^ (w - 1) : Nat)) (min ((2 ^ (w - 1) : Nat) - 1) x))

/-- Number of ones among the low `n` bits. -/
def ones (n v : Nat) : Nat := ((List.range n).filter (bit v)).length

/-- The indexes below `n` of the ones in `v`, ascending. -/
def oneBits (n v : Nat) : List Nat := (List.range n).filter (bit v)

/-- `n` bytes of `v`, little-endian (R13). -/
def le (n v : Nat) : List Nat := (List.range n).map (fun i => v / 256 ^ i % 256)

/-- The value of bytes read little-endian. -/
def leVal : List Nat → Nat
  | [] => 0
  | b :: t => b % 256 + 256 * leVal t

/-- `n` bytes of `v`, most significant first. -/
def be (n v : Nat) : List Nat := (le n v).reverse

/-- The words of a value wider than one word, low word first (R12). -/
def wordsOf (n v : Nat) : List Nat := (List.range n).map (fun i => v / 65536 ^ i % 65536)

/-- The value of words low word first (R12). -/
def wordsVal : List Nat → Nat
  | [] => 0
  | w :: t => w % 65536 + 65536 * wordsVal t

/-- The bytes of a list of words in line order: each word most significant byte first (R12). -/
def lineBytes (ws : List Nat) : List Nat := (ws.map (fun w => [w / 256 % 256, w % 256])).flatten

/-- The bytes of a list of words as an image stores them (R13). -/
def leBytes (ws : List Nat) : List Nat := (ws.map (fun w => [w % 256, w / 256 % 256])).flatten

/-- The words of a byte list stored little-endian. -/
def leWords : List Nat → List Nat
  | a :: b :: t => (a % 256 + 256 * (b % 256)) :: leWords t
  | [a] => [a % 256]
  | [] => []

/-- One bit of a most-significant-first CRC of width `w`. -/
def crcStep (w poly c : Nat) : Nat :=
  if bit c (w - 1) then ((c * 2) % 2 ^ w).xor poly else (c * 2) % 2 ^ w

/-- One byte into a most-significant-first CRC of width `w` (`w` a multiple of 8). -/
def crcByte (w poly c b : Nat) : Nat :=
  (List.range 8).foldl (fun c _ => crcStep w poly c) (c.xor (b % 256 * 2 ^ (w - 8)))

/-- CRC-8, polynomial 0x07, initial value 0xFF (the heartbeat of chapter 09). -/
def crc8 (bs : List Nat) : Nat := bs.foldl (crcByte 8 0x07) 0xFF

/-- CRC-16, polynomial 0x1021, initial value 0xFFFF, over bytes in line order (R95). -/
def crc16 (bs : List Nat) : Nat := bs.foldl (crcByte 16 0x1021) 0xFFFF

/-- CRC-32, polynomial 0x04C11DB7, not reflected, initial value and final XOR of ones (R95). -/
def crc32 (bs : List Nat) : Nat := (bs.foldl (crcByte 32 0x04C11DB7) 0xFFFFFFFF).xor 0xFFFFFFFF

/-- One byte into the reflected CRC-32. -/
def crc32rByte (c b : Nat) : Nat :=
  (List.range 8).foldl (fun c _ => if c % 2 = 1 then (c / 2).xor 0xEDB88320 else c / 2) (c.xor (b % 256))

/-- The reflected CRC-32 of R105, initial value and final XOR of ones. -/
def crc32r (bs : List Nat) : Nat := (bs.foldl crc32rByte 0xFFFFFFFF).xor 0xFFFFFFFF

/-- The smaller distance of `v` to a multiple of `k`: the nearest multiple, a tie to the lower (R52). -/
def nearestMul (k v : Nat) : Nat := if v % k * 2 ≤ k then v / k * k else v / k * k + k

/-- `v` moved into `[lo, hi]`. -/
def clampN (lo hi v : Nat) : Nat := if v < lo then lo else if v > hi then hi else v

/-- `v` moved into `[lo, hi]`. -/
def clampI (lo hi v : Int) : Int := if v < lo then lo else if v > hi then hi else v

/-- Integer division rounded to the nearest, a half away from zero. -/
def roundDiv (a : Int) (b : Nat) : Int :=
  if a ≥ 0 then (2 * a + b) / (2 * (b : Int)) else -((2 * (-a) + b) / (2 * (b : Int)))

/-- Integer square root (RMS values of chapter 12), by bits from the top. -/
def isqrt (n : Nat) : Nat :=
  (List.range 64).foldl (fun r i => let t := r + 2 ^ (63 - i); if t * t ≤ n then t else r) 0

/-- The entry of an association list, or the default. -/
def look {α : Type} (d : α) (k : Nat) (l : List (Nat × α)) : α :=
  match l.find? (fun p => p.1 == k) with
  | some p => p.2
  | none => d

/-- An association list with the entry of `k` replaced. -/
def put {α : Type} (k : Nat) (v : α) (l : List (Nat × α)) : List (Nat × α) :=
  (k, v) :: l.filter (fun p => p.1 != k)

/-- An association list without the entry of `k`. -/
def del {α : Type} (k : Nat) (l : List (Nat × α)) : List (Nat × α) := l.filter (fun p => p.1 != k)

/-- Position `i` of a list replaced (nothing where it has no such position). -/
def setAt {α : Type} (l : List α) (i : Nat) (v : α) : List α := l.set i v

end Sys2Proof.Machine
end

