-- ==== Sys2Proof/Machine/State.lean ====
section
/-! DEFINITION. The node's state as plain data, the reasons for which a command could stop, and the state at power good.
Every register of the register tables lies in `regs`; what the spec gives the node beside its registers lies in the other
fields. -/

namespace Sys2Proof.Machine

/-- The node. -/
structure State where
  regs      : List (Nat × Nat)    -- register fields that have been written: key (Fld.key) ↦ value, keys rising; others read reset
  pending   : List Instr          -- commands that wait, first in, first out
  out       : List Emit           -- the model's own record of what the node has given out, newest first
  boot      : Boot                -- straps and fuses as a start took them
  fuses     : Option Fuses        -- the fuses of the part; none before the first power-on
  clk       : Clock               -- line time, RTC and the clock that timers count
  marks     : Marks               -- the Mark recorder (chapter 15)
  vault     : Vault               -- chapter 16
  qry       : Quarry              -- chapter 10
  pwr       : Power               -- the power ladder (chapter 17)
  rtc       : RtcExtra            -- pending commit and retention detectors (chapter 14)
  mtr       : Meter               -- chapter 13
  loads     : List LChan          -- the 48 load channels (chapter 12)
  course    : Nat                 -- course number (R31)
  base      : Nat                 -- line time of the last course boundary
  sched     : Sched               -- the active schedule
  pendSched : Option Sched        -- the pending schedule
  loading   : Option (List Nat)   -- the image under validation
  so        : SetOut              -- chapters 03 and 04
  pace      : Pacing              -- chapter 05
  lines     : List Line           -- the eight Spaka ports
  keys      : List (Nat × Nat)    -- admission keys: slot ↦ key (R134)
  trw       : Trowel              -- chapter 07
  loc       : Locals              -- chapter 08
  twin      : Twin                -- chapter 09
  host      : HostX               -- chapters 02 and 18
  isl       : Islands             -- chapter 01
  test      : SelfTest            -- chapter 11
  mon       : Monitors            -- on-chip monitors
  dump      : Dump                -- chapter 20
  tap       : Tap                 -- chapter 21
  pins      : Pins                -- pins and supplies that no register holds
  deriving DecidableEq, Repr

/-- Why a command would end in a fault. The spec gives every command an effect, and what it refuses it refuses with an effect
(a clamp report, a counter, a discarded write), so no meaning of the model faults. -/
inductive Fault where
  deriving DecidableEq, Repr

/-- Why a command is refused. -/
inductive Refusal where
  /-- Raised by an arm of `exec` that has no meaning yet, with the command's mnemonic. Safe: nothing is claimed of it. -/
  | notModelled (mnemonic : String)
  deriving DecidableEq, Repr

/-- Power good, before the start that follows it (R462): every register at its reset value, nothing stored, no command
waiting. Main is valid and line time does not count. BROWN reads set after any collapse of VAO (R388), so the verdict of
the first start is LOST. A POWER_ON command brings the node up. -/
def State.reset : State where
  regs := []
  pending := []
  out := []
  boot := ⟨0, 0, 0, 0, []⟩
  fuses := none
  clk := { now := 0, lt := 0, ltFrac := 0, slewRate := 0, slewLeft := 0, ltOn := false, sec := 0, sub := 0, rtcAcc := 0, rtcOwed := 0
           rtcExtra := 0, trimmed := 0, xtal := true, q0Ns := 0 }
  marks := Marks.zero
  vault := Vault.zero
  qry := Quarry.zero
  pwr := Power.zero
  rtc := { form := false, forced := false, brown := true, oscStop := false }
  mtr := Meter.zero
  loads := List.replicate 48 LChan.zero
  course := 0
  base := 0
  sched := builtIn
  pendSched := none
  loading := none
  so := SetOut.zero
  pace := Pacing.zero
  lines := List.replicate 8 Line.zero
  keys := []
  trw := Trowel.zero
  loc := Locals.zero
  twin := Twin.zero
  host := HostX.zero
  isl := ⟨[], [], 0, 0⟩
  test := SelfTest.zero
  mon := ⟨0, 0, 250⟩
  dump := Dump.zero
  tap := ⟨1, 0⟩
  pins := { main := true, therm := false, join := none, testMode := 0, pps := none, back := false }

end Sys2Proof.Machine
end

