-- ==== Sys2Proof/Machine/Fields.lean ====
section
/-! DEFINITION. Every register field of the node, by its name in the register tables of the spec: where it
lies (page and offset, R43), its place in the register (R11), its width and its value at reset. A field of a
repeated block carries the block's stride. The fields are in the order of the tables. -/

namespace Sys2Proof.Machine

/-- What a Reset column of the register tables says: a number, or one of the values that the column words. -/
inductive Rst where
  | v (n : Nat)              -- a number
  | uidLo | uidHi            -- "fuses", "own": the UID
  | strap (lo w : Nat)       -- "sampled": bits of the sampled straps (R4, R461)
  | hostIf (pcie : Bool)     -- "strap": the interface that HOSTSEL enables (R446)
  | settle                   -- 0 consist, 6 wayside
  | twinRole                 -- 1 in twin roles, 0 otherwise
  | spkGen                   -- 4 on SP0 and SP1, 0 on the others
  | ctxRes                   -- the reset reserves of chapter 07
  | wheel (p : Nat)          -- position P of the reset wheel of chapter 07
  | wheelWord                -- a whole entry of the reset wheel
  | irqMap (k : Nat)         -- the vector table of chapter 18, byte k
  | laneState (j : Nat)      -- lane j at reset: rest lane 8 RESTING, the others ACTIVE
  | rgnLimit | rgnOne | rgnEn  -- R283
  | fuseLanes | fuseWords    -- "fuses"
  | rpr (lo w : Nat)         -- "fuses or 0": bits of the fused repair entry (R293)
  | pgIndex | pgType | capEn | capLock | capDistrib | capTest   -- the header of R48
  deriving DecidableEq, Repr

/-- A register field: the address of its register (instance 0), the stride of its block, its lowest bit, its
width and its reset value (R11, R17). -/
structure Fld where
  base   : Nat
  stride : Nat
  lo     : Nat
  width  : Nat
  reset  : Rst
  deriving DecidableEq, Repr

/-- The BAR0 address of instance `i` of a field's register (R43). -/
def Fld.addr (f : Fld) (i : Nat) : Nat := f.base + f.stride * i

/-- The key under which the register file holds instance `i` of a field. -/
def Fld.key (f : Fld) (i : Nat) : Nat := f.addr i * 32 + f.lo

namespace F


-- PG header (R48)
def PG_ID_INDEX : Fld := ⟨0x0, 0x1000, 0, 8, .pgIndex⟩
def PG_ID_VERSION : Fld := ⟨0x0, 0x1000, 8, 8, .v 1⟩
def PG_ID_TYPE : Fld := ⟨0x0, 0x1000, 16, 16, .pgType⟩
def PG_CAP_EN : Fld := ⟨0x4, 0x1000, 0, 1, .capEn⟩
def PG_CAP_SRST : Fld := ⟨0x4, 0x1000, 1, 1, .capEn⟩
def PG_CAP_LOCK : Fld := ⟨0x4, 0x1000, 2, 1, .capLock⟩
def PG_CAP_DISTRIB : Fld := ⟨0x4, 0x1000, 3, 1, .capDistrib⟩
def PG_CAP_TESTABLE : Fld := ⟨0x4, 0x1000, 4, 1, .capTest⟩
def PG_CAP_FEATURES : Fld := ⟨0x4, 0x1000, 16, 16, .v 0⟩
def PG_CTRL_EN : Fld := ⟨0x8, 0x1000, 0, 1, .v 1⟩
def PG_CTRL_SRST : Fld := ⟨0x8, 0x1000, 1, 1, .v 0⟩
def PG_CTRL_FREEZE : Fld := ⟨0x8, 0x1000, 2, 1, .v 0⟩
def PG_STAT_FLAGS : Fld := ⟨0xc, 0x1000, 0, 7, .v 0⟩
def PG_STAT_STATUS : Fld := ⟨0xc, 0x1000, 16, 16, .v 0⟩
def PG_IRQ_RAW : Fld := ⟨0x10, 0x1000, 0, 32, .v 0⟩
def PG_IRQ_EN : Fld := ⟨0x14, 0x1000, 0, 32, .v 0⟩
def PG_IRQ_PEND : Fld := ⟨0x18, 0x1000, 0, 32, .v 0⟩
def PG_CLAMP_OFFSET : Fld := ⟨0x1c, 0x1000, 0, 12, .v 0⟩
def PG_CLAMP_CAUSE : Fld := ⟨0x1c, 0x1000, 12, 4, .v 0⟩
def PG_CLAMP_FIELD : Fld := ⟨0x1c, 0x1000, 16, 8, .v 0⟩
def PG_CLAMP_COUNT : Fld := ⟨0x1c, 0x1000, 24, 7, .v 0⟩
def PG_CLAMP_VALID : Fld := ⟨0x1c, 0x1000, 31, 1, .v 0⟩
def PG_CLAMP_VAL : Fld := ⟨0x20, 0x1000, 0, 32, .v 0⟩
def PG_CLAMP_RES : Fld := ⟨0x24, 0x1000, 0, 32, .v 0⟩
def PG_LOCK : Fld := ⟨0x28, 0x1000, 0, 1, .v 0⟩
def PG_SEQ : Fld := ⟨0x2c, 0x1000, 0, 16, .v 0⟩

-- TOP, spec/02
def TOP_REV : Fld := ⟨0x100, 0x0, 0, 32, .v 0x00004101⟩
def TOP_UID_LO : Fld := ⟨0x104, 0x0, 0, 32, .uidLo⟩
def TOP_UID_HI : Fld := ⟨0x108, 0x0, 0, 16, .uidHi⟩
def TOP_STRAP_PROFILE : Fld := ⟨0x10c, 0x0, 0, 1, .strap 0 1⟩
def TOP_STRAP_ROLE : Fld := ⟨0x10c, 0x0, 1, 2, .strap 1 2⟩
def TOP_STRAP_DATUM_PREF : Fld := ⟨0x10c, 0x0, 3, 1, .strap 3 1⟩
def TOP_STRAP_HOSTSEL : Fld := ⟨0x10c, 0x0, 4, 2, .strap 4 2⟩
def TOP_STRAP_MARCH_FULL : Fld := ⟨0x10c, 0x0, 6, 1, .strap 6 1⟩
def TOP_STRAP_LBIST_BOOT : Fld := ⟨0x10c, 0x0, 7, 1, .strap 7 1⟩
def TOP_RSTC_POR : Fld := ⟨0x110, 0x0, 0, 1, .v 0⟩
def TOP_RSTC_PIN : Fld := ⟨0x110, 0x0, 1, 1, .v 0⟩
def TOP_RSTC_SOFT : Fld := ⟨0x110, 0x0, 2, 1, .v 0⟩
def TOP_RSTC_WDOG : Fld := ⟨0x110, 0x0, 3, 1, .v 0⟩
def TOP_READY_READY : Fld := ⟨0x114, 0x0, 0, 1, .v 0⟩
def TOP_READY_STEP : Fld := ⟨0x114, 0x0, 4, 4, .v 0⟩
def TOP_SWRST : Fld := ⟨0x118, 0x0, 0, 16, .v 0⟩

-- CLMP, spec/02
def CLMP_HEAD : Fld := ⟨0x1100, 0x0, 0, 6, .v 0⟩
def CLMP_LASTSEQ : Fld := ⟨0x1104, 0x0, 0, 32, .v 0⟩
def CLMP_TOTAL : Fld := ⟨0x1108, 0x0, 0, 32, .v 0⟩
def CLMP_MISSED : Fld := ⟨0x110c, 0x0, 0, 16, .v 0⟩
def CLMP_CLEAR : Fld := ⟨0x1110, 0x0, 0, 1, .v 0⟩

-- ISL, spec/02
def ISL_STATE : Fld := ⟨0x2100, 0x4, 0, 32, .v 0⟩
def ISL_PLL_LOCKED : Fld := ⟨0x2110, 0x0, 0, 13, .v 0⟩
def ISL_PLL_LOST : Fld := ⟨0x2110, 0x0, 16, 13, .v 0⟩
def ISL_PLL_CNT : Fld := ⟨0x2114, 0x0, 0, 16, .v 0⟩
def ISL_OSC_OSC16 : Fld := ⟨0x2118, 0x0, 0, 1, .v 0⟩
def ISL_OSC_OSC_DMP : Fld := ⟨0x2118, 0x0, 1, 1, .v 0⟩
def ISL_OSC_OSC_VLT : Fld := ⟨0x2118, 0x0, 2, 1, .v 0⟩
def ISL_OSC_XT32 : Fld := ⟨0x2118, 0x0, 3, 1, .v 0⟩

-- SPK, spec/03 (R109)
def SPK_CFG_GEN : Fld := ⟨0x8100, 0x1000, 0, 3, .spkGen⟩
def SPK_CFG_ROLE_MODE : Fld := ⟨0x8100, 0x1000, 3, 1, .v 0⟩
def SPK_CFG_ROLE : Fld := ⟨0x8100, 0x1000, 4, 1, .v 0⟩
def SPK_TEST : Fld := ⟨0x8104, 0x1000, 0, 4, .v 0⟩
def SPK_LINK_UP : Fld := ⟨0x8108, 0x1000, 0, 1, .v 0⟩
def SPK_LINK_GEN : Fld := ⟨0x8108, 0x1000, 1, 2, .v 0⟩
def SPK_LINK_MASTER : Fld := ⟨0x8108, 0x1000, 3, 1, .v 0⟩
def SPK_LINK_FEC_LOCK : Fld := ⟨0x8108, 0x1000, 4, 1, .v 0⟩
def SPK_LINK_GEN_MISMATCH : Fld := ⟨0x8108, 0x1000, 5, 1, .v 0⟩
def SPK_LINK_JOINED : Fld := ⟨0x8108, 0x1000, 6, 1, .v 1⟩
def SPK_LINKCNT_UPS : Fld := ⟨0x810c, 0x1000, 0, 16, .v 0⟩
def SPK_LINKCNT_DOWNS : Fld := ⟨0x810c, 0x1000, 16, 16, .v 0⟩
def SPK_RX_OK : Fld := ⟨0x8110, 0x1000, 0, 32, .v 0⟩
def SPK_HDR_ERR : Fld := ⟨0x8114, 0x1000, 0, 32, .v 0⟩
def SPK_KIND_ERR : Fld := ⟨0x8118, 0x1000, 0, 32, .v 0⟩
def SPK_STALE_GEN : Fld := ⟨0x811c, 0x1000, 0, 32, .v 0⟩
def SPK_WINDOW_ERR : Fld := ⟨0x8120, 0x1000, 0, 32, .v 0⟩
def SPK_OWNER_ERR : Fld := ⟨0x8124, 0x1000, 0, 32, .v 0⟩
def SPK_LEN_ERR : Fld := ⟨0x8128, 0x1000, 0, 32, .v 0⟩
def SPK_CRC_ERR : Fld := ⟨0x812c, 0x1000, 0, 32, .v 0⟩
def SPK_RELAY_CRC : Fld := ⟨0x8130, 0x1000, 0, 32, .v 0⟩
def SPK_LATE : Fld := ⟨0x8134, 0x1000, 0, 32, .v 0⟩
def SPK_LOOP : Fld := ⟨0x8138, 0x1000, 0, 32, .v 0⟩
def SPK_TX_NULL : Fld := ⟨0x813c, 0x1000, 0, 32, .v 0⟩
def SPK_SUBST : Fld := ⟨0x8140, 0x1000, 0, 32, .v 0⟩
def SPK_FEC_CORR : Fld := ⟨0x8144, 0x1000, 0, 16, .v 0⟩
def SPK_FEC_UNCORR : Fld := ⟨0x8144, 0x1000, 16, 16, .v 0⟩
def SPK_A_COLL : Fld := ⟨0x8148, 0x1000, 0, 32, .v 0⟩
def SPK_A_CODE : Fld := ⟨0x814c, 0x1000, 0, 32, .v 0⟩

-- SCHD, spec/03 (R110)
def SCHD_SRC : Fld := ⟨0x12100, 0x0, 0, 1, .v 0⟩
def SCHD_ADDR : Fld := ⟨0x12104, 0x0, 0, 26, .v 0⟩
def SCHD_LEN : Fld := ⟨0x12108, 0x0, 0, 15, .v 324⟩
def SCHD_CMD_LOAD : Fld := ⟨0x1210c, 0x0, 0, 1, .v 0⟩
def SCHD_CMD_DISCARD : Fld := ⟨0x1210c, 0x0, 1, 1, .v 0⟩
def SCHD_RESULT_CODE : Fld := ⟨0x12110, 0x0, 0, 8, .v 0⟩
def SCHD_RESULT_BUSY : Fld := ⟨0x12110, 0x0, 8, 1, .v 0⟩
def SCHD_RESULT_PENDING : Fld := ⟨0x12110, 0x0, 9, 1, .v 0⟩
def SCHD_RESULT_OFFSET : Fld := ⟨0x12110, 0x0, 16, 16, .v 0⟩
def SCHD_ACTIVE_ID : Fld := ⟨0x12114, 0x0, 0, 32, .v 0⟩
def SCHD_PENDING_ID : Fld := ⟨0x12118, 0x0, 0, 32, .v 0⟩
def SCHD_ACTIVE_CRC : Fld := ⟨0x1211c, 0x0, 0, 32, .v 0⟩
def SCHD_QUOIN_TOTAL : Fld := ⟨0x12120, 0x0, 0, 10, .v 0⟩
def SCHD_QUOIN_FREE : Fld := ⟨0x12120, 0x0, 16, 10, .v 0⟩
def SCHD_CLAIM_SLOT : Fld := ⟨0x12124, 0x0, 0, 10, .v 0x3FF⟩
def SCHD_CLAIM_MINLEN : Fld := ⟨0x12124, 0x0, 16, 10, .v 0⟩
def SCHD_CLAIM_CMD_CLAIM : Fld := ⟨0x12128, 0x0, 0, 1, .v 0⟩
def SCHD_CLAIM_CMD_RELEASE : Fld := ⟨0x12128, 0x0, 1, 1, .v 0⟩
def SCHD_CLAIM_STAT_STATE : Fld := ⟨0x1212c, 0x0, 0, 3, .v 0⟩
def SCHD_CLAIM_STAT_SLOT : Fld := ⟨0x1212c, 0x0, 16, 10, .v 0⟩
def SCHD_REJECTS : Fld := ⟨0x12130, 0x0, 0, 32, .v 0⟩

-- SETO, spec/04
def SETO_CFG_SETTLE : Fld := ⟨0x11100, 0x0, 0, 4, .settle⟩
def SETO_CFG_CPL_DEB : Fld := ⟨0x11100, 0x0, 4, 7, .v 20⟩
def SETO_CFG_ORIENT_HINT : Fld := ⟨0x11100, 0x0, 11, 1, .v 1⟩
def SETO_CFG_A_SPLIT : Fld := ⟨0x11100, 0x0, 12, 1, .v 0⟩
def SETO_CMD : Fld := ⟨0x11104, 0x0, 0, 1, .v 0⟩
def SETO_STAT_STATE : Fld := ⟨0x11108, 0x0, 0, 4, .v 0⟩
def SETO_STAT_POSITION : Fld := ⟨0x11108, 0x0, 4, 6, .v 1⟩
def SETO_STAT_COUNT : Fld := ⟨0x11108, 0x0, 10, 6, .v 1⟩
def SETO_STAT_IS_DATUM : Fld := ⟨0x11108, 0x0, 16, 1, .v 1⟩
def SETO_STAT_ORIENT : Fld := ⟨0x11108, 0x0, 17, 1, .v 1⟩
def SETO_STAT_ORIENT_SRC : Fld := ⟨0x11108, 0x0, 18, 1, .v 0⟩
def SETO_STAT_DATUM_CONFLICT : Fld := ⟨0x11108, 0x0, 19, 1, .v 0⟩
def SETO_STAT_PREF_NOT_END : Fld := ⟨0x11108, 0x0, 20, 1, .v 0⟩
def SETO_STAT_SCHED_MISMATCH : Fld := ⟨0x11108, 0x0, 21, 1, .v 0⟩
def SETO_GEN_GEN : Fld := ⟨0x1110c, 0x0, 0, 16, .v 0⟩
def SETO_GEN_PENDING : Fld := ⟨0x1110c, 0x0, 16, 16, .v 0⟩
def SETO_COMMIT : Fld := ⟨0x11110, 0x0, 0, 32, .v 0⟩
def SETO_DATUM_LO : Fld := ⟨0x11114, 0x0, 0, 32, .uidLo⟩
def SETO_DATUM_HI : Fld := ⟨0x11118, 0x0, 0, 16, .uidHi⟩
def SETO_LAST_EVENT : Fld := ⟨0x1111c, 0x0, 0, 2, .v 0⟩
def SETO_LAST_PORT : Fld := ⟨0x1111c, 0x0, 2, 3, .v 0⟩
def SETO_LAST_CUT : Fld := ⟨0x1111c, 0x0, 5, 1, .v 0⟩
def SETO_LAST_COURSES : Fld := ⟨0x1111c, 0x0, 8, 8, .v 0⟩
def SETO_PLANS : Fld := ⟨0x11120, 0x0, 0, 32, .v 0⟩
def SETO_ABORTS : Fld := ⟨0x11124, 0x0, 0, 32, .v 0⟩
def SETO_REJOINS : Fld := ⟨0x11128, 0x0, 0, 32, .v 0⟩
def SETO_A_LOST : Fld := ⟨0x1112c, 0x0, 0, 32, .v 0⟩
def SETO_A_WINNER : Fld := ⟨0x11130, 0x0, 0, 32, .v 0⟩
def SETO_A_WINNER_HI : Fld := ⟨0x11134, 0x0, 0, 16, .v 0⟩
def SETO_RPT_OVF : Fld := ⟨0x11138, 0x0, 0, 32, .v 0⟩
def SETO_CAB_IGN : Fld := ⟨0x1113c, 0x0, 0, 32, .v 0⟩
def SETO_TAB_LO : Fld := ⟨0x11200, 0x8, 0, 32, .v 0⟩
def SETO_TAB_HI_UID : Fld := ⟨0x11204, 0x8, 0, 16, .v 0⟩
def SETO_TAB_HI_PENDING : Fld := ⟨0x11204, 0x8, 16, 1, .v 0⟩
def SETO_TAB_HI_ORIENT : Fld := ⟨0x11204, 0x8, 17, 1, .v 0⟩
def SETO_TAB_HI_TWIN : Fld := ⟨0x11204, 0x8, 18, 1, .v 0⟩
def SETO_TAB_HI_PREF : Fld := ⟨0x11204, 0x8, 19, 1, .v 0⟩

-- ADM, spec/04 (R529, R530)
def ADM_CFG_TX_SLOT : Fld := ⟨0x15100, 0x0, 0, 2, .v 0⟩
def ADM_CFG_INST_EN : Fld := ⟨0x15100, 0x0, 2, 1, .v 0⟩
def ADM_CFG_INST_ADMIT : Fld := ⟨0x15100, 0x0, 3, 1, .v 0⟩
def ADM_KEYSEL : Fld := ⟨0x15104, 0x0, 0, 2, .v 0⟩
def ADM_KEY : Fld := ⟨0x15108, 0x4, 0, 32, .v 0⟩
def ADM_KEYSTAT_VALID : Fld := ⟨0x15118, 0x0, 0, 4, .v 0⟩
def ADM_KEYSTAT_ROLL_PENDING : Fld := ⟨0x15118, 0x0, 4, 1, .v 0⟩
def ADM_CMD_ROLL : Fld := ⟨0x1511c, 0x0, 0, 1, .v 0⟩
def ADM_CMD_CLEAR_KEY : Fld := ⟨0x1511c, 0x0, 1, 1, .v 0⟩
def ADM_CMD_STR_CLEAR : Fld := ⟨0x1511c, 0x0, 2, 1, .v 0⟩
def ADM_STR_TAG : Fld := ⟨0x15120, 0x0, 0, 32, .v 0⟩
def ADM_STR_TABLE : Fld := ⟨0x15124, 0x0, 0, 32, .v 0⟩
def ADM_STR_OVF : Fld := ⟨0x15128, 0x0, 0, 32, .v 0⟩
def ADM_STR_USED : Fld := ⟨0x1512c, 0x0, 0, 5, .v 0⟩
def ADM_STR_UID_LO : Fld := ⟨0x15200, 0x10, 0, 32, .v 0⟩
def ADM_STR_ID_UID : Fld := ⟨0x15204, 0x10, 0, 16, .v 0⟩
def ADM_STR_ID_PORT : Fld := ⟨0x15204, 0x10, 16, 3, .v 0⟩
def ADM_STR_ID_REASON : Fld := ⟨0x15204, 0x10, 20, 4, .v 0⟩
def ADM_STR_ID_SRC : Fld := ⟨0x15204, 0x10, 24, 6, .v 0⟩
def ADM_STR_SEEN_COUNT : Fld := ⟨0x15208, 0x10, 0, 16, .v 0⟩
def ADM_STR_SEEN_FIRST : Fld := ⟨0x15208, 0x10, 16, 16, .v 0⟩
def ADM_STR_LAST : Fld := ⟨0x1520c, 0x10, 0, 32, .v 0⟩

-- LINE, spec/05
def LINE_CFG : Fld := ⟨0x10100, 0x0, 0, 3, .v 2⟩
def LINE_CMD_SET : Fld := ⟨0x10104, 0x0, 0, 1, .v 0⟩
def LINE_CMD_SNAP : Fld := ⟨0x10104, 0x0, 1, 1, .v 0⟩
def LINE_STAT_LOCK : Fld := ⟨0x10108, 0x0, 0, 1, .v 1⟩
def LINE_STAT_IS_SOURCE : Fld := ⟨0x10108, 0x0, 1, 1, .v 1⟩
def LINE_STAT_HOLDOVER : Fld := ⟨0x10108, 0x0, 2, 1, .v 0⟩
def LINE_STAT_THETA_VALID : Fld := ⟨0x10108, 0x0, 3, 1, .v 0⟩
def LINE_STAT_SYNC_MISS : Fld := ⟨0x10108, 0x0, 8, 8, .v 0⟩
def LINE_NOW_LO : Fld := ⟨0x1010c, 0x0, 0, 32, .v 0⟩
def LINE_NOW_HI : Fld := ⟨0x10110, 0x0, 0, 32, .v 0⟩
def LINE_SET_LO : Fld := ⟨0x10114, 0x0, 0, 32, .v 0⟩
def LINE_SET_HI : Fld := ⟨0x10118, 0x0, 0, 32, .v 0⟩
def LINE_EPS : Fld := ⟨0x1011c, 0x0, 0, 32, .v 0⟩
def LINE_TRIM : Fld := ⟨0x10120, 0x0, 0, 32, .v 0⟩
def LINE_DATUM_D : Fld := ⟨0x10124, 0x0, 0, 32, .v 0⟩
def LINE_THETA_LO : Fld := ⟨0x10128, 0x0, 0, 32, .v 0⟩
def LINE_THETA_HI : Fld := ⟨0x1012c, 0x0, 0, 32, .v 0⟩
def LINE_SNAP_LT_LO : Fld := ⟨0x10130, 0x0, 0, 32, .v 0⟩
def LINE_SNAP_LT_HI : Fld := ⟨0x10134, 0x0, 0, 32, .v 0⟩
def LINE_SNAP_RTC_LO : Fld := ⟨0x10138, 0x0, 0, 32, .v 0⟩
def LINE_SNAP_RTC_HI_SECONDS : Fld := ⟨0x1013c, 0x0, 0, 8, .v 0⟩
def LINE_SNAP_RTC_HI_SUBSEC : Fld := ⟨0x1013c, 0x0, 8, 15, .v 0⟩
def LINE_STEPS : Fld := ⟨0x10140, 0x0, 0, 32, .v 0⟩
def LINE_DRIFT_LATE : Fld := ⟨0x10144, 0x0, 0, 32, .v 0⟩
def LINE_DLY_OUTLIER : Fld := ⟨0x10148, 0x0, 0, 32, .v 0⟩
def LINE_ADOPT_FAIL : Fld := ⟨0x1014c, 0x0, 0, 32, .v 0⟩
def LINE_P_DLY_DELAY : Fld := ⟨0x10200, 0x20, 0, 24, .v 0⟩
def LINE_P_DLY_VALID : Fld := ⟨0x10200, 0x20, 24, 1, .v 0⟩
def LINE_P_THETA : Fld := ⟨0x10204, 0x20, 0, 32, .v 0⟩
def LINE_P_ASYM : Fld := ⟨0x10208, 0x20, 0, 16, .v 0⟩
def LINE_P_JUMP : Fld := ⟨0x1020c, 0x20, 0, 14, .v 0⟩
def LINE_P_EXCH : Fld := ⟨0x10210, 0x20, 0, 32, .v 0⟩
def LINE_PTP_EN_EN : Fld := ⟨0x10300, 0x0, 0, 8, .v 0⟩
def LINE_PTP_EN_P2P : Fld := ⟨0x10300, 0x0, 8, 8, .v 0⟩
def LINE_PTP_INT_LOG_SYNC : Fld := ⟨0x10304, 0x0, 0, 4, .v 0xD⟩
def LINE_PTP_INT_LOG_ANN : Fld := ⟨0x10304, 0x0, 4, 4, .v 0⟩
def LINE_PTP_INT_LOG_MINDREQ : Fld := ⟨0x10304, 0x0, 8, 4, .v 0⟩
def LINE_PTP_INT_DOMAIN : Fld := ⟨0x10304, 0x0, 16, 8, .v 0⟩
def LINE_PTP_DS_CLASS_LOCKED : Fld := ⟨0x10308, 0x0, 0, 8, .v 248⟩
def LINE_PTP_DS_CLASS_UNLOCKED : Fld := ⟨0x10308, 0x0, 8, 8, .v 248⟩
def LINE_PTP_DS_PRIORITY1 : Fld := ⟨0x10308, 0x0, 16, 8, .v 128⟩
def LINE_PTP_DS_PRIORITY2 : Fld := ⟨0x10308, 0x0, 24, 8, .v 128⟩
def LINE_PTP_OFS_LO : Fld := ⟨0x1030c, 0x0, 0, 32, .v 0⟩
def LINE_PTP_OFS_HI : Fld := ⟨0x10310, 0x0, 0, 32, .v 0⟩
def LINE_PTP_TS_PTP_TIMESCALE : Fld := ⟨0x10314, 0x0, 0, 1, .v 0⟩
def LINE_PTP_TS_UTC_VALID : Fld := ⟨0x10314, 0x0, 1, 1, .v 0⟩
def LINE_PTP_TS_UTC_OFFSET : Fld := ⟨0x10314, 0x0, 16, 16, .v 0⟩
def LINE_PTP_FOREIGN : Fld := ⟨0x10318, 0x0, 0, 32, .v 0⟩

-- GRD, spec/06
def GRD_CFG_KIND_CHECK : Fld := ⟨0x13100, 0x0, 0, 1, .v 1⟩
def GRD_CFG_SIL_N : Fld := ⟨0x13100, 0x0, 8, 8, .v 3⟩
def GRD_KILL_STAT_PIN_LOW : Fld := ⟨0x13104, 0x0, 0, 1, .v 0⟩
def GRD_KILL_STAT_LATCHED : Fld := ⟨0x13104, 0x0, 1, 1, .v 0⟩
def GRD_KILL_CNT : Fld := ⟨0x13108, 0x0, 0, 32, .v 0⟩
def GRD_MAP_CRC : Fld := ⟨0x1310c, 0x0, 0, 32, .v 0⟩
def GRD_SILENT_LO : Fld := ⟨0x13110, 0x0, 0, 32, .v 0⟩
def GRD_SILENT_HI : Fld := ⟨0x13114, 0x0, 0, 30, .v 0⟩
def GRD_P_STAT_STATE : Fld := ⟨0x13200, 0x40, 0, 3, .v 0⟩
def GRD_P_STAT_TESTING : Fld := ⟨0x13200, 0x40, 3, 1, .v 0⟩
def GRD_P_STAT_ASLEEP : Fld := ⟨0x13200, 0x40, 4, 1, .v 0⟩
def GRD_P_STAT_FENCED : Fld := ⟨0x13200, 0x40, 5, 1, .v 0⟩
def GRD_P_STAT_OWNCAR : Fld := ⟨0x13200, 0x40, 6, 1, .v 0⟩
def GRD_P_CRC : Fld := ⟨0x13204, 0x40, 0, 32, .v 0⟩
def GRD_P_DERR : Fld := ⟨0x13208, 0x40, 0, 32, .v 0⟩
def GRD_P_REFUSE : Fld := ⟨0x1320c, 0x40, 0, 32, .v 0⟩
def GRD_P_KIND : Fld := ⟨0x13210, 0x40, 0, 32, .v 0⟩
def GRD_P_TRUNC : Fld := ⟨0x13214, 0x40, 0, 32, .v 0⟩
def GRD_P_NOTOKEN : Fld := ⟨0x13218, 0x40, 0, 32, .v 0⟩
def GRD_P_CLIP : Fld := ⟨0x1321c, 0x40, 0, 32, .v 0⟩
def GRD_P_MISMATCH : Fld := ⟨0x13220, 0x40, 0, 32, .v 0⟩
def GRD_P_BABBLE_RX : Fld := ⟨0x13224, 0x40, 0, 32, .v 0⟩

-- HUB, spec/06
def HUB_CFG_HUB_EN : Fld := ⟨0x14100, 0x0, 0, 1, .v 0⟩
def HUB_CFG_END0_BRANCH : Fld := ⟨0x14100, 0x0, 1, 1, .v 0⟩
def HUB_CFG_END1_BRANCH : Fld := ⟨0x14100, 0x0, 2, 1, .v 0⟩
def HUB_CFG_CUT_N : Fld := ⟨0x14100, 0x0, 8, 4, .v 1⟩
def HUB_CFG_CLEAN_N : Fld := ⟨0x14100, 0x0, 16, 8, .v 16⟩
def HUB_CMD_REINSTATE : Fld := ⟨0x14104, 0x0, 0, 8, .v 0⟩
def HUB_CMD_CUT : Fld := ⟨0x14104, 0x0, 8, 8, .v 0⟩
def HUB_BR_STAT_ROLE : Fld := ⟨0x14200, 0x40, 0, 2, .v 0⟩
def HUB_BR_STAT_STATE : Fld := ⟨0x14200, 0x40, 2, 2, .v 0⟩
def HUB_BR_STAT_TESTING : Fld := ⟨0x14200, 0x40, 4, 1, .v 0⟩
def HUB_BR_STAT_ASLEEP : Fld := ⟨0x14200, 0x40, 5, 1, .v 0⟩
def HUB_BR_STAT_FENCED : Fld := ⟨0x14200, 0x40, 6, 1, .v 0⟩
def HUB_BR_STAT_CLEAN : Fld := ⟨0x14200, 0x40, 8, 8, .v 0⟩
def HUB_BR_STAT_BEHIND : Fld := ⟨0x14200, 0x40, 16, 6, .v 0⟩
def HUB_BR_CFG : Fld := ⟨0x14204, 0x40, 0, 1, .v 0⟩
def HUB_BR_DB : Fld := ⟨0x14208, 0x40, 0, 32, .v 0⟩
def HUB_BR_VIOL : Fld := ⟨0x1420c, 0x40, 0, 32, .v 0⟩
def HUB_BR_CUTS : Fld := ⟨0x14210, 0x40, 0, 32, .v 0⟩
def HUB_BR_FWD : Fld := ⟨0x14214, 0x40, 0, 32, .v 0⟩
def HUB_BR_LAST_SLOT : Fld := ⟨0x14218, 0x40, 0, 10, .v 0⟩
def HUB_BR_LAST_SRC : Fld := ⟨0x14218, 0x40, 10, 6, .v 0⟩
def HUB_BR_LAST_COURSE : Fld := ⟨0x14218, 0x40, 16, 16, .v 0⟩

-- TRW, spec/07
def TRW_STAT_MCODE_OK : Fld := ⟨0x18100, 0x0, 0, 1, .v 0⟩
def TRW_STAT_MCODE_IMG : Fld := ⟨0x18100, 0x0, 1, 1, .v 0⟩
def TRW_STAT_MCODE_VER : Fld := ⟨0x18100, 0x0, 16, 16, .v 0⟩
def TRW_TX_LEAD : Fld := ⟨0x18104, 0x0, 0, 6, .v 4⟩
def TRW_CTX_AGE : Fld := ⟨0x18108, 0x0, 0, 10, .v 25⟩
def TRW_CTX_USED_USED : Fld := ⟨0x1810c, 0x0, 0, 15, .v 0⟩
def TRW_CTX_USED_PEAK : Fld := ⟨0x1810c, 0x0, 16, 15, .v 0⟩
def TRW_CTX_RECLAIM : Fld := ⟨0x18110, 0x0, 0, 32, .v 0⟩
def TRW_RELAY_CNT : Fld := ⟨0x18114, 0x0, 0, 32, .v 0⟩
def TRW_RELAY_MAX : Fld := ⟨0x18118, 0x0, 0, 5, .v 0⟩
def TRW_RX_NOQ : Fld := ⟨0x1811c, 0x0, 0, 32, .v 0⟩
def TRW_MSG_DISCARD : Fld := ⟨0x18120, 0x0, 0, 32, .v 0⟩
def TRW_MSG_DUP : Fld := ⟨0x18124, 0x0, 0, 32, .v 0⟩
def TRW_SHORT_DROP : Fld := ⟨0x18128, 0x0, 0, 32, .v 0⟩
def TRW_IMG_BASE : Fld := ⟨0x1812c, 0x0, 16, 10, .v 0x3B0⟩
def TRW_IMG_SIZE : Fld := ⟨0x18130, 0x0, 0, 8, .v 64⟩
def TRW_IMG_READY : Fld := ⟨0x18134, 0x0, 0, 32, .v 0⟩
def TRW_IMG_STAT_ARMED : Fld := ⟨0x18138, 0x0, 0, 1, .v 0⟩
def TRW_IMG_STAT_TX_HOST : Fld := ⟨0x18138, 0x0, 1, 1, .v 1⟩
def TRW_IMG_STAT_RX_STABLE : Fld := ⟨0x18138, 0x0, 2, 1, .v 0⟩
def TRW_IMG_STAT_OVERFLOW : Fld := ⟨0x18138, 0x0, 3, 1, .v 0⟩
def TRW_IMG_COURSE : Fld := ⟨0x1813c, 0x0, 0, 32, .v 0⟩
def TRW_HOST_LATE : Fld := ⟨0x18140, 0x0, 0, 32, .v 0⟩
def TRW_IMG_OVF : Fld := ⟨0x18144, 0x0, 0, 32, .v 0⟩
def TRW_WHEEL_CMD : Fld := ⟨0x18148, 0x0, 0, 1, .v 0⟩
def TRW_WHEEL_STAT_PENDING : Fld := ⟨0x1814c, 0x0, 0, 1, .v 0⟩
def TRW_WHEEL_STAT_SHORT : Fld := ⟨0x1814c, 0x0, 1, 1, .v 0⟩
def TRW_WHEEL_STAT_CHANNEL : Fld := ⟨0x1814c, 0x0, 4, 4, .v 0⟩
def TRW_CTX_Q_RES : Fld := ⟨0x18180, 0x4, 0, 15, .ctxRes⟩
def TRW_CTX_Q_MAX : Fld := ⟨0x18180, 0x4, 16, 15, .v 16384⟩
def TRW_CTX_DENY : Fld := ⟨0x181c0, 0x4, 0, 32, .v 0⟩
def TRW_CTX_INUSE : Fld := ⟨0x18200, 0x4, 0, 15, .v 0⟩
def TRW_WHEEL_FILL : Fld := ⟨0x18400, 0x4, 0, 4, .v 0xC⟩
def TRW_WHEEL_P (k : Nat) : Fld := ⟨0x18400, 0x4, 4 + 4 * k, 4, .wheel (k+1)⟩
def TRW_WHEEL_ACT : Fld := ⟨0x18500, 0x4, 0, 32, .wheelWord⟩

-- TRWQ, spec/07
def TRWQ_TX_DONE_LO : Fld := ⟨0x19100, 0x0, 0, 32, .v 0⟩
def TRWQ_TX_DONE_HI : Fld := ⟨0x19104, 0x0, 0, 32, .v 0⟩
def TRWQ_RX_DONE_LO : Fld := ⟨0x19108, 0x0, 0, 32, .v 0⟩
def TRWQ_RX_DONE_HI : Fld := ⟨0x1910c, 0x0, 0, 32, .v 0⟩
def TRWQ_TX_ERR_LO : Fld := ⟨0x19110, 0x0, 0, 32, .v 0⟩
def TRWQ_TX_ERR_HI : Fld := ⟨0x19114, 0x0, 0, 32, .v 0⟩
def TRWQ_RX_ERR_LO : Fld := ⟨0x19118, 0x0, 0, 32, .v 0⟩
def TRWQ_RX_ERR_HI : Fld := ⟨0x1911c, 0x0, 0, 32, .v 0⟩
def TRWQ_RX_NODESC : Fld := ⟨0x19120, 0x0, 0, 32, .v 0⟩
def TRWQ_TX_ERRCNT : Fld := ⟨0x19124, 0x0, 0, 32, .v 0⟩
def Q_BASE_LO : Fld := ⟨0x19800, 0x10, 5, 27, .v 0⟩
def Q_BASE_HI_ADDR : Fld := ⟨0x19804, 0x10, 0, 16, .v 0⟩
def Q_BASE_HI_LOG2SIZE : Fld := ⟨0x19804, 0x10, 16, 4, .v 3⟩
def Q_BASE_HI_LOC : Fld := ⟨0x19804, 0x10, 20, 1, .v 0⟩
def Q_BASE_HI_EN : Fld := ⟨0x19804, 0x10, 21, 1, .v 0⟩
def Q_BIND_TARGET : Fld := ⟨0x19808, 0x10, 0, 16, .v 0xFFFF⟩
def Q_BIND_CLASS : Fld := ⟨0x19808, 0x10, 16, 2, .v 0⟩
def Q_BIND_SRC : Fld := ⟨0x19808, 0x10, 18, 6, .v 0⟩
def Q_IDX_HEAD : Fld := ⟨0x1980c, 0x10, 0, 16, .v 0⟩
def Q_IDX_TAIL : Fld := ⟨0x1980c, 0x10, 16, 16, .v 0⟩

-- LANE, spec/07
def LANE_CFG : Fld := ⟨0x1a100, 0x0, 0, 1, .v 0⟩
def LANE_MAP_P (k : Nat) : Fld := ⟨0x1a104, 0x0, 0 + 4 * k, 4, .v k⟩
def LANE_REST_REST : Fld := ⟨0x1a108, 0x0, 0, 4, .v 8⟩
def LANE_REST_WORKING : Fld := ⟨0x1a108, 0x0, 4, 4, .v 9⟩
def LANE_REST_DEGRADED : Fld := ⟨0x1a108, 0x0, 8, 1, .v 0⟩
def LANE_REST_SHORT : Fld := ⟨0x1a108, 0x0, 9, 1, .v 0⟩
def LANE_STATE_L (k : Nat) : Fld := ⟨0x1a10c, 0x0, 0 + 3 * k, 3, .laneState k⟩
def LANE_ROT : Fld := ⟨0x1a110, 0x0, 0, 32, .v 0⟩
def LANE_CMD : Fld := ⟨0x1a114, 0x0, 0, 1, .v 0⟩

-- LETH, spec/08
def LETH_P_CFG_EN : Fld := ⟨0x38200, 0x40, 0, 1, .v 0⟩
def LETH_P_CFG_AN_EN : Fld := ⟨0x38200, 0x40, 1, 1, .v 1⟩
def LETH_P_CFG_RX_PAUSE : Fld := ⟨0x38200, 0x40, 2, 1, .v 0⟩
def LETH_P_CFG_PROMISC : Fld := ⟨0x38200, 0x40, 3, 1, .v 0⟩
def LETH_P_STAT_UP : Fld := ⟨0x38204, 0x40, 0, 1, .v 0⟩
def LETH_P_STAT_SYNC : Fld := ⟨0x38204, 0x40, 1, 1, .v 0⟩
def LETH_P_STAT_AN_DONE : Fld := ⟨0x38204, 0x40, 2, 1, .v 0⟩
def LETH_P_STAT_LOS : Fld := ⟨0x38204, 0x40, 3, 1, .v 1⟩
def LETH_P_MAC_LO : Fld := ⟨0x38208, 0x40, 0, 32, .v 0⟩
def LETH_P_MAC_HI : Fld := ⟨0x3820c, 0x40, 0, 16, .v 0⟩
def LETH_P_LAT_RX : Fld := ⟨0x38210, 0x40, 0, 16, .v 0⟩
def LETH_P_LAT_TX : Fld := ⟨0x38210, 0x40, 16, 16, .v 0⟩
def LETH_P_RX_OK : Fld := ⟨0x38214, 0x40, 0, 32, .v 0⟩
def LETH_P_TX_OK : Fld := ⟨0x38218, 0x40, 0, 32, .v 0⟩
def LETH_P_RX_BAD : Fld := ⟨0x3821c, 0x40, 0, 32, .v 0⟩
def LETH_P_RX_NOQ : Fld := ⟨0x38220, 0x40, 0, 32, .v 0⟩
def LETH_P_RX_FULL : Fld := ⟨0x38224, 0x40, 0, 32, .v 0⟩
def LETH_P_TX_DROP : Fld := ⟨0x38228, 0x40, 0, 32, .v 0⟩
def LETH_P_RX_NOCTX : Fld := ⟨0x3822c, 0x40, 0, 32, .v 0⟩
def LETH_P_RX_PWR : Fld := ⟨0x38230, 0x40, 0, 32, .v 0⟩
def LETH_P_PAUSE_RX : Fld := ⟨0x38234, 0x40, 0, 32, .v 0⟩
def LETH_MAP_CFG_EN : Fld := ⟨0x38600, 0x10, 0, 1, .v 0⟩
def LETH_MAP_CFG_DIR : Fld := ⟨0x38600, 0x10, 1, 1, .v 0⟩
def LETH_MAP_CFG_PORT : Fld := ⟨0x38600, 0x10, 2, 3, .v 0⟩
def LETH_MAP_CFG_COPY : Fld := ⟨0x38600, 0x10, 5, 1, .v 0⟩
def LETH_MAP_CFG_STRIP : Fld := ⟨0x38600, 0x10, 6, 1, .v 0⟩
def LETH_MAP_CFG_TAG : Fld := ⟨0x38600, 0x10, 7, 1, .v 0⟩
def LETH_MAP_CFG_TXCLASS : Fld := ⟨0x38600, 0x10, 8, 2, .v 0⟩
def LETH_MAP_CFG_DEPTH : Fld := ⟨0x38600, 0x10, 10, 6, .v 8⟩
def LETH_MAP_MATCH_ETYPE : Fld := ⟨0x38604, 0x10, 0, 16, .v 0⟩
def LETH_MAP_MATCH_VID : Fld := ⟨0x38604, 0x10, 16, 12, .v 0⟩
def LETH_MAP_MATCH_ETYPE_ANY : Fld := ⟨0x38604, 0x10, 28, 1, .v 1⟩
def LETH_MAP_MATCH_VID_ANY : Fld := ⟨0x38604, 0x10, 29, 1, .v 1⟩
def LETH_MAP_STREAM_STREAM : Fld := ⟨0x38608, 0x10, 0, 16, .v 0xFFFF⟩
def LETH_MAP_STREAM_POS : Fld := ⟨0x38608, 0x10, 16, 6, .v 63⟩
def LETH_MAP_STREAM_PCP : Fld := ⟨0x38608, 0x10, 22, 3, .v 0⟩
def LETH_MAP_DROP_DROP : Fld := ⟨0x3860c, 0x10, 0, 16, .v 0⟩
def LETH_MAP_DROP_BAD : Fld := ⟨0x3860c, 0x10, 16, 16, .v 0⟩

-- LCAN, spec/08
def LC_P_CFG_EN : Fld := ⟨0x39200, 0x40, 0, 1, .v 0⟩
def LC_P_CFG_MONITOR : Fld := ⟨0x39200, 0x40, 1, 1, .v 1⟩
def LC_P_CFG_FD_EN : Fld := ⟨0x39200, 0x40, 2, 1, .v 1⟩
def LC_P_CFG_AUTO_REC : Fld := ⟨0x39200, 0x40, 3, 1, .v 1⟩
def LC_P_CFG_TDC_EN : Fld := ⟨0x39200, 0x40, 4, 1, .v 1⟩
def LC_P_NBT_PRESC : Fld := ⟨0x39204, 0x40, 0, 5, .v 0⟩
def LC_P_NBT_SEG1 : Fld := ⟨0x39204, 0x40, 5, 8, .v 78⟩
def LC_P_NBT_SEG2 : Fld := ⟨0x39204, 0x40, 13, 7, .v 19⟩
def LC_P_NBT_SJW : Fld := ⟨0x39204, 0x40, 20, 7, .v 19⟩
def LC_P_DBT_PRESC : Fld := ⟨0x39208, 0x40, 0, 5, .v 0⟩
def LC_P_DBT_SEG1 : Fld := ⟨0x39208, 0x40, 5, 5, .v 18⟩
def LC_P_DBT_SEG2 : Fld := ⟨0x39208, 0x40, 10, 4, .v 4⟩
def LC_P_DBT_SJW : Fld := ⟨0x39208, 0x40, 14, 4, .v 4⟩
def LC_P_TDC : Fld := ⟨0x3920c, 0x40, 0, 7, .v 20⟩
def LC_P_STAT_STATE : Fld := ⟨0x39210, 0x40, 0, 2, .v 0⟩
def LC_P_STAT_TEC : Fld := ⟨0x39210, 0x40, 8, 8, .v 0⟩
def LC_P_STAT_REC : Fld := ⟨0x39210, 0x40, 16, 8, .v 0⟩
def LC_P_CMD : Fld := ⟨0x39214, 0x40, 0, 1, .v 0⟩
def LC_P_RX_OK : Fld := ⟨0x39218, 0x40, 0, 32, .v 0⟩
def LC_P_TX_OK : Fld := ⟨0x3921c, 0x40, 0, 32, .v 0⟩
def LC_P_ERR : Fld := ⟨0x39220, 0x40, 0, 32, .v 0⟩
def LC_P_BUSOFF : Fld := ⟨0x39224, 0x40, 0, 32, .v 0⟩
def LC_P_RX_NOQ : Fld := ⟨0x39228, 0x40, 0, 32, .v 0⟩
def LC_P_RX_FULL : Fld := ⟨0x3922c, 0x40, 0, 32, .v 0⟩
def LC_P_TX_DROP : Fld := ⟨0x39230, 0x40, 0, 32, .v 0⟩
def LC_P_RX_NOCTX : Fld := ⟨0x39234, 0x40, 0, 32, .v 0⟩
def LC_P_RX_PWR : Fld := ⟨0x39238, 0x40, 0, 32, .v 0⟩
def LC_MAP_CFG_EN : Fld := ⟨0x39600, 0x10, 0, 1, .v 0⟩
def LC_MAP_CFG_DIR : Fld := ⟨0x39600, 0x10, 1, 1, .v 0⟩
def LC_MAP_CFG_PORT : Fld := ⟨0x39600, 0x10, 2, 2, .v 0⟩
def LC_MAP_CFG_COPY : Fld := ⟨0x39600, 0x10, 4, 1, .v 0⟩
def LC_MAP_CFG_BUNDLE_MAX : Fld := ⟨0x39600, 0x10, 5, 7, .v 64⟩
def LC_MAP_CFG_DEPTH : Fld := ⟨0x39600, 0x10, 12, 6, .v 8⟩
def LC_MAP_ID_ID : Fld := ⟨0x39604, 0x10, 0, 29, .v 0⟩
def LC_MAP_ID_IDE : Fld := ⟨0x39604, 0x10, 29, 1, .v 0⟩
def LC_MAP_MASK : Fld := ⟨0x39608, 0x10, 0, 29, .v 0⟩
def LC_MAP_STREAM_STREAM : Fld := ⟨0x3960c, 0x10, 0, 16, .v 0xFFFF⟩
def LC_MAP_STREAM_POS : Fld := ⟨0x3960c, 0x10, 16, 6, .v 63⟩

-- TWIN, spec/09
def TWIN_CFG_STALE_N : Fld := ⟨0x1c100, 0x0, 0, 8, .v 8⟩
def TWIN_CFG_FIT_MASK : Fld := ⟨0x1c100, 0x0, 8, 8, .v 0x3F⟩
def TWIN_CFG_HOST_EN : Fld := ⟨0x1c100, 0x0, 16, 1, .v 0⟩
def TWIN_CPL_CPL_D : Fld := ⟨0x1c104, 0x0, 0, 16, .v 0⟩
def TWIN_CPL_D_ADJ : Fld := ⟨0x1c104, 0x0, 16, 16, .v 0⟩
def TWIN_HOST_TX : Fld := ⟨0x1c108, 0x0, 3, 23, .v 0⟩
def TWIN_HOST_LEN : Fld := ⟨0x1c10c, 0x0, 0, 16, .v 0⟩
def TWIN_HOST_RX : Fld := ⟨0x1c110, 0x0, 3, 23, .v 0⟩
def TWIN_STAT_ROLE : Fld := ⟨0x1c114, 0x0, 0, 2, .v 0⟩
def TWIN_STAT_ROLE_CMD : Fld := ⟨0x1c114, 0x0, 2, 2, .v 0⟩
def TWIN_STAT_TAKE_ARMED : Fld := ⟨0x1c114, 0x0, 4, 1, .v 0⟩
def TWIN_STAT_FENCE_SRC : Fld := ⟨0x1c114, 0x0, 5, 2, .v 0⟩
def TWIN_STAT_SWAP : Fld := ⟨0x1c114, 0x0, 7, 3, .v 0⟩
def TWIN_STAT_CMD_DISAGREE : Fld := ⟨0x1c114, 0x0, 10, 1, .v 0⟩
def TWIN_STAT_DUAL_ACTIVE : Fld := ⟨0x1c114, 0x0, 11, 1, .v 0⟩
def TWIN_STAT_STALE : Fld := ⟨0x1c114, 0x0, 12, 1, .v 1⟩
def TWIN_STAT_HOST_DROP : Fld := ⟨0x1c114, 0x0, 13, 1, .v 0⟩
def TWIN_STAT_SILENT_RUN : Fld := ⟨0x1c114, 0x0, 14, 1, .v 0⟩
def TWIN_STAT_HOST_BUF : Fld := ⟨0x1c114, 0x0, 15, 1, .v 0⟩
def TWIN_HEALTH : Fld := ⟨0x1c118, 0x0, 0, 32, .v 0⟩
def TWIN_PARTNER_HEALTH : Fld := ⟨0x1c11c, 0x0, 0, 32, .v 0⟩
def TWIN_REC_COURSE : Fld := ⟨0x1c120, 0x0, 0, 32, .v 0⟩
def TWIN_TAKEOVERS : Fld := ⟨0x1c124, 0x0, 0, 32, .v 0⟩
def TWIN_SWAPS : Fld := ⟨0x1c128, 0x0, 0, 32, .v 0⟩
def TWIN_SWAP_ABORT : Fld := ⟨0x1c12c, 0x0, 0, 32, .v 0⟩
def TWIN_REC_BAD : Fld := ⟨0x1c130, 0x0, 0, 32, .v 0⟩
def TWIN_REC_LATE : Fld := ⟨0x1c134, 0x0, 0, 32, .v 0⟩
def TWIN_STATE_DIFF : Fld := ⟨0x1c138, 0x0, 0, 32, .v 0⟩
def TWIN_CTX_DIFF : Fld := ⟨0x1c13c, 0x0, 0, 32, .v 0⟩
def TWIN_ARB_CFG_AUTO : Fld := ⟨0x1c200, 0x0, 0, 1, .v 1⟩
def TWIN_ARB_CFG_HB_MISS : Fld := ⟨0x1c200, 0x0, 1, 2, .v 1⟩
def TWIN_ARB_CFG_PM_N : Fld := ⟨0x1c200, 0x0, 3, 2, .v 2⟩
def TWIN_ARB_CFG_SWAP_H : Fld := ⟨0x1c200, 0x0, 8, 8, .v 24⟩
def TWIN_ARB_CFG_POS : Fld := ⟨0x1c200, 0x0, 16, 6, .v 0⟩
def TWIN_ARB_CMD_FAILOVER : Fld := ⟨0x1c204, 0x0, 0, 1, .v 0⟩
def TWIN_ARB_CMD_SWAP : Fld := ⟨0x1c204, 0x0, 1, 1, .v 0⟩
def TWIN_ARB_CMD_RESTORE : Fld := ⟨0x1c204, 0x0, 2, 2, .v 0⟩
def TWIN_ARB_CMD_OUT : Fld := ⟨0x1c204, 0x0, 4, 2, .v 0⟩
def TWIN_ARB_STAT_ROLE_A : Fld := ⟨0x1c208, 0x0, 0, 2, .v 1⟩
def TWIN_ARB_STAT_ROLE_B : Fld := ⟨0x1c208, 0x0, 2, 2, .v 2⟩
def TWIN_ARB_STAT_KILL : Fld := ⟨0x1c208, 0x0, 4, 2, .v 0⟩
def TWIN_ARB_STAT_FENCED : Fld := ⟨0x1c208, 0x0, 6, 2, .v 0⟩
def TWIN_ARB_STAT_HB_OK : Fld := ⟨0x1c208, 0x0, 8, 2, .v 0⟩
def TWIN_ARB_STAT_PM : Fld := ⟨0x1c208, 0x0, 10, 2, .v 0⟩
def TWIN_ARB_STAT_LAST : Fld := ⟨0x1c208, 0x0, 16, 4, .v 0⟩
def TWIN_ARB_HLTH : Fld := ⟨0x1c20c, 0x4, 0, 32, .v 0⟩
def TWIN_ARB_LAST_COURSE : Fld := ⟨0x1c214, 0x0, 0, 32, .v 0⟩
def TWIN_ARB_SWAP_LEFT : Fld := ⟨0x1c218, 0x0, 0, 32, .v 0⟩
def TWIN_ARB_DECISIONS : Fld := ⟨0x1c21c, 0x0, 0, 32, .v 0⟩
def TWIN_ARB_OWN_SILENT : Fld := ⟨0x1c220, 0x0, 0, 32, .v 0⟩

-- TIE, spec/09
def TIE_CFG_EN : Fld := ⟨0x1d100, 0x0, 0, 1, .twinRole⟩
def TIE_CFG_LANE1_EN : Fld := ⟨0x1d100, 0x0, 1, 1, .v 1⟩
def TIE_STAT_LOCK : Fld := ⟨0x1d104, 0x0, 0, 2, .v 0⟩
def TIE_STAT_ALIGNED : Fld := ⟨0x1d104, 0x0, 2, 1, .v 0⟩
def TIE_STAT_UP : Fld := ⟨0x1d104, 0x0, 3, 1, .v 0⟩
def TIE_STAT_SINGLE : Fld := ⟨0x1d104, 0x0, 4, 1, .v 0⟩
def TIE_STAT_PARTNER : Fld := ⟨0x1d104, 0x0, 5, 1, .v 0⟩
def TIE_STAT_SKEW : Fld := ⟨0x1d104, 0x0, 8, 8, .v 0⟩
def TIE_TX_FRAMES : Fld := ⟨0x1d108, 0x0, 0, 32, .v 0⟩
def TIE_RX_FRAMES : Fld := ⟨0x1d10c, 0x0, 0, 32, .v 0⟩
def TIE_RX_BAD : Fld := ⟨0x1d110, 0x0, 0, 32, .v 0⟩
def TIE_BLK_ERR : Fld := ⟨0x1d114, 0x0, 0, 32, .v 0⟩
def TIE_LANE_DOWN : Fld := ⟨0x1d118, 0x0, 0, 32, .v 0⟩
def TIE_REC_NS : Fld := ⟨0x1d11c, 0x0, 0, 32, .v 0⟩

-- PLMB, spec/09
def PLMB_CFG_WORDS : Fld := ⟨0x1e100, 0x0, 0, 7, .v 0x7F⟩
def PLMB_CFG_PAYLOAD : Fld := ⟨0x1e100, 0x0, 7, 1, .v 1⟩
def PLMB_STAT_RESULT : Fld := ⟨0x1e104, 0x0, 0, 3, .v 0⟩
def PLMB_STAT_SELF_DIFF : Fld := ⟨0x1e104, 0x0, 3, 1, .v 0⟩
def PLMB_STAT_FIRST_SLOT : Fld := ⟨0x1e104, 0x0, 16, 10, .v 0x3FF⟩
def PLMB_WOULD : Fld := ⟨0x1e108, 0x0, 0, 32, .v 0⟩
def PLMB_HEARD : Fld := ⟨0x1e10c, 0x0, 0, 32, .v 0⟩
def PLMB_SELF : Fld := ⟨0x1e110, 0x0, 0, 32, .v 0⟩
def PLMB_COUNT_WOULD : Fld := ⟨0x1e114, 0x0, 0, 16, .v 0⟩
def PLMB_COUNT_HEARD : Fld := ⟨0x1e114, 0x0, 16, 16, .v 0⟩
def PLMB_COURSE : Fld := ⟨0x1e118, 0x0, 0, 32, .v 0⟩
def PLMB_MISMATCH_CNT : Fld := ⟨0x1e11c, 0x0, 0, 32, .v 0⟩
def PLMB_SILENT_CNT : Fld := ⟨0x1e120, 0x0, 0, 32, .v 0⟩
def PLMB_INCONC_CNT : Fld := ⟨0x1e124, 0x0, 0, 32, .v 0⟩
def PLMB_SELF_DIFF : Fld := ⟨0x1e128, 0x0, 0, 32, .v 0⟩

-- QRY, spec/10
def QRY_GRP_MODE : Fld := ⟨0x20100, 0x0, 0, 16, .v 0⟩
def QRY_CFG_SCRUB_EN : Fld := ⟨0x20104, 0x0, 0, 1, .v 1⟩
def QRY_CFG_AUTO_REPAIR : Fld := ⟨0x20104, 0x0, 1, 1, .v 1⟩
def QRY_SCRUB_PERIOD : Fld := ⟨0x20108, 0x0, 0, 17, .v 3600⟩
def QRY_BANK_RUN : Fld := ⟨0x20110, 0x4, 0, 32, .v 0xAAAAAAAA⟩
def QRY_BANK_NAP : Fld := ⟨0x20120, 0x4, 0, 32, .v 0x55555555⟩
def QRY_BANK_SLUMBER : Fld := ⟨0x20130, 0x4, 0, 32, .v 0⟩
def QRY_BANK_PIN : Fld := ⟨0x20138, 0x4, 0, 32, .v 0⟩
def QRY_BANK_STAT : Fld := ⟨0x20140, 0x4, 0, 32, .v 0x22222222⟩
def QRY_ECC_CE : Fld := ⟨0x20160, 0x0, 0, 32, .v 0⟩
def QRY_ECC_UE : Fld := ⟨0x20164, 0x0, 0, 32, .v 0⟩
def QRY_ECC_ADDR : Fld := ⟨0x20168, 0x0, 3, 23, .v 0⟩
def QRY_ECC_INFO_SYNDROME : Fld := ⟨0x2016c, 0x0, 0, 8, .v 0⟩
def QRY_ECC_INFO_MASTER : Fld := ⟨0x2016c, 0x0, 8, 4, .v 0⟩
def QRY_ECC_INFO_UE : Fld := ⟨0x2016c, 0x0, 12, 1, .v 0⟩
def QRY_ECC_INFO_SCRUB : Fld := ⟨0x2016c, 0x0, 13, 1, .v 0⟩
def QRY_ECC_INFO_HARD : Fld := ⟨0x2016c, 0x0, 14, 1, .v 0⟩
def QRY_SEM_BREAK : Fld := ⟨0x20170, 0x0, 0, 16, .v 0⟩
def QRY_SEM_CONTEND : Fld := ⟨0x20174, 0x0, 0, 32, .v 0⟩
def QRY_SEM_ENDED : Fld := ⟨0x20178, 0x0, 0, 32, .v 0⟩
def QRY_SEMN_TAG : Fld := ⟨0x20400, 0x4, 0, 16, .v 0⟩
def QRY_SEMN_LEASE : Fld := ⟨0x20400, 0x4, 16, 8, .v 0⟩
def QRY_SEMN_OP : Fld := ⟨0x20400, 0x4, 24, 2, .v 0⟩
def QRY_SEMN_OWNER : Fld := ⟨0x20400, 0x4, 26, 4, .v 0⟩
def QRY_SEMN_HELD : Fld := ⟨0x20400, 0x4, 30, 1, .v 0⟩
def QRY_SEMN_ENDED : Fld := ⟨0x20400, 0x4, 31, 1, .v 0⟩

-- RGN, spec/10
def RGN_FENCE_SET : Fld := ⟨0x21100, 0x0, 0, 16, .v 0⟩
def RGN_FENCE_CLR : Fld := ⟨0x21104, 0x0, 0, 16, .v 0⟩
def RGN_FENCED : Fld := ⟨0x21108, 0x0, 0, 16, .v 0⟩
def RGN_FAULT_ADDR : Fld := ⟨0x2110c, 0x0, 0, 26, .v 0⟩
def RGN_FAULT_INFO_MASTER : Fld := ⟨0x21110, 0x0, 0, 4, .v 0⟩
def RGN_FAULT_INFO_KIND : Fld := ⟨0x21110, 0x0, 4, 3, .v 0⟩
def RGN_FAULT_INFO_WRITE : Fld := ⟨0x21110, 0x0, 7, 1, .v 0⟩
def RGN_FAULT_CNT (k : Nat) : Fld := ⟨0x21120, 0x4, 0 + 16 * k, 16, .v 0⟩
def RGN_MI_BASE : Fld := ⟨0x21400, 0x4, 0, 14, .v 0⟩
def RGN_MI_LIMIT : Fld := ⟨0x21400, 0x4, 14, 14, .rgnLimit⟩
def RGN_MI_R : Fld := ⟨0x21400, 0x4, 28, 1, .rgnOne⟩
def RGN_MI_W : Fld := ⟨0x21400, 0x4, 29, 1, .rgnOne⟩
def RGN_MI_EN : Fld := ⟨0x21400, 0x4, 30, 1, .rgnEn⟩

-- MRCH, spec/10
def MRCH_CMD_BANK : Fld := ⟨0x22100, 0x0, 0, 6, .v 0⟩
def MRCH_CMD_MODE : Fld := ⟨0x22100, 0x0, 6, 1, .v 0⟩
def MRCH_CMD_FULL : Fld := ⟨0x22100, 0x0, 7, 1, .v 0⟩
def MRCH_CMD_START : Fld := ⟨0x22100, 0x0, 8, 1, .v 0⟩
def MRCH_CMD_ABORT : Fld := ⟨0x22100, 0x0, 9, 1, .v 0⟩
def MRCH_STAT_BUSY : Fld := ⟨0x22104, 0x0, 0, 1, .v 0⟩
def MRCH_STAT_BANK : Fld := ⟨0x22104, 0x0, 1, 6, .v 0⟩
def MRCH_STAT_RESULT : Fld := ⟨0x22104, 0x0, 7, 3, .v 0⟩
def MRCH_STAT_ELEMENT : Fld := ⟨0x22104, 0x0, 10, 3, .v 0⟩
def MRCH_STAT_SEGMENT : Fld := ⟨0x22104, 0x0, 14, 8, .v 0⟩
def MRCH_FAIL_WORD : Fld := ⟨0x22108, 0x0, 0, 17, .v 0⟩
def MRCH_FAIL_BITS_BIT : Fld := ⟨0x2210c, 0x0, 0, 7, .v 0⟩
def MRCH_FAIL_BITS_COUNT : Fld := ⟨0x2210c, 0x0, 8, 7, .v 0⟩
def MRCH_FAIL_BITS_ELEMENT : Fld := ⟨0x2210c, 0x0, 16, 3, .v 0⟩
def MRCH_BOOT_REP : Fld := ⟨0x22110, 0x4, 0, 32, .v 0⟩
def MRCH_BOOT_BAD : Fld := ⟨0x22118, 0x4, 0, 32, .v 0⟩
def MRCH_RUNS : Fld := ⟨0x22120, 0x0, 0, 32, .v 0⟩

-- RPR, spec/10
def RPR_CMD : Fld := ⟨0x23100, 0x0, 0, 1, .v 0⟩
def RPR_STAT_BURNING : Fld := ⟨0x23104, 0x0, 0, 1, .v 0⟩
def RPR_STAT_VFUSE_OK : Fld := ⟨0x23104, 0x0, 1, 1, .v 0⟩
def RPR_STAT_TJ_OK : Fld := ⟨0x23104, 0x0, 2, 1, .v 0⟩
def RPR_STAT_INTERRUPTED : Fld := ⟨0x23104, 0x0, 3, 1, .v 0⟩
def RPR_STAT_BURNED : Fld := ⟨0x23104, 0x0, 8, 8, .v 0⟩
def RPR_SOFT_ADDED : Fld := ⟨0x23108, 0x0, 0, 32, .v 0⟩
def RPR_EXHAUSTED : Fld := ⟨0x2310c, 0x4, 0, 32, .v 0⟩
def RPR_ROW_ROW : Fld := ⟨0x23200, 0x4, 0, 11, .rpr 0 11⟩
def RPR_ROW_VALID : Fld := ⟨0x23200, 0x4, 28, 1, .rpr 28 1⟩
def RPR_ROW_FUSED : Fld := ⟨0x23200, 0x4, 29, 1, .rpr 29 1⟩
def RPR_ROW_SPARE_BAD : Fld := ⟨0x23200, 0x4, 30, 1, .v 0⟩
def RPR_COL_COL : Fld := ⟨0x23200, 0x4, 0, 6, .rpr 0 6⟩
def RPR_COL_SLICE : Fld := ⟨0x23200, 0x4, 6, 7, .rpr 6 7⟩
def RPR_COL_VALID : Fld := ⟨0x23200, 0x4, 28, 1, .rpr 28 1⟩
def RPR_COL_FUSED : Fld := ⟨0x23200, 0x4, 29, 1, .rpr 29 1⟩
def RPR_COL_SPARE_BAD : Fld := ⟨0x23200, 0x4, 30, 1, .v 0⟩

-- LBST, spec/11
def LBST_CFG_EN : Fld := ⟨0x24100, 0x0, 0, 1, .v 1⟩
def LBST_CFG_GAP_MAX : Fld := ⟨0x24100, 0x0, 1, 4, .v 4⟩
def LBST_CFG_LINTEL_HOLD : Fld := ⟨0x24100, 0x0, 5, 1, .v 1⟩
def LBST_CFG_INVALID_N : Fld := ⟨0x24100, 0x0, 8, 8, .v 16⟩
def LBST_CFG_LANE_GAP : Fld := ⟨0x24100, 0x0, 16, 16, .v 0⟩
def LBST_STAT_MODE : Fld := ⟨0x24104, 0x0, 0, 2, .v 1⟩
def LBST_STAT_BOOT_RUN : Fld := ⟨0x24104, 0x0, 2, 1, .v 0⟩
def LBST_STAT_BOOT_PASS : Fld := ⟨0x24104, 0x0, 3, 1, .v 0⟩
def LBST_STAT_FAIL_ANY : Fld := ⟨0x24104, 0x0, 4, 1, .v 0⟩
def LBST_MON_VDD_MV : Fld := ⟨0x24108, 0x0, 0, 10, .v 0⟩
def LBST_MON_FREQ_ERR : Fld := ⟨0x24108, 0x0, 16, 16, .v 0⟩
def LBST_CMD_DOMAIN : Fld := ⟨0x2410c, 0x0, 0, 6, .v 0⟩
def LBST_CMD_RETEST : Fld := ⟨0x2410c, 0x0, 6, 1, .v 0⟩
def LBST_CMD_RELEASE : Fld := ⟨0x2410c, 0x0, 7, 1, .v 0⟩
def LBST_INVALID : Fld := ⟨0x24110, 0x0, 0, 32, .v 0⟩
def LBST_FAILS : Fld := ⟨0x24114, 0x0, 0, 32, .v 0⟩
def LBST_PASSES : Fld := ⟨0x24118, 0x0, 0, 32, .v 0⟩
def LBST_LAST_DOMAIN : Fld := ⟨0x2411c, 0x0, 0, 6, .v 0⟩
def LBST_LAST_RESULT : Fld := ⟨0x2411c, 0x0, 6, 2, .v 0⟩
def LBST_LAST_COURSE : Fld := ⟨0x2411c, 0x0, 16, 16, .v 0⟩
def LBST_D_CFG_EN : Fld := ⟨0x24200, 0x10, 0, 1, .v 1⟩
def LBST_D_CFG_PERIOD : Fld := ⟨0x24200, 0x10, 16, 16, .v 0⟩
def LBST_D_STAT_STATE : Fld := ⟨0x24204, 0x10, 0, 3, .v 0⟩
def LBST_D_STAT_HELD : Fld := ⟨0x24204, 0x10, 3, 1, .v 0⟩
def LBST_D_STAT_IN_SLICE : Fld := ⟨0x24204, 0x10, 4, 1, .v 0⟩
def LBST_D_STAT_SLICE : Fld := ⟨0x24204, 0x10, 8, 14, .v 0⟩
def LBST_D_CKPT_FAIL_AT : Fld := ⟨0x24208, 0x10, 0, 8, .v 0⟩
def LBST_D_CKPT_INV_RUN : Fld := ⟨0x24208, 0x10, 8, 8, .v 0⟩
def LBST_D_RUNS_PASS : Fld := ⟨0x2420c, 0x10, 0, 16, .v 0⟩
def LBST_D_RUNS_FAIL : Fld := ⟨0x2420c, 0x10, 16, 16, .v 0⟩

-- LDC, spec/12
def LDC_STAT : Fld := ⟨0x28100, 0x0, 0, 1, .v 1⟩
def LDC_CMD_MISS : Fld := ⟨0x28104, 0x0, 0, 32, .v 0⟩
def LDC_CMD_BAD : Fld := ⟨0x28108, 0x0, 0, 32, .v 0⟩
def LDC_CMD_TO : Fld := ⟨0x2810c, 0x0, 0, 32, .v 0⟩
def LDC_CHG_LO : Fld := ⟨0x28110, 0x0, 0, 32, .v 0⟩
def LDC_CHG_HI : Fld := ⟨0x28114, 0x0, 0, 16, .v 0⟩
def LDC_COURSE : Fld := ⟨0x28118, 0x0, 0, 32, .v 0⟩

-- LDS, spec/12
def LDS_CFG_KIND : Fld := ⟨0x29200, 0x80, 0, 2, .v 0⟩
def LDS_CFG_STRINGS : Fld := ⟨0x29200, 0x80, 2, 4, .v 0⟩
def LDS_CFG_SRC : Fld := ⟨0x29200, 0x80, 6, 1, .v 0⟩
def LDS_CFG_SAFE : Fld := ⟨0x29200, 0x80, 7, 1, .v 0⟩
def LDS_CFG_POL : Fld := ⟨0x29200, 0x80, 8, 1, .v 0⟩
def LDS_CFG_PROOF_EN : Fld := ⟨0x29200, 0x80, 9, 1, .v 0⟩
def LDS_CFG_SHORT_OFF : Fld := ⟨0x29200, 0x80, 10, 1, .v 0⟩
def LDS_CFG_FAULT_N : Fld := ⟨0x29200, 0x80, 11, 4, .v 3⟩
def LDS_CFG_TO_ACT : Fld := ⟨0x29200, 0x80, 16, 2, .v 0⟩
def LDS_CFG_CMD_TO : Fld := ⟨0x29200, 0x80, 24, 8, .v 0⟩
def LDS_SRC_SLOT : Fld := ⟨0x29204, 0x80, 0, 10, .v 16⟩
def LDS_SRC_WORD : Fld := ⟨0x29204, 0x80, 16, 10, .v 0⟩
def LDS_CMD_MODE : Fld := ⟨0x29208, 0x80, 0, 2, .v 0⟩
def LDS_CMD_DUTY : Fld := ⟨0x29208, 0x80, 2, 10, .v 0⟩
def LDS_CMD_RESET : Fld := ⟨0x29208, 0x80, 12, 1, .v 0⟩
def LDS_CMD_PROOF : Fld := ⟨0x29208, 0x80, 13, 1, .v 0⟩
def LDS_PWM_PWM_US : Fld := ⟨0x2920c, 0x80, 0, 14, .v 2500⟩
def LDS_PWM_BLANK_US : Fld := ⟨0x2920c, 0x80, 16, 8, .v 10⟩
def LDS_FLASH_PERIOD_MS : Fld := ⟨0x29210, 0x80, 0, 12, .v 1000⟩
def LDS_FLASH_ON_PCT : Fld := ⟨0x29210, 0x80, 12, 7, .v 50⟩
def LDS_PROOF_T_US : Fld := ⟨0x29214, 0x80, 0, 9, .v 100⟩
def LDS_PROOF_PER_MS : Fld := ⟨0x29214, 0x80, 12, 13, .v 500⟩
def LDS_TIME_PROOF_AGE : Fld := ⟨0x29218, 0x80, 0, 16, .v 2500⟩
def LDS_TIME_SETTLE_MS : Fld := ⟨0x29218, 0x80, 16, 16, .v 200⟩
def LDS_CYCLE_CYC_S : Fld := ⟨0x2921c, 0x80, 0, 12, .v 60⟩
def LDS_CYCLE_DWELL_S : Fld := ⟨0x2921c, 0x80, 12, 10, .v 10⟩
def LDS_RETRY_RETRY_MS : Fld := ⟨0x29220, 0x80, 0, 16, .v 1000⟩
def LDS_RETRY_RETRY_N : Fld := ⟨0x29220, 0x80, 16, 4, .v 3⟩
def LDS_RETRY_CLR_S : Fld := ⟨0x29220, 0x80, 20, 12, .v 60⟩
def LDS_WIN_TRIP_MS : Fld := ⟨0x29224, 0x80, 0, 14, .v 100⟩
def LDS_WIN_CYCLES : Fld := ⟨0x29224, 0x80, 16, 6, .v 10⟩
def LDS_I_OPEN : Fld := ⟨0x29228, 0x80, 0, 31, .v 0⟩
def LDS_I_OVER : Fld := ⟨0x2922c, 0x80, 0, 31, .v 0x7FFFFFFF⟩
def LDS_I_SHORT : Fld := ⟨0x29230, 0x80, 0, 31, .v 0x7FFFFFFF⟩
def LDS_V_LIM_V_MIN : Fld := ⟨0x29234, 0x80, 0, 16, .v 0⟩
def LDS_V_LIM_V_MAX : Fld := ⟨0x29234, 0x80, 16, 16, .v 0xFFFF⟩
def LDS_NOM : Fld := ⟨0x29238, 0x80, 0, 31, .v 0⟩
def LDS_UNDER : Fld := ⟨0x2923c, 0x80, 0, 7, .v 20⟩
def LDS_STAT_STATUS : Fld := ⟨0x29240, 0x80, 0, 4, .v 15⟩
def LDS_STAT_PENDING : Fld := ⟨0x29240, 0x80, 4, 4, .v 0⟩
def LDS_STAT_COUNT : Fld := ⟨0x29240, 0x80, 8, 4, .v 0⟩
def LDS_STAT_STRINGS_FAILED : Fld := ⟨0x29240, 0x80, 12, 4, .v 0⟩
def LDS_STAT_GATE : Fld := ⟨0x29240, 0x80, 16, 1, .v 0⟩
def LDS_STAT_SAFE_HELD : Fld := ⟨0x29240, 0x80, 17, 1, .v 0⟩
def LDS_STAT_LEARNING : Fld := ⟨0x29240, 0x80, 18, 1, .v 0⟩
def LDS_STAT_LEARN_FAIL : Fld := ⟨0x29240, 0x80, 19, 1, .v 0⟩
def LDS_STAT_DEFERRED : Fld := ⟨0x29240, 0x80, 20, 1, .v 0⟩
def LDS_STAT_OVERRANGE : Fld := ⟨0x29240, 0x80, 21, 1, .v 0⟩
def LDS_STAT_NO_MAINS : Fld := ⟨0x29240, 0x80, 22, 1, .v 0⟩
def LDS_STAT_TIMEOUT : Fld := ⟨0x29240, 0x80, 23, 1, .v 0⟩
def LDS_STAT_RETRIES : Fld := ⟨0x29240, 0x80, 24, 4, .v 0⟩
def LDS_FAULT : Fld := ⟨0x29244, 0x80, 0, 16, .v 0⟩
def LDS_I_LAST : Fld := ⟨0x29248, 0x80, 0, 32, .v 0⟩
def LDS_V_LAST : Fld := ⟨0x2924c, 0x80, 0, 32, .v 0⟩
def LDS_P_LAST : Fld := ⟨0x29250, 0x80, 0, 32, .v 0⟩
def LDS_CMD_NOW_CMD : Fld := ⟨0x29254, 0x80, 0, 16, .v 0⟩
def LDS_CMD_NOW_FROM : Fld := ⟨0x29254, 0x80, 16, 2, .v 0⟩
def LDS_CTRL_LEARN : Fld := ⟨0x29258, 0x80, 0, 1, .v 0⟩
def LDS_CTRL_CLR_LOCK : Fld := ⟨0x29258, 0x80, 1, 1, .v 0⟩
def LDS_EVENTS_COUNT : Fld := ⟨0x2925c, 0x80, 0, 16, .v 0⟩
def LDS_EVENTS_PROOFS : Fld := ⟨0x2925c, 0x80, 16, 16, .v 0⟩

-- ADC, spec/12
def ADC_RATE (k : Nat) : Fld := ⟨0x2d100, 0x4, 0 + 4 * k, 4, .v 0⟩
def ADC_CMD_PAIR : Fld := ⟨0x2d118, 0x0, 0, 6, .v 0⟩
def ADC_CMD_AUTOZERO : Fld := ⟨0x2d118, 0x0, 8, 1, .v 0⟩
def ADC_OVR : Fld := ⟨0x2d11c, 0x0, 0, 32, .v 0⟩
def ADC_SCALE : Fld := ⟨0x2d200, 0x8, 0, 32, .v 0⟩
def ADC_IN_OFS : Fld := ⟨0x2d204, 0x8, 0, 16, .v 0⟩
def ADC_IN_LAST : Fld := ⟨0x2d204, 0x8, 16, 16, .v 0⟩

-- MTR, spec/13
def MTR_CFG_PERIOD : Fld := ⟨0x30100, 0x0, 0, 3, .v 3⟩
def MTR_CFG_EN : Fld := ⟨0x30100, 0x0, 3, 1, .v 1⟩
def MTR_STAT_PERIOD : Fld := ⟨0x30104, 0x0, 0, 3, .v 3⟩
def MTR_STAT_CHANGE_PENDING : Fld := ⟨0x30104, 0x0, 3, 1, .v 0⟩
def MTR_STAT_RUNNING : Fld := ⟨0x30104, 0x0, 4, 1, .v 0⟩
def MTR_EN_LO : Fld := ⟨0x30108, 0x0, 0, 32, .v 0⟩
def MTR_EN_HI : Fld := ⟨0x3010c, 0x0, 0, 16, .v 0⟩
def MTR_NOM_LO : Fld := ⟨0x30110, 0x0, 0, 32, .v 0⟩
def MTR_NOM_HI : Fld := ⟨0x30114, 0x0, 0, 8, .v 0⟩
def MTR_ACT_LO : Fld := ⟨0x30118, 0x0, 0, 32, .v 0⟩
def MTR_ACT_HI : Fld := ⟨0x3011c, 0x0, 0, 23, .v 0⟩
def MTR_FLAGS : Fld := ⟨0x30120, 0x0, 0, 16, .v 0⟩
def MTR_FLOOR : Fld := ⟨0x30124, 0x0, 0, 32, .v 0⟩
def MTR_EDGES : Fld := ⟨0x30128, 0x0, 0, 32, .v 0⟩
def MTR_CNT_LO : Fld := ⟨0x30200, 0x20, 0, 32, .v 0⟩
def MTR_CNT_HI : Fld := ⟨0x30204, 0x20, 0, 32, .v 0⟩
def MTR_PER_LO : Fld := ⟨0x30208, 0x20, 0, 32, .v 0⟩
def MTR_PER_HI : Fld := ⟨0x3020c, 0x20, 0, 32, .v 0⟩
def MTR_COV : Fld := ⟨0x30210, 0x20, 0, 32, .v 0⟩
def MTR_CH_FLAGS : Fld := ⟨0x30214, 0x20, 0, 16, .v 0⟩

-- TALY, spec/13
def TALY_Q_BASE : Fld := ⟨0x31100, 0x0, 6, 20, .v 0xFC000⟩
def TALY_Q_SIZE : Fld := ⟨0x31104, 0x0, 0, 13, .v 1024⟩
def TALY_WR_IDX : Fld := ⟨0x31108, 0x0, 0, 32, .v 0⟩
def TALY_VLT_IDX : Fld := ⟨0x3110c, 0x0, 0, 32, .v 0⟩
def TALY_ACK : Fld := ⟨0x31110, 0x0, 0, 32, .v 0⟩
def TALY_Q_OLD : Fld := ⟨0x31114, 0x0, 0, 32, .v 0⟩
def TALY_SEQ : Fld := ⟨0x31118, 0x0, 0, 32, .v 0⟩
def TALY_STAT_VAULT_RO : Fld := ⟨0x3111c, 0x0, 0, 1, .v 0⟩
def TALY_STAT_VAULT_FULL : Fld := ⟨0x3111c, 0x0, 1, 1, .v 0⟩
def TALY_STAT_Q_FULL : Fld := ⟨0x3111c, 0x0, 2, 1, .v 0⟩
def TALY_STAT_SAVING : Fld := ⟨0x3111c, 0x0, 3, 1, .v 0⟩
def TALY_STAT_SNAP_SRC : Fld := ⟨0x3111c, 0x0, 4, 2, .v 0⟩
def TALY_HELD : Fld := ⟨0x31120, 0x0, 0, 32, .v 0⟩
def TALY_MERGED : Fld := ⟨0x31124, 0x0, 0, 32, .v 0⟩
def TALY_SAVES : Fld := ⟨0x31128, 0x0, 0, 32, .v 0⟩
def TALY_SAVE_US : Fld := ⟨0x3112c, 0x0, 0, 12, .v 0⟩

-- RTC, spec/14
def RTC_NOW_SUB : Fld := ⟨0x32100, 0x0, 0, 15, .v 0⟩
def RTC_NOW_SEC_LO : Fld := ⟨0x32104, 0x0, 0, 32, .v 0⟩
def RTC_NOW_SEC_HI : Fld := ⟨0x32108, 0x0, 0, 8, .v 0⟩
def RTC_CAL_DATE_YEAR_OFS : Fld := ⟨0x3210c, 0x0, 0, 8, .v 0⟩
def RTC_CAL_DATE_MONTH : Fld := ⟨0x3210c, 0x0, 8, 4, .v 0⟩
def RTC_CAL_DATE_DAY : Fld := ⟨0x3210c, 0x0, 16, 5, .v 0⟩
def RTC_CAL_DATE_WEEKDAY : Fld := ⟨0x3210c, 0x0, 24, 3, .v 0⟩
def RTC_CAL_TIME_SEC : Fld := ⟨0x32110, 0x0, 0, 6, .v 0⟩
def RTC_CAL_TIME_MIN : Fld := ⟨0x32110, 0x0, 8, 6, .v 0⟩
def RTC_CAL_TIME_HOUR : Fld := ⟨0x32110, 0x0, 16, 5, .v 0⟩
def RTC_STAT_TIME_VALID : Fld := ⟨0x32114, 0x0, 0, 1, .v 0⟩
def RTC_STAT_TIME_LOST : Fld := ⟨0x32114, 0x0, 1, 1, .v 0⟩
def RTC_STAT_CAL_END : Fld := ⟨0x32114, 0x0, 2, 1, .v 0⟩
def RTC_STAT_STG_CLAMPED : Fld := ⟨0x32114, 0x0, 3, 1, .v 0⟩
def RTC_STAT_PENDING : Fld := ⟨0x32114, 0x0, 4, 1, .v 0⟩
def RTC_STAT_REFUSED : Fld := ⟨0x32114, 0x0, 5, 1, .v 0⟩
def RTC_STAT_ALARM_FIRED : Fld := ⟨0x32114, 0x0, 6, 1, .v 0⟩
def RTC_STAT_FORCED : Fld := ⟨0x32114, 0x0, 7, 1, .v 0⟩
def RTC_STAT_SEC_END : Fld := ⟨0x32114, 0x0, 8, 1, .v 0⟩
def RTC_STG_DATE_YEAR_OFS : Fld := ⟨0x32118, 0x0, 0, 8, .v 0⟩
def RTC_STG_DATE_MONTH : Fld := ⟨0x32118, 0x0, 8, 4, .v 1⟩
def RTC_STG_DATE_DAY : Fld := ⟨0x32118, 0x0, 16, 5, .v 1⟩
def RTC_STG_TIME_SEC : Fld := ⟨0x3211c, 0x0, 0, 6, .v 0⟩
def RTC_STG_TIME_MIN : Fld := ⟨0x3211c, 0x0, 8, 6, .v 0⟩
def RTC_STG_TIME_HOUR : Fld := ⟨0x3211c, 0x0, 16, 5, .v 0⟩
def RTC_STG_SUB : Fld := ⟨0x32120, 0x0, 0, 15, .v 0⟩
def RTC_STG_SEC_LO : Fld := ⟨0x32124, 0x0, 0, 32, .v 0⟩
def RTC_STG_SEC_HI : Fld := ⟨0x32128, 0x0, 0, 8, .v 0⟩
def RTC_SET_FORCE : Fld := ⟨0x3212c, 0x0, 0, 1, .v 0⟩
def RTC_SET_FORM : Fld := ⟨0x3212c, 0x0, 1, 1, .v 0⟩
def RTC_SET_AT_COURSE : Fld := ⟨0x3212c, 0x0, 2, 1, .v 0⟩
def RTC_SET_DISCARD : Fld := ⟨0x3212c, 0x0, 3, 1, .v 0⟩
def RTC_SET_CAPTURE : Fld := ⟨0x3212c, 0x0, 4, 1, .v 0⟩
def RTC_SET_COMMIT : Fld := ⟨0x3212c, 0x0, 5, 1, .v 0⟩
def RTC_SET_COURSE : Fld := ⟨0x32130, 0x0, 0, 32, .v 0⟩
def RTC_ALARM_LO : Fld := ⟨0x32134, 0x0, 0, 32, .v 0⟩
def RTC_ALARM_HI_SEC : Fld := ⟨0x32138, 0x0, 0, 8, .v 0⟩
def RTC_ALARM_HI_ARMED : Fld := ⟨0x32138, 0x0, 8, 1, .v 0⟩
def RTC_CAL : Fld := ⟨0x3213c, 0x0, 0, 8, .v 0⟩
def RTC_LAST_OLD_LO : Fld := ⟨0x32140, 0x0, 0, 32, .v 0⟩
def RTC_LAST_OLD_HI : Fld := ⟨0x32144, 0x0, 0, 8, .v 0⟩
def RTC_SETS : Fld := ⟨0x32148, 0x0, 0, 32, .v 0⟩

-- BKP, spec/14
def BKP_CFG_WARN : Fld := ⟨0x33100, 0x0, 0, 4, .v 3⟩
def BKP_CFG_MEAS_EN : Fld := ⟨0x33100, 0x0, 4, 1, .v 1⟩
def BKP_STAT_MAIN_VALID : Fld := ⟨0x33104, 0x0, 0, 1, .v 1⟩
def BKP_STAT_VBAT_LOW : Fld := ⟨0x33104, 0x0, 1, 1, .v 0⟩
def BKP_STAT_VBAT_ABSENT : Fld := ⟨0x33104, 0x0, 2, 1, .v 0⟩
def BKP_STAT_INTACT : Fld := ⟨0x33104, 0x0, 3, 1, .v 0⟩
def BKP_STAT_CAUSE_CANARY : Fld := ⟨0x33104, 0x0, 4, 1, .v 0⟩
def BKP_STAT_CAUSE_BROWN : Fld := ⟨0x33104, 0x0, 5, 1, .v 0⟩
def BKP_STAT_CAUSE_OSC : Fld := ⟨0x33104, 0x0, 6, 1, .v 0⟩
def BKP_VBAT : Fld := ⟨0x33108, 0x0, 0, 12, .v 0⟩
def BKP_VAO : Fld := ⟨0x3310c, 0x0, 0, 12, .v 0⟩
def BKP_MAIN_LOSS : Fld := ⟨0x33110, 0x0, 0, 32, .v 0⟩
def BKP_LOSS_AT_LO : Fld := ⟨0x33114, 0x0, 0, 32, .v 0⟩
def BKP_LOSS_AT_HI : Fld := ⟨0x33118, 0x0, 0, 8, .v 0⟩
def BKP_CANARY : Fld := ⟨0x3311c, 0x0, 0, 32, .v 0x5AC396E1⟩

-- MARK, spec/15
def MARK_CFG_FIRST_SIZE : Fld := ⟨0x34100, 0x0, 0, 4, .v 4⟩
def MARK_CFG_MIRROR_EN : Fld := ⟨0x34100, 0x0, 4, 1, .v 1⟩
def MARK_CFG_RATE : Fld := ⟨0x34100, 0x0, 8, 8, .v 16⟩
def MARK_STAT_FIRST_FULL : Fld := ⟨0x34104, 0x0, 0, 1, .v 0⟩
def MARK_STAT_QUARRY_DOWN : Fld := ⟨0x34104, 0x0, 1, 1, .v 0⟩
def MARK_STAT_FIRST_ONLY : Fld := ⟨0x34104, 0x0, 2, 1, .v 0⟩
def MARK_STAT_SEQ_END : Fld := ⟨0x34104, 0x0, 3, 1, .v 0⟩
def MARK_STAT_CFG_PENDING : Fld := ⟨0x34104, 0x0, 4, 1, .v 0⟩
def MARK_STAT_GEN : Fld := ⟨0x34104, 0x0, 16, 16, .v 1⟩
def MARK_NEXT_SEQ : Fld := ⟨0x34108, 0x0, 0, 32, .v 1⟩
def MARK_FIRST_HEAD : Fld := ⟨0x3410c, 0x0, 0, 32, .v 0⟩
def MARK_RECENT_HEAD : Fld := ⟨0x34110, 0x0, 0, 32, .v 0⟩
def MARK_RECENT_TAIL : Fld := ⟨0x34114, 0x0, 0, 32, .v 0⟩
def MARK_CLEAR_KEY : Fld := ⟨0x34118, 0x0, 0, 16, .v 0⟩
def MARK_CLEAR_PART : Fld := ⟨0x34118, 0x0, 16, 2, .v 3⟩
def MARK_DROPPED : Fld := ⟨0x3411c, 0x0, 0, 32, .v 0⟩
def MARK_SUPPRESSED : Fld := ⟨0x34120, 0x0, 0, 32, .v 0⟩
def MARK_MIRROR_LOST : Fld := ⟨0x34124, 0x0, 0, 32, .v 0⟩
def MARK_VLT_HEAD : Fld := ⟨0x34128, 0x0, 0, 32, .v 0⟩
def MARK_WRAPS : Fld := ⟨0x3412c, 0x0, 0, 32, .v 0⟩
def MARK_HOST_CMD_TYPE : Fld := ⟨0x34130, 0x0, 0, 12, .v 0x800⟩
def MARK_HOST_CMD_LEN : Fld := ⟨0x34130, 0x0, 16, 5, .v 0⟩
def MARK_HOST_D : Fld := ⟨0x34140, 0x4, 0, 32, .v 0⟩

-- VLT, spec/16
def VLT_STAT_BUSY : Fld := ⟨0x35100, 0x0, 0, 1, .v 0⟩
def VLT_STAT_OP : Fld := ⟨0x35100, 0x0, 1, 3, .v 0⟩
def VLT_STAT_WEAR_WARN : Fld := ⟨0x35100, 0x0, 4, 1, .v 0⟩
def VLT_STAT_EXHAUSTED : Fld := ⟨0x35100, 0x0, 5, 1, .v 0⟩
def VLT_STAT_MAP_LOST : Fld := ⟨0x35100, 0x0, 6, 1, .v 0⟩
def VLT_STAT_HOST_BUSY : Fld := ⟨0x35100, 0x0, 7, 1, .v 0⟩
def VLT_STAT_SPARES_LEFT : Fld := ⟨0x35100, 0x0, 16, 9, .v 256⟩
def VLT_CMD_OP : Fld := ⟨0x35104, 0x0, 0, 2, .v 0⟩
def VLT_CMD_START : Fld := ⟨0x35104, 0x0, 2, 1, .v 0⟩
def VLT_CMD_ABORT : Fld := ⟨0x35104, 0x0, 3, 1, .v 0⟩
def VLT_ADDR : Fld := ⟨0x35108, 0x0, 3, 20, .v 0⟩
def VLT_SRC : Fld := ⟨0x3510c, 0x0, 3, 23, .v 0⟩
def VLT_LEN : Fld := ⟨0x35110, 0x0, 0, 13, .v 8⟩
def VLT_BOOT_KEY : Fld := ⟨0x35114, 0x0, 0, 16, .v 0⟩
def VLT_RESULT : Fld := ⟨0x35118, 0x0, 0, 4, .v 0⟩
def VLT_BOOT_A_VALID : Fld := ⟨0x3511c, 0x0, 0, 1, .v 0⟩
def VLT_BOOT_B_VALID : Fld := ⟨0x3511c, 0x0, 1, 1, .v 0⟩
def VLT_BOOT_A_VER : Fld := ⟨0x3511c, 0x0, 16, 16, .v 0⟩
def VLT_PROG_SLOW : Fld := ⟨0x35120, 0x0, 0, 32, .v 0⟩
def VLT_RETIRED : Fld := ⟨0x35124, 0x0, 0, 32, .v 0⟩
def VLT_RD_CE : Fld := ⟨0x35128, 0x0, 0, 32, .v 0⟩
def VLT_RD_UE : Fld := ⟨0x3512c, 0x0, 0, 32, .v 0⟩
def VLT_HOT_ERASE : Fld := ⟨0x35130, 0x0, 0, 32, .v 0⟩
def VLT_ERR_ADDR : Fld := ⟨0x35134, 0x0, 3, 20, .v 0⟩
def VLT_MAX_WEAR : Fld := ⟨0x35138, 0x0, 0, 24, .v 0⟩
def VLT_WEAR_SEL : Fld := ⟨0x35140, 0x0, 0, 11, .v 0⟩
def VLT_WEAR_COUNT : Fld := ⟨0x35144, 0x0, 0, 24, .v 0⟩
def VLT_WEAR_STATE : Fld := ⟨0x35144, 0x0, 24, 3, .v 0⟩
def VLT_WEAR_PROG_SLOW : Fld := ⟨0x35144, 0x0, 27, 1, .v 0⟩
def VLT_WEAR_OVER_LIMIT : Fld := ⟨0x35144, 0x0, 28, 1, .v 0⟩
def VLT_WEAR_ERASE_INCOMPLETE : Fld := ⟨0x35144, 0x0, 29, 1, .v 0⟩
def VLT_MAP : Fld := ⟨0x35148, 0x0, 0, 11, .v 0⟩

-- FUSE, spec/16
def FUSE_STAT_LOADED : Fld := ⟨0x37100, 0x0, 0, 1, .v 0⟩
def FUSE_STAT_LOAD_ERR : Fld := ⟨0x37100, 0x0, 1, 5, .v 0⟩
def FUSE_STAT_BURNING : Fld := ⟨0x37100, 0x0, 6, 1, .v 0⟩
def FUSE_STAT_VFUSE_OK : Fld := ⟨0x37100, 0x0, 7, 1, .v 0⟩
def FUSE_STAT_TJ_OK : Fld := ⟨0x37100, 0x0, 8, 1, .v 0⟩
def FUSE_VFUSE : Fld := ⟨0x37104, 0x0, 0, 12, .v 0⟩
def FUSE_TJ : Fld := ⟨0x37108, 0x0, 0, 16, .v 0⟩
def FUSE_LANES : Fld := ⟨0x3710c, 0x0, 0, 9, .fuseLanes⟩
def FUSE_REPAIR : Fld := ⟨0x37110, 0x0, 0, 16, .fuseWords⟩

-- PWR, spec/17
def PWR_CMD_TARGET : Fld := ⟨0x3100, 0x0, 0, 3, .v 0⟩
def PWR_CMD_GO : Fld := ⟨0x3100, 0x0, 8, 1, .v 0⟩
def PWR_STAT_STATE : Fld := ⟨0x3104, 0x0, 0, 3, .v 0⟩
def PWR_STAT_ENTERING : Fld := ⟨0x3104, 0x0, 3, 1, .v 0⟩
def PWR_STAT_WAKING : Fld := ⟨0x3104, 0x0, 4, 1, .v 0⟩
def PWR_STAT_ORIGIN : Fld := ⟨0x3104, 0x0, 5, 2, .v 0⟩
def PWR_STAT_CAUSE : Fld := ⟨0x3104, 0x0, 8, 4, .v 0⟩
def PWR_STAT_DETAIL : Fld := ⟨0x3104, 0x0, 12, 4, .v 0⟩
def PWR_EXIT_US : Fld := ⟨0x3108, 0x0, 0, 16, .v 0⟩
def PWR_ENTRIES : Fld := ⟨0x310c, 0x0, 0, 32, .v 0⟩
def PWR_ABORTS : Fld := ⟨0x3110, 0x0, 0, 32, .v 0⟩
def PWR_WARM_STARTS : Fld := ⟨0x3114, 0x0, 0, 32, .v 0⟩
def PWR_IMAGE_SAVED : Fld := ⟨0x3118, 0x0, 0, 1, .v 0⟩
def PWR_IMAGE_RESTORED : Fld := ⟨0x3118, 0x0, 1, 1, .v 0⟩

-- WAKE, spec/17
def WAKE_CFG_NET_STATE : Fld := ⟨0x4100, 0x0, 0, 3, .v 4⟩
def WAKE_CFG_WAKING_MS : Fld := ⟨0x4100, 0x0, 4, 8, .v 100⟩
def WAKE_CFG_WAKE_CONFIRM : Fld := ⟨0x4100, 0x0, 16, 16, .v 200⟩
def WAKE_BACKOFF_FALSE_MAX : Fld := ⟨0x4104, 0x0, 0, 8, .v 10⟩
def WAKE_BACKOFF_BACKOFF_S : Fld := ⟨0x4104, 0x0, 8, 16, .v 900⟩
def WAKE_SW_CFG_MODE (k : Nat) : Fld := ⟨0x4108, 0x0, 0 + 2 * k, 2, .v 0⟩
def WAKE_LINE_EN : Fld := ⟨0x410c, 0x0, 0, 8, .v 0xFF⟩
def WAKE_VOTE : Fld := ⟨0x4110, 0x0, 0, 1, .v 0⟩
def WAKE_STAT_BACKOFF : Fld := ⟨0x4114, 0x0, 0, 1, .v 0⟩
def WAKE_STAT_ANNOUNCED : Fld := ⟨0x4114, 0x0, 1, 1, .v 0⟩
def WAKE_STAT_VOTING_SLEEP : Fld := ⟨0x4114, 0x0, 2, 1, .v 0⟩
def WAKE_STAT_UNANIMOUS : Fld := ⟨0x4114, 0x0, 8, 4, .v 0⟩
def WAKE_STAT_SW_LEVEL : Fld := ⟨0x4114, 0x0, 16, 4, .v 0⟩
def WAKE_STOP : Fld := ⟨0x4118, 0x0, 0, 32, .v 0⟩
def WAKE_FALSE_COUNT : Fld := ⟨0x411c, 0x0, 0, 16, .v 0⟩
def WAKE_FALSE_IN_WINDOW : Fld := ⟨0x411c, 0x0, 16, 16, .v 0⟩
def WAKE_IGNORED : Fld := ⟨0x4120, 0x0, 0, 32, .v 0⟩
def WAKE_BACKOFF_LEFT : Fld := ⟨0x4124, 0x0, 0, 32, .v 0⟩
def WAKE_WITHDRAWN : Fld := ⟨0x4128, 0x0, 0, 32, .v 0⟩
def WAKE_LATE : Fld := ⟨0x412c, 0x0, 0, 32, .v 0⟩
def WAKE_P_DETECT : Fld := ⟨0x4200, 0x10, 0, 32, .v 0⟩
def WAKE_P_FAILSAFE_ACK_TO : Fld := ⟨0x4204, 0x10, 0, 16, .v 0⟩
def WAKE_P_FAILSAFE_TX_TO : Fld := ⟨0x4204, 0x10, 16, 16, .v 0⟩

-- HOST, spec/18
def HOST_IF_PCIE : Fld := ⟨0x5100, 0x0, 0, 1, .hostIf true⟩
def HOST_IF_LB : Fld := ⟨0x5100, 0x0, 1, 1, .hostIf false⟩
def HOST_IF_SPI : Fld := ⟨0x5100, 0x0, 2, 1, .v 1⟩
def HOST_STAT_LINK_UP : Fld := ⟨0x5104, 0x0, 0, 1, .v 0⟩
def HOST_STAT_SPEED : Fld := ⟨0x5104, 0x0, 1, 2, .v 0⟩
def HOST_STAT_WIDTH : Fld := ⟨0x5104, 0x0, 3, 2, .v 0⟩
def HOST_STAT_BME : Fld := ⟨0x5104, 0x0, 5, 1, .v 0⟩
def HOST_STAT_PCIE_RESET : Fld := ⟨0x5104, 0x0, 6, 1, .v 0⟩
def HOST_STAT_D3HOT : Fld := ⟨0x5104, 0x0, 7, 1, .v 0⟩
def HOST_BOOT_FAIL : Fld := ⟨0x5108, 0x0, 0, 2, .v 0⟩
def HOST_BOOT_WARM : Fld := ⟨0x5108, 0x0, 2, 1, .v 0⟩
def HOST_BOOT_START_MS : Fld := ⟨0x5108, 0x0, 16, 16, .v 0⟩
def HOST_BM_BASE_LO : Fld := ⟨0x510c, 0x0, 12, 20, .v 0⟩
def HOST_BM_BASE_HI : Fld := ⟨0x5110, 0x0, 0, 16, .v 0⟩
def HOST_BM_LIM_LO : Fld := ⟨0x5114, 0x0, 12, 20, .v 0⟩
def HOST_BM_LIM_HI_ADDR : Fld := ⟨0x5118, 0x0, 0, 16, .v 0⟩
def HOST_BM_LIM_HI_EN : Fld := ⟨0x5118, 0x0, 31, 1, .v 0⟩
def HOST_CPL_TO : Fld := ⟨0x511c, 0x0, 0, 8, .v 50⟩
def HOST_LB_QWIN : Fld := ⟨0x5120, 0x0, 0, 7, .v 0⟩
def HOST_LB_VWIN : Fld := ⟨0x5124, 0x0, 0, 4, .v 0⟩
def HOST_WDOG_CFG_TIMEOUT_MS : Fld := ⟨0x5128, 0x0, 0, 16, .v 1000⟩
def HOST_WDOG_CFG_EN : Fld := ⟨0x5128, 0x0, 16, 1, .v 0⟩
def HOST_WDOG_CFG_RESET_EN : Fld := ⟨0x5128, 0x0, 17, 1, .v 0⟩
def HOST_WDOG_KICK : Fld := ⟨0x512c, 0x0, 0, 16, .v 0⟩
def WDOG_STAT_FIRST : Fld := ⟨0x5130, 0x0, 0, 1, .v 0⟩
def WDOG_STAT_COUNT : Fld := ⟨0x5130, 0x0, 16, 16, .v 0⟩
def HOST_PCIE_ID : Fld := ⟨0x5134, 0x0, 0, 32, .v 0x81401F4C⟩
def HOST_PCIE_ERR : Fld := ⟨0x5140, 0x0, 0, 32, .v 0⟩
def HOST_LB_ERR : Fld := ⟨0x5144, 0x0, 0, 32, .v 0⟩
def HOST_SPI_ERR : Fld := ⟨0x5148, 0x0, 0, 32, .v 0⟩
def HOST_WIN_WR : Fld := ⟨0x514c, 0x0, 0, 32, .v 0⟩
def HOST_BM_DENY : Fld := ⟨0x5150, 0x0, 0, 32, .v 0⟩
def DMA_SRC_LO : Fld := ⟨0x5200, 0x20, 3, 29, .v 0⟩
def DMA_DST_LO : Fld := ⟨0x5208, 0x20, 3, 29, .v 0⟩
def DMA_SRC_HI_ADDR : Fld := ⟨0x5204, 0x20, 0, 16, .v 0⟩
def DMA_SRC_HI_SPACE : Fld := ⟨0x5204, 0x20, 16, 1, .v 0⟩
def DMA_DST_HI_ADDR : Fld := ⟨0x520c, 0x20, 0, 16, .v 0⟩
def DMA_DST_HI_SPACE : Fld := ⟨0x520c, 0x20, 16, 1, .v 0⟩
def DMA_LEN : Fld := ⟨0x5210, 0x20, 3, 22, .v 1⟩
def DMA_CTRL_START : Fld := ⟨0x5214, 0x20, 0, 1, .v 0⟩
def DMA_CTRL_ABORT : Fld := ⟨0x5214, 0x20, 1, 1, .v 0⟩
def DMA_CTRL_IRQ : Fld := ⟨0x5214, 0x20, 2, 1, .v 1⟩
def DMA_STAT_BUSY : Fld := ⟨0x5218, 0x20, 0, 1, .v 0⟩
def DMA_STAT_CODE : Fld := ⟨0x5218, 0x20, 1, 3, .v 0⟩
def DMA_DONE_LEN : Fld := ⟨0x521c, 0x20, 0, 32, .v 0⟩

-- IRQ, spec/18
def IRQ_PAGE_LO : Fld := ⟨0x6100, 0x0, 0, 32, .v 0⟩
def IRQ_PAGE_HI : Fld := ⟨0x6104, 0x0, 0, 32, .v 0⟩
def IRQ_URG_RAW : Fld := ⟨0x6108, 0x0, 0, 8, .v 0⟩
def IRQ_URG_EN : Fld := ⟨0x610c, 0x0, 0, 8, .v 0xFF⟩
def IRQ_VEC_PEND : Fld := ⟨0x6110, 0x0, 0, 32, .v 0⟩
def IRQ_VEC_EN : Fld := ⟨0x6114, 0x0, 0, 32, .v 0⟩
def IRQ_EOI : Fld := ⟨0x6118, 0x0, 0, 32, .v 0⟩
def IRQ_PIN_EN_N0 : Fld := ⟨0x611c, 0x0, 0, 1, .v 0⟩
def IRQ_PIN_EN_N1 : Fld := ⟨0x611c, 0x0, 1, 1, .v 0⟩
def IRQ_MAP_VEC (k : Nat) : Fld := ⟨0x6140, 0x4, 0 + 8 * k, 5, .irqMap k⟩
def PBA : Fld := ⟨0x6c00, 0x0, 0, 32, .v 0⟩

-- DUMP, spec/20
def DUMP_GO : Fld := ⟨0x36100, 0x0, 0, 16, .v 0⟩
def DUMP_CFG_DUMP_AUTO : Fld := ⟨0x36104, 0x0, 0, 1, .v 0⟩
def DUMP_CFG_VLT_EN : Fld := ⟨0x36104, 0x0, 1, 1, .v 1⟩
def DUMP_CFG_CTX_EN : Fld := ⟨0x36104, 0x0, 2, 1, .v 1⟩
def DUMP_STAT_STATE : Fld := ⟨0x36108, 0x0, 0, 3, .v 0⟩
def DUMP_STAT_VALID : Fld := ⟨0x36108, 0x0, 3, 1, .v 0⟩
def DUMP_STAT_DIRECT : Fld := ⟨0x36108, 0x0, 4, 1, .v 0⟩
def DUMP_STAT_TRUNCATED : Fld := ⟨0x36108, 0x0, 5, 1, .v 0⟩
def DUMP_STAT_FORCED : Fld := ⟨0x36108, 0x0, 6, 1, .v 0⟩
def DUMP_STAT_UE : Fld := ⟨0x36108, 0x0, 7, 1, .v 0⟩
def DUMP_STAT_AUTO : Fld := ⟨0x36108, 0x0, 8, 1, .v 0⟩
def DUMP_STAT_VLT_DONE : Fld := ⟨0x36108, 0x0, 9, 1, .v 0⟩
def DUMP_STAT_VLT_FAIL : Fld := ⟨0x36108, 0x0, 10, 1, .v 0⟩
def DUMP_STAT_SLOT : Fld := ⟨0x36108, 0x0, 11, 3, .v 0⟩
def DUMP_STAT_LEN_KIB : Fld := ⟨0x36108, 0x0, 16, 16, .v 0⟩
def DUMP_LEN : Fld := ⟨0x3610c, 0x0, 0, 18, .v 0⟩
def DUMP_SEQ : Fld := ⟨0x36110, 0x0, 0, 32, .v 0⟩
def DUMP_TIME_US : Fld := ⟨0x36114, 0x0, 0, 16, .v 0⟩
def DUMP_CMD_CLEAR : Fld := ⟨0x36118, 0x0, 0, 1, .v 0⟩
def DUMP_CMD_VLT_CLEAR : Fld := ⟨0x36118, 0x0, 4, 4, .v 0⟩
def DUMP_SLOT : Fld := ⟨0x36120, 0x4, 0, 32, .v 0⟩
def DUMP_COUNT : Fld := ⟨0x36130, 0x0, 0, 32, .v 0⟩

-- CLMP, spec/02
def CLMP_E_OFFSET : Fld := ⟨0x1800, 0x20, 0, 12, .v 0⟩
def CLMP_E_CAUSE : Fld := ⟨0x1800, 0x20, 12, 4, .v 0⟩
def CLMP_E_FIELD : Fld := ⟨0x1800, 0x20, 16, 8, .v 0⟩
def CLMP_E_PAGE : Fld := ⟨0x1800, 0x20, 24, 8, .v 0⟩
def CLMP_E_WR : Fld := ⟨0x1804, 0x20, 0, 32, .v 0⟩
def CLMP_E_APP : Fld := ⟨0x1808, 0x20, 0, 32, .v 0⟩
def CLMP_E_SRC : Fld := ⟨0x180c, 0x20, 0, 4, .v 0⟩
def CLMP_E_SEQ : Fld := ⟨0x1810, 0x20, 0, 32, .v 0⟩
def CLMP_E_RTC_LO : Fld := ⟨0x1814, 0x20, 0, 32, .v 0⟩
def CLMP_E_RTC_HI_SECONDS : Fld := ⟨0x1818, 0x20, 0, 8, .v 0⟩
def CLMP_E_RTC_HI_SUBSEC : Fld := ⟨0x1818, 0x20, 8, 15, .v 0⟩
def CLMP_E_COURSE : Fld := ⟨0x181c, 0x20, 0, 32, .v 0⟩

-- LCAN, spec/08
def LC_MAP_DROP_DROP : Fld := ⟨0x39700, 0x4, 0, 16, .v 0⟩
def LC_MAP_DROP_BAD : Fld := ⟨0x39700, 0x4, 16, 16, .v 0⟩

-- IRQ, spec/18
def MSIX_ADDR_LO : Fld := ⟨0x6800, 0x10, 2, 30, .v 0⟩
def MSIX_ADDR_HI : Fld := ⟨0x6804, 0x10, 0, 32, .v 0⟩
def MSIX_DATA : Fld := ⟨0x6808, 0x10, 0, 32, .v 0⟩
def MSIX_CTRL : Fld := ⟨0x680c, 0x10, 0, 1, .v 1⟩

end F

end Sys2Proof.Machine
end

