-- ==== Sys2Proof/Machine/Table.lean ====
section
/-! DEFINITION. The register tables of the spec as data: for each page its registers, and for each field of a register
its access code (R17) and its legal set with the clamp (the column "Legal → clamp", R52). -/

namespace Sys2Proof.Machine

/-- The access codes of R17; W1C is split into bits and counters or largest values, which R58 clears differently. -/
inductive Acc where
  | rw | ro | wo | rwl
  | w1cBits   -- each 1 written clears its bit
  | w1cCnt    -- any non-zero value written to the field clears the whole field (R58)
  deriving DecidableEq, Repr

/-- The legal sets that depend on another field, on another register or on the node's state. -/
inductive Dep where

  | spkTest | schdAddr | claimSlot | txSlot | key3 | datumOnly | aloneOnly | branchPorts
  | imgBase | imgSize | imgReady | wheelApply | ctxRes | ctxMax | qKept | qTarget
  | qTail | laneFuse | nbtSeg1 | nbtSjw | dbtSeg1 | dbtSjw | canRecover | twinHostTx
  | twinHostLen | twinHostRx | arbFailover | arbSwap | tieEn | grpMode | bankRun | bankNap
  | bankSlumber | bankPin | semBreak | semOp | fenceClr | rgnLimit | rgnEn | mrchMode
  | mrchStart | mrchAbort | rprBurn | rprKept | rprValid | rprSlice | lbRetest | lbRelease
  | lbEn | ldsKind | ldsMode | proofT | proofAge | iOpen | iOver | iShort
  | vMax | learn | clrLock | mtrEn | talyBase | talySize | talyAck | rtcDay
  | rtcCapture | rtcCommit | rtcSetCourse | alarmArmed | vltStart | vltAbort | vltLen | pwrGo
  | hostIf | bmLim | dmaHi | dmaStart | dmaAbort | irqVec | dumpGo | dumpClear
  | dumpIdle | pgEn | pgSrst | irqEn | pgLock
  deriving DecidableEq, Repr

/-- The column "Legal → clamp" of one field. -/
inductive Legal where
  | any                       -- every value of the field
  | range (lo hi : Nat)       -- ordered range, nearest (NEAREST)
  | srange (lo hi : Int)      -- the same over the field's signed value
  | even (hi : Nat)           -- even values up to hi, nearest, a tie to the lower (NEAREST)
  | enum (hi : Nat)           -- codes 0 to hi, others to reset (RESET)
  | enumFrom1 (hi : Nat)      -- codes 1 to hi, others to reset (RESET)
  | key (k : Nat)             -- the key k, others to reset (RESET)
  | wheelCode                 -- a channel code of R185: 0 to 0xC, or 0xF; others to reset (RESET)
  | sampled                   -- the sampled strap value only (R5)
  | spkGen                    -- SPK_CFG.GEN
  | dep (d : Dep)
  deriving DecidableEq, Repr

/-- One field of a register with its access code and its legal set. -/
structure FieldDef where
  fld   : Fld
  acc   : Acc
  legal : Legal
  deriving DecidableEq, Repr

/-- One register, or one array of registers, of a page: offset, stride, count, fields in ascending bit order (R54). -/
structure Row where
  off    : Nat
  stride : Nat
  count  : Nat
  fields : List FieldDef
  deriving DecidableEq, Repr

namespace Tab

/-- The common header of R48. -/
def header : List Row := [
  ⟨0x000, 0, 1, [⟨F.PG_ID_INDEX, .ro, .any⟩, ⟨F.PG_ID_VERSION, .ro, .any⟩, ⟨F.PG_ID_TYPE, .ro, .any⟩]⟩,
  ⟨0x004, 0, 1, [⟨F.PG_CAP_EN, .ro, .any⟩, ⟨F.PG_CAP_SRST, .ro, .any⟩, ⟨F.PG_CAP_LOCK, .ro, .any⟩, ⟨F.PG_CAP_DISTRIB, .ro, .any⟩, ⟨F.PG_CAP_TESTABLE, .ro, .any⟩, ⟨F.PG_CAP_FEATURES, .ro, .any⟩]⟩,
  ⟨0x008, 0, 1, [⟨F.PG_CTRL_EN, .rwl, .dep .pgEn⟩, ⟨F.PG_CTRL_SRST, .wo, .dep .pgSrst⟩, ⟨F.PG_CTRL_FREEZE, .rw, .any⟩]⟩,
  ⟨0x00c, 0, 1, [⟨F.PG_STAT_FLAGS, .ro, .any⟩, ⟨F.PG_STAT_STATUS, .ro, .any⟩]⟩,
  ⟨0x010, 0, 1, [⟨F.PG_IRQ_RAW, .w1cBits, .any⟩]⟩,
  ⟨0x014, 0, 1, [⟨F.PG_IRQ_EN, .rw, .dep .irqEn⟩]⟩,
  ⟨0x018, 0, 1, [⟨F.PG_IRQ_PEND, .ro, .any⟩]⟩,
  ⟨0x01c, 0, 1, [⟨F.PG_CLAMP_OFFSET, .ro, .any⟩, ⟨F.PG_CLAMP_CAUSE, .ro, .any⟩, ⟨F.PG_CLAMP_FIELD, .ro, .any⟩, ⟨F.PG_CLAMP_COUNT, .ro, .any⟩, ⟨F.PG_CLAMP_VALID, .w1cBits, .any⟩]⟩,
  ⟨0x020, 0, 1, [⟨F.PG_CLAMP_VAL, .ro, .any⟩]⟩,
  ⟨0x024, 0, 1, [⟨F.PG_CLAMP_RES, .ro, .any⟩]⟩,
  ⟨0x028, 0, 1, [⟨F.PG_LOCK, .rw, .dep .pgLock⟩]⟩,
  ⟨0x02c, 0, 1, [⟨F.PG_SEQ, .ro, .any⟩]⟩]

def top1 : List Row := [
  ⟨0x100, 0x0, 1, [⟨F.TOP_REV, .ro, .any⟩]⟩,
  ⟨0x104, 0x0, 1, [⟨F.TOP_UID_LO, .ro, .any⟩]⟩,
  ⟨0x108, 0x0, 1, [⟨F.TOP_UID_HI, .ro, .any⟩]⟩,
  ⟨0x10c, 0x0, 1, [⟨F.TOP_STRAP_PROFILE, .rw, .sampled⟩, ⟨F.TOP_STRAP_ROLE, .rw, .sampled⟩, ⟨F.TOP_STRAP_DATUM_PREF, .rw, .sampled⟩, ⟨F.TOP_STRAP_HOSTSEL, .rw, .sampled⟩, ⟨F.TOP_STRAP_MARCH_FULL, .rw, .sampled⟩, ⟨F.TOP_STRAP_LBIST_BOOT, .rw, .sampled⟩]⟩,
  ⟨0x110, 0x0, 1, [⟨F.TOP_RSTC_POR, .w1cBits, .any⟩, ⟨F.TOP_RSTC_PIN, .w1cBits, .any⟩, ⟨F.TOP_RSTC_SOFT, .w1cBits, .any⟩, ⟨F.TOP_RSTC_WDOG, .w1cBits, .any⟩]⟩,
  ⟨0x114, 0x0, 1, [⟨F.TOP_READY_READY, .ro, .any⟩, ⟨F.TOP_READY_STEP, .ro, .any⟩]⟩,
  ⟨0x118, 0x0, 1, [⟨F.TOP_SWRST, .wo, .key 0xA55A⟩]⟩]

/-- Page TOP (spec/02). -/
def top : List Row := top1

def clmp1 : List Row := [
  ⟨0x100, 0x0, 1, [⟨F.CLMP_HEAD, .ro, .any⟩]⟩,
  ⟨0x104, 0x0, 1, [⟨F.CLMP_LASTSEQ, .ro, .any⟩]⟩,
  ⟨0x108, 0x0, 1, [⟨F.CLMP_TOTAL, .ro, .any⟩]⟩,
  ⟨0x10c, 0x0, 1, [⟨F.CLMP_MISSED, .ro, .any⟩]⟩,
  ⟨0x110, 0x0, 1, [⟨F.CLMP_CLEAR, .wo, .any⟩]⟩,
  ⟨0x800, 0x20, 64, [⟨F.CLMP_E_OFFSET, .ro, .any⟩, ⟨F.CLMP_E_CAUSE, .ro, .any⟩, ⟨F.CLMP_E_FIELD, .ro, .any⟩, ⟨F.CLMP_E_PAGE, .ro, .any⟩]⟩,
  ⟨0x804, 0x20, 64, [⟨F.CLMP_E_WR, .ro, .any⟩]⟩,
  ⟨0x808, 0x20, 64, [⟨F.CLMP_E_APP, .ro, .any⟩]⟩,
  ⟨0x80c, 0x20, 64, [⟨F.CLMP_E_SRC, .ro, .any⟩]⟩,
  ⟨0x810, 0x20, 64, [⟨F.CLMP_E_SEQ, .ro, .any⟩]⟩,
  ⟨0x814, 0x20, 64, [⟨F.CLMP_E_RTC_LO, .ro, .any⟩]⟩,
  ⟨0x818, 0x20, 64, [⟨F.CLMP_E_RTC_HI_SECONDS, .ro, .any⟩, ⟨F.CLMP_E_RTC_HI_SUBSEC, .ro, .any⟩]⟩,
  ⟨0x81c, 0x20, 64, [⟨F.CLMP_E_COURSE, .ro, .any⟩]⟩]

/-- Page CLMP (spec/02). -/
def clmp : List Row := clmp1

def isl1 : List Row := [
  ⟨0x100, 0x4, 4, [⟨F.ISL_STATE, .ro, .any⟩]⟩,
  ⟨0x110, 0x0, 1, [⟨F.ISL_PLL_LOCKED, .ro, .any⟩, ⟨F.ISL_PLL_LOST, .w1cBits, .any⟩]⟩,
  ⟨0x114, 0x0, 1, [⟨F.ISL_PLL_CNT, .w1cCnt, .any⟩]⟩,
  ⟨0x118, 0x0, 1, [⟨F.ISL_OSC_OSC16, .ro, .any⟩, ⟨F.ISL_OSC_OSC_DMP, .ro, .any⟩, ⟨F.ISL_OSC_OSC_VLT, .ro, .any⟩, ⟨F.ISL_OSC_XT32, .ro, .any⟩]⟩]

/-- Page ISL (spec/02). -/
def isl : List Row := isl1

def pwr1 : List Row := [
  ⟨0x100, 0x0, 1, [⟨F.PWR_CMD_TARGET, .rw, .range 0 4⟩, ⟨F.PWR_CMD_GO, .wo, .dep .pwrGo⟩]⟩,
  ⟨0x104, 0x0, 1, [⟨F.PWR_STAT_STATE, .ro, .any⟩, ⟨F.PWR_STAT_ENTERING, .ro, .any⟩, ⟨F.PWR_STAT_WAKING, .ro, .any⟩, ⟨F.PWR_STAT_ORIGIN, .ro, .any⟩, ⟨F.PWR_STAT_CAUSE, .ro, .any⟩, ⟨F.PWR_STAT_DETAIL, .ro, .any⟩]⟩,
  ⟨0x108, 0x0, 1, [⟨F.PWR_EXIT_US, .ro, .any⟩]⟩,
  ⟨0x10c, 0x0, 1, [⟨F.PWR_ENTRIES, .w1cCnt, .any⟩]⟩,
  ⟨0x110, 0x0, 1, [⟨F.PWR_ABORTS, .w1cCnt, .any⟩]⟩,
  ⟨0x114, 0x0, 1, [⟨F.PWR_WARM_STARTS, .ro, .any⟩]⟩,
  ⟨0x118, 0x0, 1, [⟨F.PWR_IMAGE_SAVED, .ro, .any⟩, ⟨F.PWR_IMAGE_RESTORED, .ro, .any⟩]⟩]

/-- Page PWR (spec/17). -/
def pwr : List Row := pwr1

def wake1 : List Row := [
  ⟨0x100, 0x0, 1, [⟨F.WAKE_CFG_NET_STATE, .rw, .range 2 4⟩, ⟨F.WAKE_CFG_WAKING_MS, .rw, .range 10 250⟩, ⟨F.WAKE_CFG_WAKE_CONFIRM, .rw, .range 50 5000⟩]⟩,
  ⟨0x104, 0x0, 1, [⟨F.WAKE_BACKOFF_FALSE_MAX, .rw, .range 1 255⟩, ⟨F.WAKE_BACKOFF_BACKOFF_S, .rw, .range 60 65535⟩]⟩,
  ⟨0x108, 0x0, 1, [⟨F.WAKE_SW_CFG_MODE 0, .rw, .enum 2⟩, ⟨F.WAKE_SW_CFG_MODE 1, .rw, .enum 2⟩, ⟨F.WAKE_SW_CFG_MODE 2, .rw, .enum 2⟩, ⟨F.WAKE_SW_CFG_MODE 3, .rw, .enum 2⟩]⟩,
  ⟨0x10c, 0x0, 1, [⟨F.WAKE_LINE_EN, .rw, .any⟩]⟩,
  ⟨0x110, 0x0, 1, [⟨F.WAKE_VOTE, .rw, .any⟩]⟩,
  ⟨0x114, 0x0, 1, [⟨F.WAKE_STAT_BACKOFF, .ro, .any⟩, ⟨F.WAKE_STAT_ANNOUNCED, .ro, .any⟩, ⟨F.WAKE_STAT_VOTING_SLEEP, .ro, .any⟩, ⟨F.WAKE_STAT_UNANIMOUS, .ro, .any⟩, ⟨F.WAKE_STAT_SW_LEVEL, .ro, .any⟩]⟩,
  ⟨0x118, 0x0, 1, [⟨F.WAKE_STOP, .ro, .any⟩]⟩,
  ⟨0x11c, 0x0, 1, [⟨F.WAKE_FALSE_COUNT, .w1cCnt, .any⟩, ⟨F.WAKE_FALSE_IN_WINDOW, .ro, .any⟩]⟩,
  ⟨0x120, 0x0, 1, [⟨F.WAKE_IGNORED, .w1cCnt, .any⟩]⟩,
  ⟨0x124, 0x0, 1, [⟨F.WAKE_BACKOFF_LEFT, .ro, .any⟩]⟩,
  ⟨0x128, 0x0, 1, [⟨F.WAKE_WITHDRAWN, .w1cCnt, .any⟩]⟩,
  ⟨0x12c, 0x0, 1, [⟨F.WAKE_LATE, .w1cCnt, .any⟩]⟩,
  ⟨0x200, 0x10, 8, [⟨F.WAKE_P_DETECT, .w1cCnt, .any⟩]⟩,
  ⟨0x204, 0x10, 8, [⟨F.WAKE_P_FAILSAFE_ACK_TO, .w1cCnt, .any⟩, ⟨F.WAKE_P_FAILSAFE_TX_TO, .w1cCnt, .any⟩]⟩]

/-- Page WAKE (spec/17). -/
def wake : List Row := wake1

def host1 : List Row := [
  ⟨0x100, 0x0, 1, [⟨F.HOST_IF_PCIE, .rw, .dep .hostIf⟩, ⟨F.HOST_IF_LB, .rw, .dep .hostIf⟩, ⟨F.HOST_IF_SPI, .rw, .dep .hostIf⟩]⟩,
  ⟨0x104, 0x0, 1, [⟨F.HOST_STAT_LINK_UP, .ro, .any⟩, ⟨F.HOST_STAT_SPEED, .ro, .any⟩, ⟨F.HOST_STAT_WIDTH, .ro, .any⟩, ⟨F.HOST_STAT_BME, .ro, .any⟩, ⟨F.HOST_STAT_PCIE_RESET, .w1cBits, .any⟩, ⟨F.HOST_STAT_D3HOT, .ro, .any⟩]⟩,
  ⟨0x108, 0x0, 1, [⟨F.HOST_BOOT_FAIL, .ro, .any⟩, ⟨F.HOST_BOOT_WARM, .ro, .any⟩, ⟨F.HOST_BOOT_START_MS, .ro, .any⟩]⟩,
  ⟨0x10c, 0x0, 1, [⟨F.HOST_BM_BASE_LO, .rw, .any⟩]⟩,
  ⟨0x110, 0x0, 1, [⟨F.HOST_BM_BASE_HI, .rw, .any⟩]⟩,
  ⟨0x114, 0x0, 1, [⟨F.HOST_BM_LIM_LO, .rw, .any⟩]⟩,
  ⟨0x118, 0x0, 1, [⟨F.HOST_BM_LIM_HI_ADDR, .rw, .dep .bmLim⟩, ⟨F.HOST_BM_LIM_HI_EN, .rw, .any⟩]⟩,
  ⟨0x11c, 0x0, 1, [⟨F.HOST_CPL_TO, .rw, .range 1 255⟩]⟩,
  ⟨0x120, 0x0, 1, [⟨F.HOST_LB_QWIN, .rw, .any⟩]⟩,
  ⟨0x124, 0x0, 1, [⟨F.HOST_LB_VWIN, .rw, .any⟩]⟩,
  ⟨0x128, 0x0, 1, [⟨F.HOST_WDOG_CFG_TIMEOUT_MS, .rw, .range 10 60000⟩, ⟨F.HOST_WDOG_CFG_EN, .rwl, .any⟩, ⟨F.HOST_WDOG_CFG_RESET_EN, .rwl, .any⟩]⟩,
  ⟨0x12c, 0x0, 1, [⟨F.HOST_WDOG_KICK, .wo, .key 0x6B1C⟩]⟩,
  ⟨0x130, 0x0, 1, [⟨F.WDOG_STAT_FIRST, .ro, .any⟩, ⟨F.WDOG_STAT_COUNT, .w1cCnt, .any⟩]⟩,
  ⟨0x134, 0x0, 1, [⟨F.HOST_PCIE_ID, .ro, .any⟩]⟩,
  ⟨0x140, 0x0, 1, [⟨F.HOST_PCIE_ERR, .w1cCnt, .any⟩]⟩,
  ⟨0x144, 0x0, 1, [⟨F.HOST_LB_ERR, .w1cCnt, .any⟩]⟩,
  ⟨0x148, 0x0, 1, [⟨F.HOST_SPI_ERR, .w1cCnt, .any⟩]⟩,
  ⟨0x14c, 0x0, 1, [⟨F.HOST_WIN_WR, .w1cCnt, .any⟩]⟩,
  ⟨0x150, 0x0, 1, [⟨F.HOST_BM_DENY, .w1cCnt, .any⟩]⟩,
  ⟨0x200, 0x20, 4, [⟨F.DMA_SRC_LO, .rw, .any⟩]⟩,
  ⟨0x208, 0x20, 4, [⟨F.DMA_DST_LO, .rw, .any⟩]⟩,
  ⟨0x204, 0x20, 4, [⟨F.DMA_SRC_HI_ADDR, .rw, .dep .dmaHi⟩, ⟨F.DMA_SRC_HI_SPACE, .rw, .any⟩]⟩,
  ⟨0x20c, 0x20, 4, [⟨F.DMA_DST_HI_ADDR, .rw, .dep .dmaHi⟩, ⟨F.DMA_DST_HI_SPACE, .rw, .any⟩]⟩,
  ⟨0x210, 0x20, 4, [⟨F.DMA_LEN, .rw, .range 1 2097152⟩]⟩]

def host2 : List Row := [
  ⟨0x214, 0x20, 4, [⟨F.DMA_CTRL_START, .wo, .dep .dmaStart⟩, ⟨F.DMA_CTRL_ABORT, .wo, .dep .dmaAbort⟩, ⟨F.DMA_CTRL_IRQ, .rw, .any⟩]⟩,
  ⟨0x218, 0x20, 4, [⟨F.DMA_STAT_BUSY, .ro, .any⟩, ⟨F.DMA_STAT_CODE, .ro, .any⟩]⟩,
  ⟨0x21c, 0x20, 4, [⟨F.DMA_DONE_LEN, .ro, .any⟩]⟩]

/-- Page HOST (spec/18). -/
def host : List Row := host1 ++ host2

def irq1 : List Row := [
  ⟨0x100, 0x0, 1, [⟨F.IRQ_PAGE_LO, .ro, .any⟩]⟩,
  ⟨0x104, 0x0, 1, [⟨F.IRQ_PAGE_HI, .ro, .any⟩]⟩,
  ⟨0x108, 0x0, 1, [⟨F.IRQ_URG_RAW, .w1cBits, .any⟩]⟩,
  ⟨0x10c, 0x0, 1, [⟨F.IRQ_URG_EN, .rw, .any⟩]⟩,
  ⟨0x110, 0x0, 1, [⟨F.IRQ_VEC_PEND, .ro, .any⟩]⟩,
  ⟨0x114, 0x0, 1, [⟨F.IRQ_VEC_EN, .rw, .any⟩]⟩,
  ⟨0x118, 0x0, 1, [⟨F.IRQ_EOI, .wo, .any⟩]⟩,
  ⟨0x11c, 0x0, 1, [⟨F.IRQ_PIN_EN_N0, .rw, .any⟩, ⟨F.IRQ_PIN_EN_N1, .rw, .any⟩]⟩,
  ⟨0x140, 0x4, 16, [⟨F.IRQ_MAP_VEC 0, .rw, .dep .irqVec⟩, ⟨F.IRQ_MAP_VEC 1, .rw, .dep .irqVec⟩, ⟨F.IRQ_MAP_VEC 2, .rw, .dep .irqVec⟩, ⟨F.IRQ_MAP_VEC 3, .rw, .dep .irqVec⟩]⟩,
  ⟨0xc00, 0x0, 1, [⟨F.PBA, .ro, .any⟩]⟩,
  ⟨0x800, 0x10, 32, [⟨F.MSIX_ADDR_LO, .rw, .any⟩]⟩,
  ⟨0x804, 0x10, 32, [⟨F.MSIX_ADDR_HI, .rw, .any⟩]⟩,
  ⟨0x808, 0x10, 32, [⟨F.MSIX_DATA, .rw, .any⟩]⟩,
  ⟨0x80c, 0x10, 32, [⟨F.MSIX_CTRL, .rw, .any⟩]⟩]

/-- Page IRQ (spec/18). -/
def irq : List Row := irq1

def spk1 : List Row := [
  ⟨0x100, 0x0, 1, [⟨F.SPK_CFG_GEN, .rw, .spkGen⟩, ⟨F.SPK_CFG_ROLE_MODE, .rw, .any⟩, ⟨F.SPK_CFG_ROLE, .rw, .any⟩]⟩,
  ⟨0x104, 0x0, 1, [⟨F.SPK_TEST, .rw, .dep .spkTest⟩]⟩,
  ⟨0x108, 0x0, 1, [⟨F.SPK_LINK_UP, .ro, .any⟩, ⟨F.SPK_LINK_GEN, .ro, .any⟩, ⟨F.SPK_LINK_MASTER, .ro, .any⟩, ⟨F.SPK_LINK_FEC_LOCK, .ro, .any⟩, ⟨F.SPK_LINK_GEN_MISMATCH, .ro, .any⟩, ⟨F.SPK_LINK_JOINED, .ro, .any⟩]⟩,
  ⟨0x10c, 0x0, 1, [⟨F.SPK_LINKCNT_UPS, .w1cCnt, .any⟩, ⟨F.SPK_LINKCNT_DOWNS, .w1cCnt, .any⟩]⟩,
  ⟨0x110, 0x0, 1, [⟨F.SPK_RX_OK, .ro, .any⟩]⟩,
  ⟨0x114, 0x0, 1, [⟨F.SPK_HDR_ERR, .w1cCnt, .any⟩]⟩,
  ⟨0x118, 0x0, 1, [⟨F.SPK_KIND_ERR, .w1cCnt, .any⟩]⟩,
  ⟨0x11c, 0x0, 1, [⟨F.SPK_STALE_GEN, .w1cCnt, .any⟩]⟩,
  ⟨0x120, 0x0, 1, [⟨F.SPK_WINDOW_ERR, .w1cCnt, .any⟩]⟩,
  ⟨0x124, 0x0, 1, [⟨F.SPK_OWNER_ERR, .w1cCnt, .any⟩]⟩,
  ⟨0x128, 0x0, 1, [⟨F.SPK_LEN_ERR, .w1cCnt, .any⟩]⟩,
  ⟨0x12c, 0x0, 1, [⟨F.SPK_CRC_ERR, .w1cCnt, .any⟩]⟩,
  ⟨0x130, 0x0, 1, [⟨F.SPK_RELAY_CRC, .w1cCnt, .any⟩]⟩,
  ⟨0x134, 0x0, 1, [⟨F.SPK_LATE, .w1cCnt, .any⟩]⟩,
  ⟨0x138, 0x0, 1, [⟨F.SPK_LOOP, .w1cCnt, .any⟩]⟩,
  ⟨0x13c, 0x0, 1, [⟨F.SPK_TX_NULL, .w1cCnt, .any⟩]⟩,
  ⟨0x140, 0x0, 1, [⟨F.SPK_SUBST, .w1cCnt, .any⟩]⟩,
  ⟨0x144, 0x0, 1, [⟨F.SPK_FEC_CORR, .w1cCnt, .any⟩, ⟨F.SPK_FEC_UNCORR, .w1cCnt, .any⟩]⟩,
  ⟨0x148, 0x0, 1, [⟨F.SPK_A_COLL, .w1cCnt, .any⟩]⟩,
  ⟨0x14c, 0x0, 1, [⟨F.SPK_A_CODE, .w1cCnt, .any⟩]⟩]

/-- Page SPK (spec/03 (R109)). -/
def spk : List Row := spk1

def line1 : List Row := [
  ⟨0x100, 0x0, 1, [⟨F.LINE_CFG, .rw, .range 1 6⟩]⟩,
  ⟨0x104, 0x0, 1, [⟨F.LINE_CMD_SET, .wo, .dep .aloneOnly⟩, ⟨F.LINE_CMD_SNAP, .wo, .any⟩]⟩,
  ⟨0x108, 0x0, 1, [⟨F.LINE_STAT_LOCK, .ro, .any⟩, ⟨F.LINE_STAT_IS_SOURCE, .ro, .any⟩, ⟨F.LINE_STAT_HOLDOVER, .ro, .any⟩, ⟨F.LINE_STAT_THETA_VALID, .ro, .any⟩, ⟨F.LINE_STAT_SYNC_MISS, .ro, .any⟩]⟩,
  ⟨0x10c, 0x0, 1, [⟨F.LINE_NOW_LO, .ro, .any⟩]⟩,
  ⟨0x110, 0x0, 1, [⟨F.LINE_NOW_HI, .ro, .any⟩]⟩,
  ⟨0x114, 0x0, 1, [⟨F.LINE_SET_LO, .rw, .any⟩]⟩,
  ⟨0x118, 0x0, 1, [⟨F.LINE_SET_HI, .rw, .any⟩]⟩,
  ⟨0x11c, 0x0, 1, [⟨F.LINE_EPS, .ro, .any⟩]⟩,
  ⟨0x120, 0x0, 1, [⟨F.LINE_TRIM, .ro, .any⟩]⟩,
  ⟨0x124, 0x0, 1, [⟨F.LINE_DATUM_D, .ro, .any⟩]⟩,
  ⟨0x128, 0x0, 1, [⟨F.LINE_THETA_LO, .ro, .any⟩]⟩,
  ⟨0x12c, 0x0, 1, [⟨F.LINE_THETA_HI, .ro, .any⟩]⟩,
  ⟨0x130, 0x0, 1, [⟨F.LINE_SNAP_LT_LO, .ro, .any⟩]⟩,
  ⟨0x134, 0x0, 1, [⟨F.LINE_SNAP_LT_HI, .ro, .any⟩]⟩,
  ⟨0x138, 0x0, 1, [⟨F.LINE_SNAP_RTC_LO, .ro, .any⟩]⟩,
  ⟨0x13c, 0x0, 1, [⟨F.LINE_SNAP_RTC_HI_SECONDS, .ro, .any⟩, ⟨F.LINE_SNAP_RTC_HI_SUBSEC, .ro, .any⟩]⟩,
  ⟨0x140, 0x0, 1, [⟨F.LINE_STEPS, .w1cCnt, .any⟩]⟩,
  ⟨0x144, 0x0, 1, [⟨F.LINE_DRIFT_LATE, .w1cCnt, .any⟩]⟩,
  ⟨0x148, 0x0, 1, [⟨F.LINE_DLY_OUTLIER, .w1cCnt, .any⟩]⟩,
  ⟨0x14c, 0x0, 1, [⟨F.LINE_ADOPT_FAIL, .w1cCnt, .any⟩]⟩,
  ⟨0x200, 0x20, 8, [⟨F.LINE_P_DLY_DELAY, .ro, .any⟩, ⟨F.LINE_P_DLY_VALID, .ro, .any⟩]⟩,
  ⟨0x204, 0x20, 8, [⟨F.LINE_P_THETA, .ro, .any⟩]⟩,
  ⟨0x208, 0x20, 8, [⟨F.LINE_P_ASYM, .rw, .srange (-2000) 2000⟩]⟩,
  ⟨0x20c, 0x20, 8, [⟨F.LINE_P_JUMP, .rw, .range 0 10000⟩]⟩]

def line2 : List Row := [
  ⟨0x210, 0x20, 8, [⟨F.LINE_P_EXCH, .w1cCnt, .any⟩]⟩,
  ⟨0x300, 0x0, 1, [⟨F.LINE_PTP_EN_EN, .rw, .any⟩, ⟨F.LINE_PTP_EN_P2P, .rw, .any⟩]⟩,
  ⟨0x304, 0x0, 1, [⟨F.LINE_PTP_INT_LOG_SYNC, .rw, .srange (-4) 1⟩, ⟨F.LINE_PTP_INT_LOG_ANN, .rw, .srange (-3) 3⟩, ⟨F.LINE_PTP_INT_LOG_MINDREQ, .rw, .srange (-4) 4⟩, ⟨F.LINE_PTP_INT_DOMAIN, .rw, .range 0 127⟩]⟩,
  ⟨0x308, 0x0, 1, [⟨F.LINE_PTP_DS_CLASS_LOCKED, .rw, .range 0 254⟩, ⟨F.LINE_PTP_DS_CLASS_UNLOCKED, .rw, .range 0 254⟩, ⟨F.LINE_PTP_DS_PRIORITY1, .rw, .any⟩, ⟨F.LINE_PTP_DS_PRIORITY2, .rw, .any⟩]⟩,
  ⟨0x30c, 0x0, 1, [⟨F.LINE_PTP_OFS_LO, .rw, .any⟩]⟩,
  ⟨0x310, 0x0, 1, [⟨F.LINE_PTP_OFS_HI, .rw, .any⟩]⟩,
  ⟨0x314, 0x0, 1, [⟨F.LINE_PTP_TS_PTP_TIMESCALE, .rw, .any⟩, ⟨F.LINE_PTP_TS_UTC_VALID, .rw, .any⟩, ⟨F.LINE_PTP_TS_UTC_OFFSET, .rw, .any⟩]⟩,
  ⟨0x318, 0x0, 1, [⟨F.LINE_PTP_FOREIGN, .w1cCnt, .any⟩]⟩]

/-- Page LINE (spec/05). -/
def line : List Row := line1 ++ line2

def seto1 : List Row := [
  ⟨0x100, 0x0, 1, [⟨F.SETO_CFG_SETTLE, .rw, .range 0 8⟩, ⟨F.SETO_CFG_CPL_DEB, .rw, .range 1 100⟩, ⟨F.SETO_CFG_ORIENT_HINT, .rw, .any⟩, ⟨F.SETO_CFG_A_SPLIT, .rw, .any⟩]⟩,
  ⟨0x104, 0x0, 1, [⟨F.SETO_CMD, .wo, .any⟩]⟩,
  ⟨0x108, 0x0, 1, [⟨F.SETO_STAT_STATE, .ro, .any⟩, ⟨F.SETO_STAT_POSITION, .ro, .any⟩, ⟨F.SETO_STAT_COUNT, .ro, .any⟩, ⟨F.SETO_STAT_IS_DATUM, .ro, .any⟩, ⟨F.SETO_STAT_ORIENT, .ro, .any⟩, ⟨F.SETO_STAT_ORIENT_SRC, .ro, .any⟩, ⟨F.SETO_STAT_DATUM_CONFLICT, .ro, .any⟩, ⟨F.SETO_STAT_PREF_NOT_END, .ro, .any⟩, ⟨F.SETO_STAT_SCHED_MISMATCH, .ro, .any⟩]⟩,
  ⟨0x10c, 0x0, 1, [⟨F.SETO_GEN_GEN, .ro, .any⟩, ⟨F.SETO_GEN_PENDING, .ro, .any⟩]⟩,
  ⟨0x110, 0x0, 1, [⟨F.SETO_COMMIT, .ro, .any⟩]⟩,
  ⟨0x114, 0x0, 1, [⟨F.SETO_DATUM_LO, .ro, .any⟩]⟩,
  ⟨0x118, 0x0, 1, [⟨F.SETO_DATUM_HI, .ro, .any⟩]⟩,
  ⟨0x11c, 0x0, 1, [⟨F.SETO_LAST_EVENT, .ro, .any⟩, ⟨F.SETO_LAST_PORT, .ro, .any⟩, ⟨F.SETO_LAST_CUT, .ro, .any⟩, ⟨F.SETO_LAST_COURSES, .ro, .any⟩]⟩,
  ⟨0x120, 0x0, 1, [⟨F.SETO_PLANS, .w1cCnt, .any⟩]⟩,
  ⟨0x124, 0x0, 1, [⟨F.SETO_ABORTS, .w1cCnt, .any⟩]⟩,
  ⟨0x128, 0x0, 1, [⟨F.SETO_REJOINS, .w1cCnt, .any⟩]⟩,
  ⟨0x12c, 0x0, 1, [⟨F.SETO_A_LOST, .w1cCnt, .any⟩]⟩,
  ⟨0x130, 0x0, 1, [⟨F.SETO_A_WINNER, .ro, .any⟩]⟩,
  ⟨0x134, 0x0, 1, [⟨F.SETO_A_WINNER_HI, .ro, .any⟩]⟩,
  ⟨0x138, 0x0, 1, [⟨F.SETO_RPT_OVF, .w1cCnt, .any⟩]⟩,
  ⟨0x13c, 0x0, 1, [⟨F.SETO_CAB_IGN, .w1cCnt, .any⟩]⟩,
  ⟨0x200, 0x8, 62, [⟨F.SETO_TAB_LO, .ro, .any⟩]⟩,
  ⟨0x204, 0x8, 62, [⟨F.SETO_TAB_HI_UID, .ro, .any⟩, ⟨F.SETO_TAB_HI_PENDING, .ro, .any⟩, ⟨F.SETO_TAB_HI_ORIENT, .ro, .any⟩, ⟨F.SETO_TAB_HI_TWIN, .ro, .any⟩, ⟨F.SETO_TAB_HI_PREF, .ro, .any⟩]⟩]

/-- Page SETO (spec/04). -/
def seto : List Row := seto1

def schd1 : List Row := [
  ⟨0x100, 0x0, 1, [⟨F.SCHD_SRC, .rw, .any⟩]⟩,
  ⟨0x104, 0x0, 1, [⟨F.SCHD_ADDR, .rw, .dep .schdAddr⟩]⟩,
  ⟨0x108, 0x0, 1, [⟨F.SCHD_LEN, .rw, .range 324 16948⟩]⟩,
  ⟨0x10c, 0x0, 1, [⟨F.SCHD_CMD_LOAD, .wo, .any⟩, ⟨F.SCHD_CMD_DISCARD, .wo, .any⟩]⟩,
  ⟨0x110, 0x0, 1, [⟨F.SCHD_RESULT_CODE, .ro, .any⟩, ⟨F.SCHD_RESULT_BUSY, .ro, .any⟩, ⟨F.SCHD_RESULT_PENDING, .ro, .any⟩, ⟨F.SCHD_RESULT_OFFSET, .ro, .any⟩]⟩,
  ⟨0x114, 0x0, 1, [⟨F.SCHD_ACTIVE_ID, .ro, .any⟩]⟩,
  ⟨0x118, 0x0, 1, [⟨F.SCHD_PENDING_ID, .ro, .any⟩]⟩,
  ⟨0x11c, 0x0, 1, [⟨F.SCHD_ACTIVE_CRC, .ro, .any⟩]⟩,
  ⟨0x120, 0x0, 1, [⟨F.SCHD_QUOIN_TOTAL, .ro, .any⟩, ⟨F.SCHD_QUOIN_FREE, .ro, .any⟩]⟩,
  ⟨0x124, 0x0, 1, [⟨F.SCHD_CLAIM_SLOT, .rw, .dep .claimSlot⟩, ⟨F.SCHD_CLAIM_MINLEN, .rw, .range 0 748⟩]⟩,
  ⟨0x128, 0x0, 1, [⟨F.SCHD_CLAIM_CMD_CLAIM, .wo, .any⟩, ⟨F.SCHD_CLAIM_CMD_RELEASE, .wo, .any⟩]⟩,
  ⟨0x12c, 0x0, 1, [⟨F.SCHD_CLAIM_STAT_STATE, .ro, .any⟩, ⟨F.SCHD_CLAIM_STAT_SLOT, .ro, .any⟩]⟩,
  ⟨0x130, 0x0, 1, [⟨F.SCHD_REJECTS, .w1cCnt, .any⟩]⟩]

/-- Page SCHD (spec/03 (R110)). -/
def schd : List Row := schd1

def grd1 : List Row := [
  ⟨0x100, 0x0, 1, [⟨F.GRD_CFG_KIND_CHECK, .rwl, .any⟩, ⟨F.GRD_CFG_SIL_N, .rw, .range 1 255⟩]⟩,
  ⟨0x104, 0x0, 1, [⟨F.GRD_KILL_STAT_PIN_LOW, .ro, .any⟩, ⟨F.GRD_KILL_STAT_LATCHED, .ro, .any⟩]⟩,
  ⟨0x108, 0x0, 1, [⟨F.GRD_KILL_CNT, .w1cCnt, .any⟩]⟩,
  ⟨0x10c, 0x0, 1, [⟨F.GRD_MAP_CRC, .ro, .any⟩]⟩,
  ⟨0x110, 0x0, 1, [⟨F.GRD_SILENT_LO, .ro, .any⟩]⟩,
  ⟨0x114, 0x0, 1, [⟨F.GRD_SILENT_HI, .ro, .any⟩]⟩,
  ⟨0x200, 0x40, 8, [⟨F.GRD_P_STAT_STATE, .ro, .any⟩, ⟨F.GRD_P_STAT_TESTING, .ro, .any⟩, ⟨F.GRD_P_STAT_ASLEEP, .ro, .any⟩, ⟨F.GRD_P_STAT_FENCED, .ro, .any⟩, ⟨F.GRD_P_STAT_OWNCAR, .ro, .any⟩]⟩,
  ⟨0x204, 0x40, 8, [⟨F.GRD_P_CRC, .ro, .any⟩]⟩,
  ⟨0x208, 0x40, 8, [⟨F.GRD_P_DERR, .ro, .any⟩]⟩,
  ⟨0x20c, 0x40, 8, [⟨F.GRD_P_REFUSE, .w1cCnt, .any⟩]⟩,
  ⟨0x210, 0x40, 8, [⟨F.GRD_P_KIND, .w1cCnt, .any⟩]⟩,
  ⟨0x214, 0x40, 8, [⟨F.GRD_P_TRUNC, .w1cCnt, .any⟩]⟩,
  ⟨0x218, 0x40, 8, [⟨F.GRD_P_NOTOKEN, .w1cCnt, .any⟩]⟩,
  ⟨0x21c, 0x40, 8, [⟨F.GRD_P_CLIP, .w1cCnt, .any⟩]⟩,
  ⟨0x220, 0x40, 8, [⟨F.GRD_P_MISMATCH, .w1cCnt, .any⟩]⟩,
  ⟨0x224, 0x40, 8, [⟨F.GRD_P_BABBLE_RX, .w1cCnt, .any⟩]⟩]

/-- Page GRD (spec/06). -/
def grd : List Row := grd1

def hub1 : List Row := [
  ⟨0x100, 0x0, 1, [⟨F.HUB_CFG_HUB_EN, .rw, .any⟩, ⟨F.HUB_CFG_END0_BRANCH, .rw, .any⟩, ⟨F.HUB_CFG_END1_BRANCH, .rw, .any⟩, ⟨F.HUB_CFG_CUT_N, .rw, .range 1 15⟩, ⟨F.HUB_CFG_CLEAN_N, .rw, .range 1 255⟩]⟩,
  ⟨0x104, 0x0, 1, [⟨F.HUB_CMD_REINSTATE, .wo, .dep .branchPorts⟩, ⟨F.HUB_CMD_CUT, .wo, .dep .branchPorts⟩]⟩,
  ⟨0x200, 0x40, 8, [⟨F.HUB_BR_STAT_ROLE, .ro, .any⟩, ⟨F.HUB_BR_STAT_STATE, .ro, .any⟩, ⟨F.HUB_BR_STAT_TESTING, .ro, .any⟩, ⟨F.HUB_BR_STAT_ASLEEP, .ro, .any⟩, ⟨F.HUB_BR_STAT_FENCED, .ro, .any⟩, ⟨F.HUB_BR_STAT_CLEAN, .ro, .any⟩, ⟨F.HUB_BR_STAT_BEHIND, .ro, .any⟩]⟩,
  ⟨0x204, 0x40, 8, [⟨F.HUB_BR_CFG, .rw, .any⟩]⟩,
  ⟨0x208, 0x40, 8, [⟨F.HUB_BR_DB, .ro, .any⟩]⟩,
  ⟨0x20c, 0x40, 8, [⟨F.HUB_BR_VIOL, .w1cCnt, .any⟩]⟩,
  ⟨0x210, 0x40, 8, [⟨F.HUB_BR_CUTS, .w1cCnt, .any⟩]⟩,
  ⟨0x214, 0x40, 8, [⟨F.HUB_BR_FWD, .ro, .any⟩]⟩,
  ⟨0x218, 0x40, 8, [⟨F.HUB_BR_LAST_SLOT, .ro, .any⟩, ⟨F.HUB_BR_LAST_SRC, .ro, .any⟩, ⟨F.HUB_BR_LAST_COURSE, .ro, .any⟩]⟩]

/-- Page HUB (spec/06). -/
def hub : List Row := hub1

def adm1 : List Row := [
  ⟨0x100, 0x0, 1, [⟨F.ADM_CFG_TX_SLOT, .rw, .dep .txSlot⟩, ⟨F.ADM_CFG_INST_EN, .rwl, .any⟩, ⟨F.ADM_CFG_INST_ADMIT, .rwl, .any⟩]⟩,
  ⟨0x104, 0x0, 1, [⟨F.ADM_KEYSEL, .rw, .any⟩]⟩,
  ⟨0x108, 0x4, 4, [⟨F.ADM_KEY, .wo, .dep .key3⟩]⟩,
  ⟨0x118, 0x0, 1, [⟨F.ADM_KEYSTAT_VALID, .ro, .any⟩, ⟨F.ADM_KEYSTAT_ROLL_PENDING, .ro, .any⟩]⟩,
  ⟨0x11c, 0x0, 1, [⟨F.ADM_CMD_ROLL, .wo, .dep .datumOnly⟩, ⟨F.ADM_CMD_CLEAR_KEY, .wo, .any⟩, ⟨F.ADM_CMD_STR_CLEAR, .wo, .any⟩]⟩,
  ⟨0x120, 0x0, 1, [⟨F.ADM_STR_TAG, .w1cCnt, .any⟩]⟩,
  ⟨0x124, 0x0, 1, [⟨F.ADM_STR_TABLE, .w1cCnt, .any⟩]⟩,
  ⟨0x128, 0x0, 1, [⟨F.ADM_STR_OVF, .w1cCnt, .any⟩]⟩,
  ⟨0x12c, 0x0, 1, [⟨F.ADM_STR_USED, .ro, .any⟩]⟩,
  ⟨0x200, 0x10, 16, [⟨F.ADM_STR_UID_LO, .ro, .any⟩]⟩,
  ⟨0x204, 0x10, 16, [⟨F.ADM_STR_ID_UID, .ro, .any⟩, ⟨F.ADM_STR_ID_PORT, .ro, .any⟩, ⟨F.ADM_STR_ID_REASON, .ro, .any⟩, ⟨F.ADM_STR_ID_SRC, .ro, .any⟩]⟩,
  ⟨0x208, 0x10, 16, [⟨F.ADM_STR_SEEN_COUNT, .ro, .any⟩, ⟨F.ADM_STR_SEEN_FIRST, .ro, .any⟩]⟩,
  ⟨0x20c, 0x10, 16, [⟨F.ADM_STR_LAST, .ro, .any⟩]⟩]

/-- Page ADM (spec/04 (R529, R530)). -/
def adm : List Row := adm1

def trw1 : List Row := [
  ⟨0x100, 0x0, 1, [⟨F.TRW_STAT_MCODE_OK, .ro, .any⟩, ⟨F.TRW_STAT_MCODE_IMG, .ro, .any⟩, ⟨F.TRW_STAT_MCODE_VER, .ro, .any⟩]⟩,
  ⟨0x104, 0x0, 1, [⟨F.TRW_TX_LEAD, .rw, .range 1 32⟩]⟩,
  ⟨0x108, 0x0, 1, [⟨F.TRW_CTX_AGE, .rw, .range 1 1000⟩]⟩,
  ⟨0x10c, 0x0, 1, [⟨F.TRW_CTX_USED_USED, .ro, .any⟩, ⟨F.TRW_CTX_USED_PEAK, .w1cCnt, .any⟩]⟩,
  ⟨0x110, 0x0, 1, [⟨F.TRW_CTX_RECLAIM, .w1cCnt, .any⟩]⟩,
  ⟨0x114, 0x0, 1, [⟨F.TRW_RELAY_CNT, .ro, .any⟩]⟩,
  ⟨0x118, 0x0, 1, [⟨F.TRW_RELAY_MAX, .w1cCnt, .any⟩]⟩,
  ⟨0x11c, 0x0, 1, [⟨F.TRW_RX_NOQ, .w1cCnt, .any⟩]⟩,
  ⟨0x120, 0x0, 1, [⟨F.TRW_MSG_DISCARD, .w1cCnt, .any⟩]⟩,
  ⟨0x124, 0x0, 1, [⟨F.TRW_MSG_DUP, .w1cCnt, .any⟩]⟩,
  ⟨0x128, 0x0, 1, [⟨F.TRW_SHORT_DROP, .w1cCnt, .any⟩]⟩,
  ⟨0x12c, 0x0, 1, [⟨F.TRW_IMG_BASE, .rw, .dep .imgBase⟩]⟩,
  ⟨0x130, 0x0, 1, [⟨F.TRW_IMG_SIZE, .rw, .dep .imgSize⟩]⟩,
  ⟨0x134, 0x0, 1, [⟨F.TRW_IMG_READY, .wo, .dep .imgReady⟩]⟩,
  ⟨0x138, 0x0, 1, [⟨F.TRW_IMG_STAT_ARMED, .ro, .any⟩, ⟨F.TRW_IMG_STAT_TX_HOST, .ro, .any⟩, ⟨F.TRW_IMG_STAT_RX_STABLE, .ro, .any⟩, ⟨F.TRW_IMG_STAT_OVERFLOW, .ro, .any⟩]⟩,
  ⟨0x13c, 0x0, 1, [⟨F.TRW_IMG_COURSE, .ro, .any⟩]⟩,
  ⟨0x140, 0x0, 1, [⟨F.TRW_HOST_LATE, .w1cCnt, .any⟩]⟩,
  ⟨0x144, 0x0, 1, [⟨F.TRW_IMG_OVF, .w1cCnt, .any⟩]⟩,
  ⟨0x148, 0x0, 1, [⟨F.TRW_WHEEL_CMD, .wo, .dep .wheelApply⟩]⟩,
  ⟨0x14c, 0x0, 1, [⟨F.TRW_WHEEL_STAT_PENDING, .ro, .any⟩, ⟨F.TRW_WHEEL_STAT_SHORT, .ro, .any⟩, ⟨F.TRW_WHEEL_STAT_CHANNEL, .ro, .any⟩]⟩,
  ⟨0x180, 0x4, 12, [⟨F.TRW_CTX_Q_RES, .rw, .dep .ctxRes⟩, ⟨F.TRW_CTX_Q_MAX, .rw, .dep .ctxMax⟩]⟩,
  ⟨0x1c0, 0x4, 12, [⟨F.TRW_CTX_DENY, .w1cCnt, .any⟩]⟩,
  ⟨0x200, 0x4, 12, [⟨F.TRW_CTX_INUSE, .ro, .any⟩]⟩,
  ⟨0x400, 0x4, 64, [⟨F.TRW_WHEEL_FILL, .rw, .wheelCode⟩, ⟨F.TRW_WHEEL_P 0, .rw, .wheelCode⟩, ⟨F.TRW_WHEEL_P 1, .rw, .wheelCode⟩, ⟨F.TRW_WHEEL_P 2, .rw, .wheelCode⟩, ⟨F.TRW_WHEEL_P 3, .rw, .wheelCode⟩, ⟨F.TRW_WHEEL_P 4, .rw, .wheelCode⟩, ⟨F.TRW_WHEEL_P 5, .rw, .wheelCode⟩, ⟨F.TRW_WHEEL_P 6, .rw, .wheelCode⟩]⟩]

def trw2 : List Row := [
  ⟨0x500, 0x4, 64, [⟨F.TRW_WHEEL_ACT, .ro, .any⟩]⟩]

/-- Page TRW (spec/07). -/
def trw : List Row := trw1 ++ trw2

def trwq1 : List Row := [
  ⟨0x100, 0x0, 1, [⟨F.TRWQ_TX_DONE_LO, .w1cBits, .any⟩]⟩,
  ⟨0x104, 0x0, 1, [⟨F.TRWQ_TX_DONE_HI, .w1cBits, .any⟩]⟩,
  ⟨0x108, 0x0, 1, [⟨F.TRWQ_RX_DONE_LO, .w1cBits, .any⟩]⟩,
  ⟨0x10c, 0x0, 1, [⟨F.TRWQ_RX_DONE_HI, .w1cBits, .any⟩]⟩,
  ⟨0x110, 0x0, 1, [⟨F.TRWQ_TX_ERR_LO, .w1cBits, .any⟩]⟩,
  ⟨0x114, 0x0, 1, [⟨F.TRWQ_TX_ERR_HI, .w1cBits, .any⟩]⟩,
  ⟨0x118, 0x0, 1, [⟨F.TRWQ_RX_ERR_LO, .w1cBits, .any⟩]⟩,
  ⟨0x11c, 0x0, 1, [⟨F.TRWQ_RX_ERR_HI, .w1cBits, .any⟩]⟩,
  ⟨0x120, 0x0, 1, [⟨F.TRWQ_RX_NODESC, .w1cCnt, .any⟩]⟩,
  ⟨0x124, 0x0, 1, [⟨F.TRWQ_TX_ERRCNT, .w1cCnt, .any⟩]⟩,
  ⟨0x800, 0x10, 128, [⟨F.Q_BASE_LO, .rw, .dep .qKept⟩]⟩,
  ⟨0x804, 0x10, 128, [⟨F.Q_BASE_HI_ADDR, .rw, .dep .qKept⟩, ⟨F.Q_BASE_HI_LOG2SIZE, .rw, .range 3 12⟩, ⟨F.Q_BASE_HI_LOC, .rw, .any⟩, ⟨F.Q_BASE_HI_EN, .rw, .any⟩]⟩,
  ⟨0x808, 0x10, 128, [⟨F.Q_BIND_TARGET, .rw, .dep .qTarget⟩, ⟨F.Q_BIND_CLASS, .rw, .enum 2⟩, ⟨F.Q_BIND_SRC, .rw, .range 0 62⟩]⟩,
  ⟨0x80c, 0x10, 128, [⟨F.Q_IDX_HEAD, .ro, .any⟩, ⟨F.Q_IDX_TAIL, .rw, .dep .qTail⟩]⟩]

/-- Page TRWQ (spec/07). -/
def trwq : List Row := trwq1

def lane1 : List Row := [
  ⟨0x100, 0x0, 1, [⟨F.LANE_CFG, .rw, .any⟩]⟩,
  ⟨0x104, 0x0, 1, [⟨F.LANE_MAP_P 0, .ro, .any⟩, ⟨F.LANE_MAP_P 1, .ro, .any⟩, ⟨F.LANE_MAP_P 2, .ro, .any⟩, ⟨F.LANE_MAP_P 3, .ro, .any⟩, ⟨F.LANE_MAP_P 4, .ro, .any⟩, ⟨F.LANE_MAP_P 5, .ro, .any⟩, ⟨F.LANE_MAP_P 6, .ro, .any⟩, ⟨F.LANE_MAP_P 7, .ro, .any⟩]⟩,
  ⟨0x108, 0x0, 1, [⟨F.LANE_REST_REST, .ro, .any⟩, ⟨F.LANE_REST_WORKING, .ro, .any⟩, ⟨F.LANE_REST_DEGRADED, .ro, .any⟩, ⟨F.LANE_REST_SHORT, .ro, .any⟩]⟩,
  ⟨0x10c, 0x0, 1, [⟨F.LANE_STATE_L 0, .ro, .any⟩, ⟨F.LANE_STATE_L 1, .ro, .any⟩, ⟨F.LANE_STATE_L 2, .ro, .any⟩, ⟨F.LANE_STATE_L 3, .ro, .any⟩, ⟨F.LANE_STATE_L 4, .ro, .any⟩, ⟨F.LANE_STATE_L 5, .ro, .any⟩, ⟨F.LANE_STATE_L 6, .ro, .any⟩, ⟨F.LANE_STATE_L 7, .ro, .any⟩, ⟨F.LANE_STATE_L 8, .ro, .any⟩]⟩,
  ⟨0x110, 0x0, 1, [⟨F.LANE_ROT, .w1cCnt, .any⟩]⟩,
  ⟨0x114, 0x0, 1, [⟨F.LANE_CMD, .wo, .dep .laneFuse⟩]⟩]

/-- Page LANE (spec/07). -/
def lane : List Row := lane1

def twin1 : List Row := [
  ⟨0x100, 0x0, 1, [⟨F.TWIN_CFG_STALE_N, .rw, .range 1 255⟩, ⟨F.TWIN_CFG_FIT_MASK, .rw, .any⟩, ⟨F.TWIN_CFG_HOST_EN, .rw, .any⟩]⟩,
  ⟨0x104, 0x0, 1, [⟨F.TWIN_CPL_CPL_D, .rw, .range 0 2000⟩, ⟨F.TWIN_CPL_D_ADJ, .rw, .srange (-2000) 2000⟩]⟩,
  ⟨0x108, 0x0, 1, [⟨F.TWIN_HOST_TX, .rw, .dep .twinHostTx⟩]⟩,
  ⟨0x10c, 0x0, 1, [⟨F.TWIN_HOST_LEN, .rw, .dep .twinHostLen⟩]⟩,
  ⟨0x110, 0x0, 1, [⟨F.TWIN_HOST_RX, .rw, .dep .twinHostRx⟩]⟩,
  ⟨0x114, 0x0, 1, [⟨F.TWIN_STAT_ROLE, .ro, .any⟩, ⟨F.TWIN_STAT_ROLE_CMD, .ro, .any⟩, ⟨F.TWIN_STAT_TAKE_ARMED, .ro, .any⟩, ⟨F.TWIN_STAT_FENCE_SRC, .ro, .any⟩, ⟨F.TWIN_STAT_SWAP, .ro, .any⟩, ⟨F.TWIN_STAT_CMD_DISAGREE, .ro, .any⟩, ⟨F.TWIN_STAT_DUAL_ACTIVE, .ro, .any⟩, ⟨F.TWIN_STAT_STALE, .ro, .any⟩, ⟨F.TWIN_STAT_HOST_DROP, .ro, .any⟩, ⟨F.TWIN_STAT_SILENT_RUN, .ro, .any⟩, ⟨F.TWIN_STAT_HOST_BUF, .ro, .any⟩]⟩,
  ⟨0x118, 0x0, 1, [⟨F.TWIN_HEALTH, .ro, .any⟩]⟩,
  ⟨0x11c, 0x0, 1, [⟨F.TWIN_PARTNER_HEALTH, .ro, .any⟩]⟩,
  ⟨0x120, 0x0, 1, [⟨F.TWIN_REC_COURSE, .ro, .any⟩]⟩,
  ⟨0x124, 0x0, 1, [⟨F.TWIN_TAKEOVERS, .w1cCnt, .any⟩]⟩,
  ⟨0x128, 0x0, 1, [⟨F.TWIN_SWAPS, .w1cCnt, .any⟩]⟩,
  ⟨0x12c, 0x0, 1, [⟨F.TWIN_SWAP_ABORT, .w1cCnt, .any⟩]⟩,
  ⟨0x130, 0x0, 1, [⟨F.TWIN_REC_BAD, .w1cCnt, .any⟩]⟩,
  ⟨0x134, 0x0, 1, [⟨F.TWIN_REC_LATE, .w1cCnt, .any⟩]⟩,
  ⟨0x138, 0x0, 1, [⟨F.TWIN_STATE_DIFF, .w1cCnt, .any⟩]⟩,
  ⟨0x13c, 0x0, 1, [⟨F.TWIN_CTX_DIFF, .w1cCnt, .any⟩]⟩,
  ⟨0x200, 0x0, 1, [⟨F.TWIN_ARB_CFG_AUTO, .rwl, .any⟩, ⟨F.TWIN_ARB_CFG_HB_MISS, .rw, .range 1 2⟩, ⟨F.TWIN_ARB_CFG_PM_N, .rw, .range 1 2⟩, ⟨F.TWIN_ARB_CFG_SWAP_H, .rw, .range 0 168⟩, ⟨F.TWIN_ARB_CFG_POS, .rw, .range 0 62⟩]⟩,
  ⟨0x204, 0x0, 1, [⟨F.TWIN_ARB_CMD_FAILOVER, .wo, .dep .arbFailover⟩, ⟨F.TWIN_ARB_CMD_SWAP, .wo, .dep .arbSwap⟩, ⟨F.TWIN_ARB_CMD_RESTORE, .wo, .any⟩, ⟨F.TWIN_ARB_CMD_OUT, .wo, .any⟩]⟩,
  ⟨0x208, 0x0, 1, [⟨F.TWIN_ARB_STAT_ROLE_A, .ro, .any⟩, ⟨F.TWIN_ARB_STAT_ROLE_B, .ro, .any⟩, ⟨F.TWIN_ARB_STAT_KILL, .ro, .any⟩, ⟨F.TWIN_ARB_STAT_FENCED, .ro, .any⟩, ⟨F.TWIN_ARB_STAT_HB_OK, .ro, .any⟩, ⟨F.TWIN_ARB_STAT_PM, .ro, .any⟩, ⟨F.TWIN_ARB_STAT_LAST, .ro, .any⟩]⟩,
  ⟨0x20c, 0x4, 2, [⟨F.TWIN_ARB_HLTH, .ro, .any⟩]⟩,
  ⟨0x214, 0x0, 1, [⟨F.TWIN_ARB_LAST_COURSE, .ro, .any⟩]⟩,
  ⟨0x218, 0x0, 1, [⟨F.TWIN_ARB_SWAP_LEFT, .ro, .any⟩]⟩,
  ⟨0x21c, 0x0, 1, [⟨F.TWIN_ARB_DECISIONS, .w1cCnt, .any⟩]⟩,
  ⟨0x220, 0x0, 1, [⟨F.TWIN_ARB_OWN_SILENT, .w1cCnt, .any⟩]⟩]

/-- Page TWIN (spec/09). -/
def twin : List Row := twin1

def tie1 : List Row := [
  ⟨0x100, 0x0, 1, [⟨F.TIE_CFG_EN, .rw, .dep .tieEn⟩, ⟨F.TIE_CFG_LANE1_EN, .rw, .any⟩]⟩,
  ⟨0x104, 0x0, 1, [⟨F.TIE_STAT_LOCK, .ro, .any⟩, ⟨F.TIE_STAT_ALIGNED, .ro, .any⟩, ⟨F.TIE_STAT_UP, .ro, .any⟩, ⟨F.TIE_STAT_SINGLE, .ro, .any⟩, ⟨F.TIE_STAT_PARTNER, .ro, .any⟩, ⟨F.TIE_STAT_SKEW, .ro, .any⟩]⟩,
  ⟨0x108, 0x0, 1, [⟨F.TIE_TX_FRAMES, .ro, .any⟩]⟩,
  ⟨0x10c, 0x0, 1, [⟨F.TIE_RX_FRAMES, .ro, .any⟩]⟩,
  ⟨0x110, 0x0, 1, [⟨F.TIE_RX_BAD, .w1cCnt, .any⟩]⟩,
  ⟨0x114, 0x0, 1, [⟨F.TIE_BLK_ERR, .w1cCnt, .any⟩]⟩,
  ⟨0x118, 0x0, 1, [⟨F.TIE_LANE_DOWN, .w1cCnt, .any⟩]⟩,
  ⟨0x11c, 0x0, 1, [⟨F.TIE_REC_NS, .ro, .any⟩]⟩]

/-- Page TIE (spec/09). -/
def tie : List Row := tie1

def plmb1 : List Row := [
  ⟨0x100, 0x0, 1, [⟨F.PLMB_CFG_WORDS, .rw, .any⟩, ⟨F.PLMB_CFG_PAYLOAD, .rw, .any⟩]⟩,
  ⟨0x104, 0x0, 1, [⟨F.PLMB_STAT_RESULT, .ro, .any⟩, ⟨F.PLMB_STAT_SELF_DIFF, .ro, .any⟩, ⟨F.PLMB_STAT_FIRST_SLOT, .ro, .any⟩]⟩,
  ⟨0x108, 0x0, 1, [⟨F.PLMB_WOULD, .ro, .any⟩]⟩,
  ⟨0x10c, 0x0, 1, [⟨F.PLMB_HEARD, .ro, .any⟩]⟩,
  ⟨0x110, 0x0, 1, [⟨F.PLMB_SELF, .ro, .any⟩]⟩,
  ⟨0x114, 0x0, 1, [⟨F.PLMB_COUNT_WOULD, .ro, .any⟩, ⟨F.PLMB_COUNT_HEARD, .ro, .any⟩]⟩,
  ⟨0x118, 0x0, 1, [⟨F.PLMB_COURSE, .ro, .any⟩]⟩,
  ⟨0x11c, 0x0, 1, [⟨F.PLMB_MISMATCH_CNT, .w1cCnt, .any⟩]⟩,
  ⟨0x120, 0x0, 1, [⟨F.PLMB_SILENT_CNT, .w1cCnt, .any⟩]⟩,
  ⟨0x124, 0x0, 1, [⟨F.PLMB_INCONC_CNT, .w1cCnt, .any⟩]⟩,
  ⟨0x128, 0x0, 1, [⟨F.PLMB_SELF_DIFF, .w1cCnt, .any⟩]⟩]

/-- Page PLMB (spec/09). -/
def plmb : List Row := plmb1

def qry1 : List Row := [
  ⟨0x100, 0x0, 1, [⟨F.QRY_GRP_MODE, .rw, .dep .grpMode⟩]⟩,
  ⟨0x104, 0x0, 1, [⟨F.QRY_CFG_SCRUB_EN, .rw, .any⟩, ⟨F.QRY_CFG_AUTO_REPAIR, .rw, .any⟩]⟩,
  ⟨0x108, 0x0, 1, [⟨F.QRY_SCRUB_PERIOD, .rw, .range 60 86400⟩]⟩,
  ⟨0x110, 0x4, 4, [⟨F.QRY_BANK_RUN, .rw, .dep .bankRun⟩]⟩,
  ⟨0x120, 0x4, 4, [⟨F.QRY_BANK_NAP, .rw, .dep .bankNap⟩]⟩,
  ⟨0x130, 0x4, 2, [⟨F.QRY_BANK_SLUMBER, .rw, .dep .bankSlumber⟩]⟩,
  ⟨0x138, 0x4, 2, [⟨F.QRY_BANK_PIN, .rw, .dep .bankPin⟩]⟩,
  ⟨0x140, 0x4, 8, [⟨F.QRY_BANK_STAT, .ro, .any⟩]⟩,
  ⟨0x160, 0x0, 1, [⟨F.QRY_ECC_CE, .w1cCnt, .any⟩]⟩,
  ⟨0x164, 0x0, 1, [⟨F.QRY_ECC_UE, .w1cCnt, .any⟩]⟩,
  ⟨0x168, 0x0, 1, [⟨F.QRY_ECC_ADDR, .ro, .any⟩]⟩,
  ⟨0x16c, 0x0, 1, [⟨F.QRY_ECC_INFO_SYNDROME, .ro, .any⟩, ⟨F.QRY_ECC_INFO_MASTER, .ro, .any⟩, ⟨F.QRY_ECC_INFO_UE, .ro, .any⟩, ⟨F.QRY_ECC_INFO_SCRUB, .ro, .any⟩, ⟨F.QRY_ECC_INFO_HARD, .ro, .any⟩]⟩,
  ⟨0x170, 0x0, 1, [⟨F.QRY_SEM_BREAK, .wo, .dep .semBreak⟩]⟩,
  ⟨0x174, 0x0, 1, [⟨F.QRY_SEM_CONTEND, .w1cCnt, .any⟩]⟩,
  ⟨0x178, 0x0, 1, [⟨F.QRY_SEM_ENDED, .w1cCnt, .any⟩]⟩,
  ⟨0x400, 0x4, 64, [⟨F.QRY_SEMN_TAG, .rw, .any⟩, ⟨F.QRY_SEMN_LEASE, .rw, .range 1 255⟩, ⟨F.QRY_SEMN_OP, .wo, .dep .semOp⟩, ⟨F.QRY_SEMN_OWNER, .ro, .any⟩, ⟨F.QRY_SEMN_HELD, .ro, .any⟩, ⟨F.QRY_SEMN_ENDED, .ro, .any⟩]⟩]

/-- Page QRY (spec/10). -/
def qry : List Row := qry1

def rgn1 : List Row := [
  ⟨0x100, 0x0, 1, [⟨F.RGN_FENCE_SET, .wo, .any⟩]⟩,
  ⟨0x104, 0x0, 1, [⟨F.RGN_FENCE_CLR, .wo, .dep .fenceClr⟩]⟩,
  ⟨0x108, 0x0, 1, [⟨F.RGN_FENCED, .ro, .any⟩]⟩,
  ⟨0x10c, 0x0, 1, [⟨F.RGN_FAULT_ADDR, .ro, .any⟩]⟩,
  ⟨0x110, 0x0, 1, [⟨F.RGN_FAULT_INFO_MASTER, .ro, .any⟩, ⟨F.RGN_FAULT_INFO_KIND, .ro, .any⟩, ⟨F.RGN_FAULT_INFO_WRITE, .ro, .any⟩]⟩,
  ⟨0x120, 0x4, 8, [⟨F.RGN_FAULT_CNT 0, .w1cCnt, .any⟩, ⟨F.RGN_FAULT_CNT 1, .w1cCnt, .any⟩]⟩,
  ⟨0x400, 0x4, 256, [⟨F.RGN_MI_BASE, .rwl, .any⟩, ⟨F.RGN_MI_LIMIT, .rwl, .dep .rgnLimit⟩, ⟨F.RGN_MI_R, .rwl, .any⟩, ⟨F.RGN_MI_W, .rwl, .any⟩, ⟨F.RGN_MI_EN, .rwl, .dep .rgnEn⟩]⟩]

/-- Page RGN (spec/10). -/
def rgn : List Row := rgn1

def mrch1 : List Row := [
  ⟨0x100, 0x0, 1, [⟨F.MRCH_CMD_BANK, .rw, .any⟩, ⟨F.MRCH_CMD_MODE, .rw, .dep .mrchMode⟩, ⟨F.MRCH_CMD_FULL, .rw, .any⟩, ⟨F.MRCH_CMD_START, .wo, .dep .mrchStart⟩, ⟨F.MRCH_CMD_ABORT, .wo, .dep .mrchAbort⟩]⟩,
  ⟨0x104, 0x0, 1, [⟨F.MRCH_STAT_BUSY, .ro, .any⟩, ⟨F.MRCH_STAT_BANK, .ro, .any⟩, ⟨F.MRCH_STAT_RESULT, .ro, .any⟩, ⟨F.MRCH_STAT_ELEMENT, .ro, .any⟩, ⟨F.MRCH_STAT_SEGMENT, .ro, .any⟩]⟩,
  ⟨0x108, 0x0, 1, [⟨F.MRCH_FAIL_WORD, .ro, .any⟩]⟩,
  ⟨0x10c, 0x0, 1, [⟨F.MRCH_FAIL_BITS_BIT, .ro, .any⟩, ⟨F.MRCH_FAIL_BITS_COUNT, .ro, .any⟩, ⟨F.MRCH_FAIL_BITS_ELEMENT, .ro, .any⟩]⟩,
  ⟨0x110, 0x4, 2, [⟨F.MRCH_BOOT_REP, .ro, .any⟩]⟩,
  ⟨0x118, 0x4, 2, [⟨F.MRCH_BOOT_BAD, .ro, .any⟩]⟩,
  ⟨0x120, 0x0, 1, [⟨F.MRCH_RUNS, .w1cCnt, .any⟩]⟩]

/-- Page MRCH (spec/10). -/
def mrch : List Row := mrch1

def rpr1 : List Row := [
  ⟨0x100, 0x0, 1, [⟨F.RPR_CMD, .wo, .dep .rprBurn⟩]⟩,
  ⟨0x104, 0x0, 1, [⟨F.RPR_STAT_BURNING, .ro, .any⟩, ⟨F.RPR_STAT_VFUSE_OK, .ro, .any⟩, ⟨F.RPR_STAT_TJ_OK, .ro, .any⟩, ⟨F.RPR_STAT_INTERRUPTED, .ro, .any⟩, ⟨F.RPR_STAT_BURNED, .ro, .any⟩]⟩,
  ⟨0x108, 0x0, 1, [⟨F.RPR_SOFT_ADDED, .w1cCnt, .any⟩]⟩,
  ⟨0x10c, 0x4, 2, [⟨F.RPR_EXHAUSTED, .ro, .any⟩]⟩]

/-- Page RPR (spec/10). -/
def rpr : List Row := rpr1

def lbst1 : List Row := [
  ⟨0x100, 0x0, 1, [⟨F.LBST_CFG_EN, .rw, .any⟩, ⟨F.LBST_CFG_GAP_MAX, .rw, .range 1 12⟩, ⟨F.LBST_CFG_LINTEL_HOLD, .rwl, .any⟩, ⟨F.LBST_CFG_INVALID_N, .rw, .range 1 255⟩, ⟨F.LBST_CFG_LANE_GAP, .rw, .range 0 10000⟩]⟩,
  ⟨0x104, 0x0, 1, [⟨F.LBST_STAT_MODE, .ro, .any⟩, ⟨F.LBST_STAT_BOOT_RUN, .ro, .any⟩, ⟨F.LBST_STAT_BOOT_PASS, .ro, .any⟩, ⟨F.LBST_STAT_FAIL_ANY, .ro, .any⟩]⟩,
  ⟨0x108, 0x0, 1, [⟨F.LBST_MON_VDD_MV, .ro, .any⟩, ⟨F.LBST_MON_FREQ_ERR, .ro, .any⟩]⟩,
  ⟨0x10c, 0x0, 1, [⟨F.LBST_CMD_DOMAIN, .wo, .range 0 32⟩, ⟨F.LBST_CMD_RETEST, .wo, .dep .lbRetest⟩, ⟨F.LBST_CMD_RELEASE, .wo, .dep .lbRelease⟩]⟩,
  ⟨0x110, 0x0, 1, [⟨F.LBST_INVALID, .w1cCnt, .any⟩]⟩,
  ⟨0x114, 0x0, 1, [⟨F.LBST_FAILS, .w1cCnt, .any⟩]⟩,
  ⟨0x118, 0x0, 1, [⟨F.LBST_PASSES, .ro, .any⟩]⟩,
  ⟨0x11c, 0x0, 1, [⟨F.LBST_LAST_DOMAIN, .ro, .any⟩, ⟨F.LBST_LAST_RESULT, .ro, .any⟩, ⟨F.LBST_LAST_COURSE, .ro, .any⟩]⟩,
  ⟨0x200, 0x10, 33, [⟨F.LBST_D_CFG_EN, .rw, .dep .lbEn⟩, ⟨F.LBST_D_CFG_PERIOD, .rw, .any⟩]⟩,
  ⟨0x204, 0x10, 33, [⟨F.LBST_D_STAT_STATE, .ro, .any⟩, ⟨F.LBST_D_STAT_HELD, .ro, .any⟩, ⟨F.LBST_D_STAT_IN_SLICE, .ro, .any⟩, ⟨F.LBST_D_STAT_SLICE, .ro, .any⟩]⟩,
  ⟨0x208, 0x10, 33, [⟨F.LBST_D_CKPT_FAIL_AT, .ro, .any⟩, ⟨F.LBST_D_CKPT_INV_RUN, .ro, .any⟩]⟩,
  ⟨0x20c, 0x10, 33, [⟨F.LBST_D_RUNS_PASS, .w1cCnt, .any⟩, ⟨F.LBST_D_RUNS_FAIL, .w1cCnt, .any⟩]⟩]

/-- Page LBST (spec/11). -/
def lbst : List Row := lbst1

def ldc1 : List Row := [
  ⟨0x100, 0x0, 1, [⟨F.LDC_STAT, .ro, .any⟩]⟩,
  ⟨0x104, 0x0, 1, [⟨F.LDC_CMD_MISS, .w1cCnt, .any⟩]⟩,
  ⟨0x108, 0x0, 1, [⟨F.LDC_CMD_BAD, .w1cCnt, .any⟩]⟩,
  ⟨0x10c, 0x0, 1, [⟨F.LDC_CMD_TO, .w1cCnt, .any⟩]⟩,
  ⟨0x110, 0x0, 1, [⟨F.LDC_CHG_LO, .w1cBits, .any⟩]⟩,
  ⟨0x114, 0x0, 1, [⟨F.LDC_CHG_HI, .w1cBits, .any⟩]⟩,
  ⟨0x118, 0x0, 1, [⟨F.LDC_COURSE, .ro, .any⟩]⟩]

/-- Page LDC (spec/12). -/
def ldc : List Row := ldc1

def lds1 : List Row := [
  ⟨0x200, 0x80, 12, [⟨F.LDS_CFG_KIND, .rw, .dep .ldsKind⟩, ⟨F.LDS_CFG_STRINGS, .rw, .any⟩, ⟨F.LDS_CFG_SRC, .rw, .any⟩, ⟨F.LDS_CFG_SAFE, .rwl, .any⟩, ⟨F.LDS_CFG_POL, .rwl, .any⟩, ⟨F.LDS_CFG_PROOF_EN, .rw, .any⟩, ⟨F.LDS_CFG_SHORT_OFF, .rw, .any⟩, ⟨F.LDS_CFG_FAULT_N, .rw, .range 1 15⟩, ⟨F.LDS_CFG_TO_ACT, .rw, .enum 2⟩, ⟨F.LDS_CFG_CMD_TO, .rw, .any⟩]⟩,
  ⟨0x204, 0x80, 12, [⟨F.LDS_SRC_SLOT, .rw, .range 16 1023⟩, ⟨F.LDS_SRC_WORD, .rw, .range 0 747⟩]⟩,
  ⟨0x208, 0x80, 12, [⟨F.LDS_CMD_MODE, .rw, .dep .ldsMode⟩, ⟨F.LDS_CMD_DUTY, .rw, .range 0 1000⟩, ⟨F.LDS_CMD_RESET, .rw, .any⟩, ⟨F.LDS_CMD_PROOF, .rw, .any⟩]⟩,
  ⟨0x20c, 0x80, 12, [⟨F.LDS_PWM_PWM_US, .rw, .range 1000 10000⟩, ⟨F.LDS_PWM_BLANK_US, .rw, .range 0 200⟩]⟩,
  ⟨0x210, 0x80, 12, [⟨F.LDS_FLASH_PERIOD_MS, .rw, .range 500 2000⟩, ⟨F.LDS_FLASH_ON_PCT, .rw, .range 10 90⟩]⟩,
  ⟨0x214, 0x80, 12, [⟨F.LDS_PROOF_T_US, .rw, .dep .proofT⟩, ⟨F.LDS_PROOF_PER_MS, .rw, .range 100 5000⟩]⟩,
  ⟨0x218, 0x80, 12, [⟨F.LDS_TIME_PROOF_AGE, .rw, .dep .proofAge⟩, ⟨F.LDS_TIME_SETTLE_MS, .rw, .range 0 2000⟩]⟩,
  ⟨0x21c, 0x80, 12, [⟨F.LDS_CYCLE_CYC_S, .rw, .range 10 3600⟩, ⟨F.LDS_CYCLE_DWELL_S, .rw, .range 0 600⟩]⟩,
  ⟨0x220, 0x80, 12, [⟨F.LDS_RETRY_RETRY_MS, .rw, .range 100 60000⟩, ⟨F.LDS_RETRY_RETRY_N, .rw, .any⟩, ⟨F.LDS_RETRY_CLR_S, .rw, .range 1 3600⟩]⟩,
  ⟨0x224, 0x80, 12, [⟨F.LDS_WIN_TRIP_MS, .rw, .range 1 10000⟩, ⟨F.LDS_WIN_CYCLES, .rw, .range 1 50⟩]⟩,
  ⟨0x228, 0x80, 12, [⟨F.LDS_I_OPEN, .rw, .dep .iOpen⟩]⟩,
  ⟨0x22c, 0x80, 12, [⟨F.LDS_I_OVER, .rw, .dep .iOver⟩]⟩,
  ⟨0x230, 0x80, 12, [⟨F.LDS_I_SHORT, .rw, .dep .iShort⟩]⟩,
  ⟨0x234, 0x80, 12, [⟨F.LDS_V_LIM_V_MIN, .rw, .any⟩, ⟨F.LDS_V_LIM_V_MAX, .rw, .dep .vMax⟩]⟩,
  ⟨0x238, 0x80, 12, [⟨F.LDS_NOM, .rw, .any⟩]⟩,
  ⟨0x23c, 0x80, 12, [⟨F.LDS_UNDER, .rw, .range 5 90⟩]⟩,
  ⟨0x240, 0x80, 12, [⟨F.LDS_STAT_STATUS, .ro, .any⟩, ⟨F.LDS_STAT_PENDING, .ro, .any⟩, ⟨F.LDS_STAT_COUNT, .ro, .any⟩, ⟨F.LDS_STAT_STRINGS_FAILED, .ro, .any⟩, ⟨F.LDS_STAT_GATE, .ro, .any⟩, ⟨F.LDS_STAT_SAFE_HELD, .ro, .any⟩, ⟨F.LDS_STAT_LEARNING, .ro, .any⟩, ⟨F.LDS_STAT_LEARN_FAIL, .ro, .any⟩, ⟨F.LDS_STAT_DEFERRED, .ro, .any⟩, ⟨F.LDS_STAT_OVERRANGE, .ro, .any⟩, ⟨F.LDS_STAT_NO_MAINS, .ro, .any⟩, ⟨F.LDS_STAT_TIMEOUT, .ro, .any⟩, ⟨F.LDS_STAT_RETRIES, .ro, .any⟩]⟩,
  ⟨0x244, 0x80, 12, [⟨F.LDS_FAULT, .w1cBits, .any⟩]⟩,
  ⟨0x248, 0x80, 12, [⟨F.LDS_I_LAST, .ro, .any⟩]⟩,
  ⟨0x24c, 0x80, 12, [⟨F.LDS_V_LAST, .ro, .any⟩]⟩,
  ⟨0x250, 0x80, 12, [⟨F.LDS_P_LAST, .ro, .any⟩]⟩,
  ⟨0x254, 0x80, 12, [⟨F.LDS_CMD_NOW_CMD, .ro, .any⟩, ⟨F.LDS_CMD_NOW_FROM, .ro, .any⟩]⟩,
  ⟨0x258, 0x80, 12, [⟨F.LDS_CTRL_LEARN, .wo, .dep .learn⟩, ⟨F.LDS_CTRL_CLR_LOCK, .wo, .dep .clrLock⟩]⟩,
  ⟨0x25c, 0x80, 12, [⟨F.LDS_EVENTS_COUNT, .w1cCnt, .any⟩, ⟨F.LDS_EVENTS_PROOFS, .w1cCnt, .any⟩]⟩]

/-- Page LDS (spec/12). -/
def lds : List Row := lds1

def adc1 : List Row := [
  ⟨0x100, 0x4, 6, [⟨F.ADC_RATE 0, .rw, .enum 4⟩, ⟨F.ADC_RATE 1, .rw, .enum 4⟩, ⟨F.ADC_RATE 2, .rw, .enum 4⟩, ⟨F.ADC_RATE 3, .rw, .enum 4⟩, ⟨F.ADC_RATE 4, .rw, .enum 4⟩, ⟨F.ADC_RATE 5, .rw, .enum 4⟩, ⟨F.ADC_RATE 6, .rw, .enum 4⟩, ⟨F.ADC_RATE 7, .rw, .enum 4⟩]⟩,
  ⟨0x118, 0x0, 1, [⟨F.ADC_CMD_PAIR, .wo, .range 0 47⟩, ⟨F.ADC_CMD_AUTOZERO, .wo, .any⟩]⟩,
  ⟨0x11c, 0x0, 1, [⟨F.ADC_OVR, .w1cCnt, .any⟩]⟩,
  ⟨0x200, 0x8, 96, [⟨F.ADC_SCALE, .rw, .any⟩]⟩,
  ⟨0x204, 0x8, 96, [⟨F.ADC_IN_OFS, .rw, .any⟩, ⟨F.ADC_IN_LAST, .ro, .any⟩]⟩]

/-- Page ADC (spec/12). -/
def adc : List Row := adc1

def mtr1 : List Row := [
  ⟨0x100, 0x0, 1, [⟨F.MTR_CFG_PERIOD, .rw, .enum 5⟩, ⟨F.MTR_CFG_EN, .rw, .dep .mtrEn⟩]⟩,
  ⟨0x104, 0x0, 1, [⟨F.MTR_STAT_PERIOD, .ro, .any⟩, ⟨F.MTR_STAT_CHANGE_PENDING, .ro, .any⟩, ⟨F.MTR_STAT_RUNNING, .ro, .any⟩]⟩,
  ⟨0x108, 0x0, 1, [⟨F.MTR_EN_LO, .rw, .any⟩]⟩,
  ⟨0x10c, 0x0, 1, [⟨F.MTR_EN_HI, .rw, .any⟩]⟩,
  ⟨0x110, 0x0, 1, [⟨F.MTR_NOM_LO, .ro, .any⟩]⟩,
  ⟨0x114, 0x0, 1, [⟨F.MTR_NOM_HI, .ro, .any⟩]⟩,
  ⟨0x118, 0x0, 1, [⟨F.MTR_ACT_LO, .ro, .any⟩]⟩,
  ⟨0x11c, 0x0, 1, [⟨F.MTR_ACT_HI, .ro, .any⟩]⟩,
  ⟨0x120, 0x0, 1, [⟨F.MTR_FLAGS, .ro, .any⟩]⟩,
  ⟨0x124, 0x0, 1, [⟨F.MTR_FLOOR, .w1cCnt, .any⟩]⟩,
  ⟨0x128, 0x0, 1, [⟨F.MTR_EDGES, .ro, .any⟩]⟩,
  ⟨0x200, 0x20, 48, [⟨F.MTR_CNT_LO, .ro, .any⟩]⟩,
  ⟨0x204, 0x20, 48, [⟨F.MTR_CNT_HI, .ro, .any⟩]⟩,
  ⟨0x208, 0x20, 48, [⟨F.MTR_PER_LO, .ro, .any⟩]⟩,
  ⟨0x20c, 0x20, 48, [⟨F.MTR_PER_HI, .ro, .any⟩]⟩,
  ⟨0x210, 0x20, 48, [⟨F.MTR_COV, .ro, .any⟩]⟩,
  ⟨0x214, 0x20, 48, [⟨F.MTR_CH_FLAGS, .ro, .any⟩]⟩]

/-- Page MTR (spec/13). -/
def mtr : List Row := mtr1

def taly1 : List Row := [
  ⟨0x100, 0x0, 1, [⟨F.TALY_Q_BASE, .rw, .dep .talyBase⟩]⟩,
  ⟨0x104, 0x0, 1, [⟨F.TALY_Q_SIZE, .rw, .dep .talySize⟩]⟩,
  ⟨0x108, 0x0, 1, [⟨F.TALY_WR_IDX, .ro, .any⟩]⟩,
  ⟨0x10c, 0x0, 1, [⟨F.TALY_VLT_IDX, .ro, .any⟩]⟩,
  ⟨0x110, 0x0, 1, [⟨F.TALY_ACK, .rw, .dep .talyAck⟩]⟩,
  ⟨0x114, 0x0, 1, [⟨F.TALY_Q_OLD, .ro, .any⟩]⟩,
  ⟨0x118, 0x0, 1, [⟨F.TALY_SEQ, .ro, .any⟩]⟩,
  ⟨0x11c, 0x0, 1, [⟨F.TALY_STAT_VAULT_RO, .ro, .any⟩, ⟨F.TALY_STAT_VAULT_FULL, .ro, .any⟩, ⟨F.TALY_STAT_Q_FULL, .ro, .any⟩, ⟨F.TALY_STAT_SAVING, .ro, .any⟩, ⟨F.TALY_STAT_SNAP_SRC, .ro, .any⟩]⟩,
  ⟨0x120, 0x0, 1, [⟨F.TALY_HELD, .w1cCnt, .any⟩]⟩,
  ⟨0x124, 0x0, 1, [⟨F.TALY_MERGED, .w1cCnt, .any⟩]⟩,
  ⟨0x128, 0x0, 1, [⟨F.TALY_SAVES, .ro, .any⟩]⟩,
  ⟨0x12c, 0x0, 1, [⟨F.TALY_SAVE_US, .ro, .any⟩]⟩]

/-- Page TALY (spec/13). -/
def taly : List Row := taly1

def rtc1 : List Row := [
  ⟨0x100, 0x0, 1, [⟨F.RTC_NOW_SUB, .ro, .any⟩]⟩,
  ⟨0x104, 0x0, 1, [⟨F.RTC_NOW_SEC_LO, .ro, .any⟩]⟩,
  ⟨0x108, 0x0, 1, [⟨F.RTC_NOW_SEC_HI, .ro, .any⟩]⟩,
  ⟨0x10c, 0x0, 1, [⟨F.RTC_CAL_DATE_YEAR_OFS, .ro, .any⟩, ⟨F.RTC_CAL_DATE_MONTH, .ro, .any⟩, ⟨F.RTC_CAL_DATE_DAY, .ro, .any⟩, ⟨F.RTC_CAL_DATE_WEEKDAY, .ro, .any⟩]⟩,
  ⟨0x110, 0x0, 1, [⟨F.RTC_CAL_TIME_SEC, .ro, .any⟩, ⟨F.RTC_CAL_TIME_MIN, .ro, .any⟩, ⟨F.RTC_CAL_TIME_HOUR, .ro, .any⟩]⟩,
  ⟨0x114, 0x0, 1, [⟨F.RTC_STAT_TIME_VALID, .ro, .any⟩, ⟨F.RTC_STAT_TIME_LOST, .w1cBits, .any⟩, ⟨F.RTC_STAT_CAL_END, .ro, .any⟩, ⟨F.RTC_STAT_STG_CLAMPED, .ro, .any⟩, ⟨F.RTC_STAT_PENDING, .ro, .any⟩, ⟨F.RTC_STAT_REFUSED, .w1cBits, .any⟩, ⟨F.RTC_STAT_ALARM_FIRED, .w1cBits, .any⟩, ⟨F.RTC_STAT_FORCED, .ro, .any⟩, ⟨F.RTC_STAT_SEC_END, .ro, .any⟩]⟩,
  ⟨0x118, 0x0, 1, [⟨F.RTC_STG_DATE_YEAR_OFS, .rw, .range 0 199⟩, ⟨F.RTC_STG_DATE_MONTH, .rw, .range 1 12⟩, ⟨F.RTC_STG_DATE_DAY, .rw, .dep .rtcDay⟩]⟩,
  ⟨0x11c, 0x0, 1, [⟨F.RTC_STG_TIME_SEC, .rw, .range 0 59⟩, ⟨F.RTC_STG_TIME_MIN, .rw, .range 0 59⟩, ⟨F.RTC_STG_TIME_HOUR, .rw, .range 0 23⟩]⟩,
  ⟨0x120, 0x0, 1, [⟨F.RTC_STG_SUB, .rw, .any⟩]⟩,
  ⟨0x124, 0x0, 1, [⟨F.RTC_STG_SEC_LO, .rw, .any⟩]⟩,
  ⟨0x128, 0x0, 1, [⟨F.RTC_STG_SEC_HI, .rw, .any⟩]⟩,
  ⟨0x12c, 0x0, 1, [⟨F.RTC_SET_FORCE, .wo, .any⟩, ⟨F.RTC_SET_FORM, .wo, .any⟩, ⟨F.RTC_SET_AT_COURSE, .wo, .any⟩, ⟨F.RTC_SET_DISCARD, .wo, .any⟩, ⟨F.RTC_SET_CAPTURE, .wo, .dep .rtcCapture⟩, ⟨F.RTC_SET_COMMIT, .wo, .dep .rtcCommit⟩]⟩,
  ⟨0x130, 0x0, 1, [⟨F.RTC_SET_COURSE, .rw, .dep .rtcSetCourse⟩]⟩,
  ⟨0x134, 0x0, 1, [⟨F.RTC_ALARM_LO, .rw, .any⟩]⟩,
  ⟨0x138, 0x0, 1, [⟨F.RTC_ALARM_HI_SEC, .rw, .any⟩, ⟨F.RTC_ALARM_HI_ARMED, .rw, .dep .alarmArmed⟩]⟩,
  ⟨0x13c, 0x0, 1, [⟨F.RTC_CAL, .rw, .srange (-127) 127⟩]⟩,
  ⟨0x140, 0x0, 1, [⟨F.RTC_LAST_OLD_LO, .ro, .any⟩]⟩,
  ⟨0x144, 0x0, 1, [⟨F.RTC_LAST_OLD_HI, .ro, .any⟩]⟩,
  ⟨0x148, 0x0, 1, [⟨F.RTC_SETS, .w1cCnt, .any⟩]⟩]

/-- Page RTC (spec/14). -/
def rtc : List Row := rtc1

def bkp1 : List Row := [
  ⟨0x100, 0x0, 1, [⟨F.BKP_CFG_WARN, .rw, .range 0 10⟩, ⟨F.BKP_CFG_MEAS_EN, .rw, .any⟩]⟩,
  ⟨0x104, 0x0, 1, [⟨F.BKP_STAT_MAIN_VALID, .ro, .any⟩, ⟨F.BKP_STAT_VBAT_LOW, .ro, .any⟩, ⟨F.BKP_STAT_VBAT_ABSENT, .ro, .any⟩, ⟨F.BKP_STAT_INTACT, .ro, .any⟩, ⟨F.BKP_STAT_CAUSE_CANARY, .ro, .any⟩, ⟨F.BKP_STAT_CAUSE_BROWN, .ro, .any⟩, ⟨F.BKP_STAT_CAUSE_OSC, .ro, .any⟩]⟩,
  ⟨0x108, 0x0, 1, [⟨F.BKP_VBAT, .ro, .any⟩]⟩,
  ⟨0x10c, 0x0, 1, [⟨F.BKP_VAO, .ro, .any⟩]⟩,
  ⟨0x110, 0x0, 1, [⟨F.BKP_MAIN_LOSS, .w1cCnt, .any⟩]⟩,
  ⟨0x114, 0x0, 1, [⟨F.BKP_LOSS_AT_LO, .ro, .any⟩]⟩,
  ⟨0x118, 0x0, 1, [⟨F.BKP_LOSS_AT_HI, .ro, .any⟩]⟩,
  ⟨0x11c, 0x0, 1, [⟨F.BKP_CANARY, .ro, .any⟩]⟩]

/-- Page BKP (spec/14). -/
def bkp : List Row := bkp1

def mark1 : List Row := [
  ⟨0x100, 0x0, 1, [⟨F.MARK_CFG_FIRST_SIZE, .rw, .range 1 8⟩, ⟨F.MARK_CFG_MIRROR_EN, .rw, .any⟩, ⟨F.MARK_CFG_RATE, .rw, .range 1 255⟩]⟩,
  ⟨0x104, 0x0, 1, [⟨F.MARK_STAT_FIRST_FULL, .ro, .any⟩, ⟨F.MARK_STAT_QUARRY_DOWN, .ro, .any⟩, ⟨F.MARK_STAT_FIRST_ONLY, .ro, .any⟩, ⟨F.MARK_STAT_SEQ_END, .ro, .any⟩, ⟨F.MARK_STAT_CFG_PENDING, .ro, .any⟩, ⟨F.MARK_STAT_GEN, .ro, .any⟩]⟩,
  ⟨0x108, 0x0, 1, [⟨F.MARK_NEXT_SEQ, .ro, .any⟩]⟩,
  ⟨0x10c, 0x0, 1, [⟨F.MARK_FIRST_HEAD, .ro, .any⟩]⟩,
  ⟨0x110, 0x0, 1, [⟨F.MARK_RECENT_HEAD, .ro, .any⟩]⟩,
  ⟨0x114, 0x0, 1, [⟨F.MARK_RECENT_TAIL, .ro, .any⟩]⟩,
  ⟨0x118, 0x0, 1, [⟨F.MARK_CLEAR_KEY, .wo, .key 0xC1EA⟩, ⟨F.MARK_CLEAR_PART, .wo, .enumFrom1 3⟩]⟩,
  ⟨0x11c, 0x0, 1, [⟨F.MARK_DROPPED, .w1cCnt, .any⟩]⟩,
  ⟨0x120, 0x0, 1, [⟨F.MARK_SUPPRESSED, .w1cCnt, .any⟩]⟩,
  ⟨0x124, 0x0, 1, [⟨F.MARK_MIRROR_LOST, .w1cCnt, .any⟩]⟩,
  ⟨0x128, 0x0, 1, [⟨F.MARK_VLT_HEAD, .ro, .any⟩]⟩,
  ⟨0x12c, 0x0, 1, [⟨F.MARK_WRAPS, .ro, .any⟩]⟩,
  ⟨0x130, 0x0, 1, [⟨F.MARK_HOST_CMD_TYPE, .wo, .range 2048 4095⟩, ⟨F.MARK_HOST_CMD_LEN, .wo, .even 24⟩]⟩,
  ⟨0x140, 0x4, 6, [⟨F.MARK_HOST_D, .rw, .any⟩]⟩]

/-- Page MARK (spec/15). -/
def mark : List Row := mark1

def vlt1 : List Row := [
  ⟨0x100, 0x0, 1, [⟨F.VLT_STAT_BUSY, .ro, .any⟩, ⟨F.VLT_STAT_OP, .ro, .any⟩, ⟨F.VLT_STAT_WEAR_WARN, .ro, .any⟩, ⟨F.VLT_STAT_EXHAUSTED, .ro, .any⟩, ⟨F.VLT_STAT_MAP_LOST, .ro, .any⟩, ⟨F.VLT_STAT_HOST_BUSY, .ro, .any⟩, ⟨F.VLT_STAT_SPARES_LEFT, .ro, .any⟩]⟩,
  ⟨0x104, 0x0, 1, [⟨F.VLT_CMD_OP, .rw, .enum 2⟩, ⟨F.VLT_CMD_START, .wo, .dep .vltStart⟩, ⟨F.VLT_CMD_ABORT, .wo, .dep .vltAbort⟩]⟩,
  ⟨0x108, 0x0, 1, [⟨F.VLT_ADDR, .rw, .any⟩]⟩,
  ⟨0x10c, 0x0, 1, [⟨F.VLT_SRC, .rw, .any⟩]⟩,
  ⟨0x110, 0x0, 1, [⟨F.VLT_LEN, .rw, .dep .vltLen⟩]⟩,
  ⟨0x114, 0x0, 1, [⟨F.VLT_BOOT_KEY, .wo, .key 0xB007⟩]⟩,
  ⟨0x118, 0x0, 1, [⟨F.VLT_RESULT, .ro, .any⟩]⟩,
  ⟨0x11c, 0x0, 1, [⟨F.VLT_BOOT_A_VALID, .ro, .any⟩, ⟨F.VLT_BOOT_B_VALID, .ro, .any⟩, ⟨F.VLT_BOOT_A_VER, .ro, .any⟩]⟩,
  ⟨0x120, 0x0, 1, [⟨F.VLT_PROG_SLOW, .w1cCnt, .any⟩]⟩,
  ⟨0x124, 0x0, 1, [⟨F.VLT_RETIRED, .ro, .any⟩]⟩,
  ⟨0x128, 0x0, 1, [⟨F.VLT_RD_CE, .w1cCnt, .any⟩]⟩,
  ⟨0x12c, 0x0, 1, [⟨F.VLT_RD_UE, .w1cCnt, .any⟩]⟩,
  ⟨0x130, 0x0, 1, [⟨F.VLT_HOT_ERASE, .w1cCnt, .any⟩]⟩,
  ⟨0x134, 0x0, 1, [⟨F.VLT_ERR_ADDR, .ro, .any⟩]⟩,
  ⟨0x138, 0x0, 1, [⟨F.VLT_MAX_WEAR, .ro, .any⟩]⟩,
  ⟨0x140, 0x0, 1, [⟨F.VLT_WEAR_SEL, .rw, .any⟩]⟩,
  ⟨0x144, 0x0, 1, [⟨F.VLT_WEAR_COUNT, .ro, .any⟩, ⟨F.VLT_WEAR_STATE, .ro, .any⟩, ⟨F.VLT_WEAR_PROG_SLOW, .ro, .any⟩, ⟨F.VLT_WEAR_OVER_LIMIT, .ro, .any⟩, ⟨F.VLT_WEAR_ERASE_INCOMPLETE, .ro, .any⟩]⟩,
  ⟨0x148, 0x0, 1, [⟨F.VLT_MAP, .ro, .any⟩]⟩]

/-- Page VLT (spec/16). -/
def vlt : List Row := vlt1

def dump1 : List Row := [
  ⟨0x100, 0x0, 1, [⟨F.DUMP_GO, .wo, .dep .dumpGo⟩]⟩,
  ⟨0x104, 0x0, 1, [⟨F.DUMP_CFG_DUMP_AUTO, .rwl, .any⟩, ⟨F.DUMP_CFG_VLT_EN, .rw, .any⟩, ⟨F.DUMP_CFG_CTX_EN, .rw, .any⟩]⟩,
  ⟨0x108, 0x0, 1, [⟨F.DUMP_STAT_STATE, .ro, .any⟩, ⟨F.DUMP_STAT_VALID, .ro, .any⟩, ⟨F.DUMP_STAT_DIRECT, .ro, .any⟩, ⟨F.DUMP_STAT_TRUNCATED, .ro, .any⟩, ⟨F.DUMP_STAT_FORCED, .ro, .any⟩, ⟨F.DUMP_STAT_UE, .ro, .any⟩, ⟨F.DUMP_STAT_AUTO, .ro, .any⟩, ⟨F.DUMP_STAT_VLT_DONE, .ro, .any⟩, ⟨F.DUMP_STAT_VLT_FAIL, .ro, .any⟩, ⟨F.DUMP_STAT_SLOT, .ro, .any⟩, ⟨F.DUMP_STAT_LEN_KIB, .ro, .any⟩]⟩,
  ⟨0x10c, 0x0, 1, [⟨F.DUMP_LEN, .ro, .any⟩]⟩,
  ⟨0x110, 0x0, 1, [⟨F.DUMP_SEQ, .ro, .any⟩]⟩,
  ⟨0x114, 0x0, 1, [⟨F.DUMP_TIME_US, .ro, .any⟩]⟩,
  ⟨0x118, 0x0, 1, [⟨F.DUMP_CMD_CLEAR, .wo, .dep .dumpClear⟩, ⟨F.DUMP_CMD_VLT_CLEAR, .wo, .dep .dumpIdle⟩]⟩,
  ⟨0x120, 0x4, 4, [⟨F.DUMP_SLOT, .ro, .any⟩]⟩,
  ⟨0x130, 0x0, 1, [⟨F.DUMP_COUNT, .ro, .any⟩]⟩]

/-- Page DUMP (spec/20). -/
def dump : List Row := dump1

def fuse1 : List Row := [
  ⟨0x100, 0x0, 1, [⟨F.FUSE_STAT_LOADED, .ro, .any⟩, ⟨F.FUSE_STAT_LOAD_ERR, .ro, .any⟩, ⟨F.FUSE_STAT_BURNING, .ro, .any⟩, ⟨F.FUSE_STAT_VFUSE_OK, .ro, .any⟩, ⟨F.FUSE_STAT_TJ_OK, .ro, .any⟩]⟩,
  ⟨0x104, 0x0, 1, [⟨F.FUSE_VFUSE, .ro, .any⟩]⟩,
  ⟨0x108, 0x0, 1, [⟨F.FUSE_TJ, .ro, .any⟩]⟩,
  ⟨0x10c, 0x0, 1, [⟨F.FUSE_LANES, .ro, .any⟩]⟩,
  ⟨0x110, 0x0, 1, [⟨F.FUSE_REPAIR, .ro, .any⟩]⟩]

/-- Page FUSE (spec/16). -/
def fuse : List Row := fuse1

def leth1 : List Row := [
  ⟨0x200, 0x40, 8, [⟨F.LETH_P_CFG_EN, .rw, .any⟩, ⟨F.LETH_P_CFG_AN_EN, .rw, .any⟩, ⟨F.LETH_P_CFG_RX_PAUSE, .rw, .any⟩, ⟨F.LETH_P_CFG_PROMISC, .rw, .any⟩]⟩,
  ⟨0x204, 0x40, 8, [⟨F.LETH_P_STAT_UP, .ro, .any⟩, ⟨F.LETH_P_STAT_SYNC, .ro, .any⟩, ⟨F.LETH_P_STAT_AN_DONE, .ro, .any⟩, ⟨F.LETH_P_STAT_LOS, .ro, .any⟩]⟩,
  ⟨0x208, 0x40, 8, [⟨F.LETH_P_MAC_LO, .rw, .any⟩]⟩,
  ⟨0x20c, 0x40, 8, [⟨F.LETH_P_MAC_HI, .rw, .any⟩]⟩,
  ⟨0x210, 0x40, 8, [⟨F.LETH_P_LAT_RX, .rw, .range 0 2000⟩, ⟨F.LETH_P_LAT_TX, .rw, .range 0 2000⟩]⟩,
  ⟨0x214, 0x40, 8, [⟨F.LETH_P_RX_OK, .ro, .any⟩]⟩,
  ⟨0x218, 0x40, 8, [⟨F.LETH_P_TX_OK, .ro, .any⟩]⟩,
  ⟨0x21c, 0x40, 8, [⟨F.LETH_P_RX_BAD, .w1cCnt, .any⟩]⟩,
  ⟨0x220, 0x40, 8, [⟨F.LETH_P_RX_NOQ, .w1cCnt, .any⟩]⟩,
  ⟨0x224, 0x40, 8, [⟨F.LETH_P_RX_FULL, .w1cCnt, .any⟩]⟩,
  ⟨0x228, 0x40, 8, [⟨F.LETH_P_TX_DROP, .w1cCnt, .any⟩]⟩,
  ⟨0x22c, 0x40, 8, [⟨F.LETH_P_RX_NOCTX, .w1cCnt, .any⟩]⟩,
  ⟨0x230, 0x40, 8, [⟨F.LETH_P_RX_PWR, .w1cCnt, .any⟩]⟩,
  ⟨0x234, 0x40, 8, [⟨F.LETH_P_PAUSE_RX, .w1cCnt, .any⟩]⟩,
  ⟨0x600, 0x10, 16, [⟨F.LETH_MAP_CFG_EN, .rw, .any⟩, ⟨F.LETH_MAP_CFG_DIR, .rw, .any⟩, ⟨F.LETH_MAP_CFG_PORT, .rw, .any⟩, ⟨F.LETH_MAP_CFG_COPY, .rw, .any⟩, ⟨F.LETH_MAP_CFG_STRIP, .rw, .any⟩, ⟨F.LETH_MAP_CFG_TAG, .rw, .any⟩, ⟨F.LETH_MAP_CFG_TXCLASS, .rw, .any⟩, ⟨F.LETH_MAP_CFG_DEPTH, .rw, .range 1 63⟩]⟩,
  ⟨0x604, 0x10, 16, [⟨F.LETH_MAP_MATCH_ETYPE, .rw, .any⟩, ⟨F.LETH_MAP_MATCH_VID, .rw, .range 0 4094⟩, ⟨F.LETH_MAP_MATCH_ETYPE_ANY, .rw, .any⟩, ⟨F.LETH_MAP_MATCH_VID_ANY, .rw, .any⟩]⟩,
  ⟨0x608, 0x10, 16, [⟨F.LETH_MAP_STREAM_STREAM, .rw, .any⟩, ⟨F.LETH_MAP_STREAM_POS, .rw, .any⟩, ⟨F.LETH_MAP_STREAM_PCP, .rw, .any⟩]⟩,
  ⟨0x60c, 0x10, 16, [⟨F.LETH_MAP_DROP_DROP, .w1cCnt, .any⟩, ⟨F.LETH_MAP_DROP_BAD, .w1cCnt, .any⟩]⟩]

/-- Page LETH (spec/08). -/
def leth : List Row := leth1

def lcan1 : List Row := [
  ⟨0x200, 0x40, 4, [⟨F.LC_P_CFG_EN, .rw, .any⟩, ⟨F.LC_P_CFG_MONITOR, .rw, .any⟩, ⟨F.LC_P_CFG_FD_EN, .rw, .any⟩, ⟨F.LC_P_CFG_AUTO_REC, .rw, .any⟩, ⟨F.LC_P_CFG_TDC_EN, .rw, .any⟩]⟩,
  ⟨0x204, 0x40, 4, [⟨F.LC_P_NBT_PRESC, .rw, .any⟩, ⟨F.LC_P_NBT_SEG1, .rw, .dep .nbtSeg1⟩, ⟨F.LC_P_NBT_SEG2, .rw, .range 1 127⟩, ⟨F.LC_P_NBT_SJW, .rw, .dep .nbtSjw⟩]⟩,
  ⟨0x208, 0x40, 4, [⟨F.LC_P_DBT_PRESC, .rw, .any⟩, ⟨F.LC_P_DBT_SEG1, .rw, .dep .dbtSeg1⟩, ⟨F.LC_P_DBT_SEG2, .rw, .any⟩, ⟨F.LC_P_DBT_SJW, .rw, .dep .dbtSjw⟩]⟩,
  ⟨0x20c, 0x40, 4, [⟨F.LC_P_TDC, .rw, .any⟩]⟩,
  ⟨0x210, 0x40, 4, [⟨F.LC_P_STAT_STATE, .ro, .any⟩, ⟨F.LC_P_STAT_TEC, .ro, .any⟩, ⟨F.LC_P_STAT_REC, .ro, .any⟩]⟩,
  ⟨0x214, 0x40, 4, [⟨F.LC_P_CMD, .wo, .dep .canRecover⟩]⟩,
  ⟨0x218, 0x40, 4, [⟨F.LC_P_RX_OK, .ro, .any⟩]⟩,
  ⟨0x21c, 0x40, 4, [⟨F.LC_P_TX_OK, .ro, .any⟩]⟩,
  ⟨0x220, 0x40, 4, [⟨F.LC_P_ERR, .w1cCnt, .any⟩]⟩,
  ⟨0x224, 0x40, 4, [⟨F.LC_P_BUSOFF, .w1cCnt, .any⟩]⟩,
  ⟨0x228, 0x40, 4, [⟨F.LC_P_RX_NOQ, .w1cCnt, .any⟩]⟩,
  ⟨0x22c, 0x40, 4, [⟨F.LC_P_RX_FULL, .w1cCnt, .any⟩]⟩,
  ⟨0x230, 0x40, 4, [⟨F.LC_P_TX_DROP, .w1cCnt, .any⟩]⟩,
  ⟨0x234, 0x40, 4, [⟨F.LC_P_RX_NOCTX, .w1cCnt, .any⟩]⟩,
  ⟨0x238, 0x40, 4, [⟨F.LC_P_RX_PWR, .w1cCnt, .any⟩]⟩,
  ⟨0x600, 0x10, 16, [⟨F.LC_MAP_CFG_EN, .rw, .any⟩, ⟨F.LC_MAP_CFG_DIR, .rw, .any⟩, ⟨F.LC_MAP_CFG_PORT, .rw, .any⟩, ⟨F.LC_MAP_CFG_COPY, .rw, .any⟩, ⟨F.LC_MAP_CFG_BUNDLE_MAX, .rw, .range 1 64⟩, ⟨F.LC_MAP_CFG_DEPTH, .rw, .range 1 63⟩]⟩,
  ⟨0x604, 0x10, 16, [⟨F.LC_MAP_ID_ID, .rw, .any⟩, ⟨F.LC_MAP_ID_IDE, .rw, .any⟩]⟩,
  ⟨0x608, 0x10, 16, [⟨F.LC_MAP_MASK, .rw, .any⟩]⟩,
  ⟨0x60c, 0x10, 16, [⟨F.LC_MAP_STREAM_STREAM, .rw, .any⟩, ⟨F.LC_MAP_STREAM_POS, .rw, .any⟩]⟩,
  ⟨0x700, 0x4, 16, [⟨F.LC_MAP_DROP_DROP, .w1cCnt, .any⟩, ⟨F.LC_MAP_DROP_BAD, .w1cCnt, .any⟩]⟩]

/-- Page LCAN (spec/08). -/
def lcan : List Row := lcan1

/-- A row entry of page RPR. -/
def rprRow : Row := ⟨0x200, 4, 768, [⟨F.RPR_ROW_ROW, .rw, .dep .rprKept⟩, ⟨F.RPR_ROW_VALID, .rw, .dep .rprValid⟩, ⟨F.RPR_ROW_FUSED, .ro, .any⟩, ⟨F.RPR_ROW_SPARE_BAD, .ro, .any⟩]⟩

/-- A column entry of page RPR. -/
def rprCol : Row := ⟨0x200, 4, 768, [⟨F.RPR_COL_COL, .rw, .dep .rprKept⟩, ⟨F.RPR_COL_SLICE, .rw, .dep .rprSlice⟩, ⟨F.RPR_COL_VALID, .rw, .dep .rprValid⟩, ⟨F.RPR_COL_FUSED, .ro, .any⟩, ⟨F.RPR_COL_SPARE_BAD, .ro, .any⟩]⟩

end Tab

/-- The registers of page `p` above its header (the page directory of R45). -/
def pageRows (p : Nat) : List Row :=
  if 0x08 ≤ p ∧ p ≤ 0x0F then Tab.spk else if 0x29 ≤ p ∧ p ≤ 0x2C then Tab.lds else
  match p with
  | 0x00 => Tab.top
  | 0x01 => Tab.clmp
  | 0x02 => Tab.isl
  | 0x03 => Tab.pwr
  | 0x04 => Tab.wake
  | 0x05 => Tab.host
  | 0x06 => Tab.irq
  | 0x10 => Tab.line
  | 0x11 => Tab.seto
  | 0x12 => Tab.schd
  | 0x13 => Tab.grd
  | 0x14 => Tab.hub
  | 0x15 => Tab.adm
  | 0x18 => Tab.trw
  | 0x19 => Tab.trwq
  | 0x1a => Tab.lane
  | 0x1c => Tab.twin
  | 0x1d => Tab.tie
  | 0x1e => Tab.plmb
  | 0x20 => Tab.qry
  | 0x21 => Tab.rgn
  | 0x22 => Tab.mrch
  | 0x23 => Tab.rpr
  | 0x24 => Tab.lbst
  | 0x28 => Tab.ldc
  | 0x2d => Tab.adc
  | 0x30 => Tab.mtr
  | 0x31 => Tab.taly
  | 0x32 => Tab.rtc
  | 0x33 => Tab.bkp
  | 0x34 => Tab.mark
  | 0x35 => Tab.vlt
  | 0x36 => Tab.dump
  | 0x37 => Tab.fuse
  | 0x38 => Tab.leth
  | 0x39 => Tab.lcan
  | _ => []

end Sys2Proof.Machine
end

