-- ==== Sys2Proof/Machine/Ops.lean ====
section
/-! DEFINITION. The named operations over the register file and over byte memories, the node's clocks, and the
raising of page events. Every register is read with `State.get` and written with `State.set`. -/

namespace Sys2Proof.Machine

/-! ### The register file: a list of keys and values with rising keys. A field it does not list reads its reset value. -/

/-- The value listed for key `k`. -/
def rfFind (k : Nat) : List (Nat × Nat) → Option Nat
  | [] => none
  | (k', v) :: t => if k' = k then some v else rfFind k t

/-- The register file with key `k` at value `v`. -/
def rfPut (k v : Nat) : List (Nat × Nat) → List (Nat × Nat)
  | [] => [(k, v)]
  | (k', v') :: t => if k' = k then (k, v) :: t else if k < k' then (k, v) :: (k', v') :: t else (k', v') :: rfPut k v t

/-- The reset vector of a page in IRQ_MAP (table after R459); 0 for reserved pages and IRQ. -/
def irqVector (p : Nat) : Nat :=
  if p ≤ 2 then 1 else if p ≤ 4 then 2 else if p = 5 then 3 else if 0x08 ≤ p ∧ p ≤ 0x0F then p - 4 else
  match p with
  | 0x10 => 12 | 0x11 => 13 | 0x15 => 13 | 0x12 => 14 | 0x13 => 15 | 0x14 => 15 | 0x18 => 16 | 0x19 => 17
  | 0x1A => 18 | 0x24 => 18 | 0x1C => 19 | 0x1D => 19 | 0x1E => 19 | 0x20 => 20 | 0x21 => 20 | 0x22 => 20 | 0x23 => 20
  | 0x28 => 21 | 0x29 => 21 | 0x2A => 21 | 0x2B => 21 | 0x2C => 21 | 0x2D => 21 | 0x30 => 22 | 0x31 => 22
  | 0x32 => 23 | 0x33 => 23 | 0x34 => 24 | 0x35 => 25 | 0x37 => 25 | 0x36 => 26 | 0x38 => 27 | 0x39 => 28 | _ => 0

/-- The pages of the page directory that are reserved (R46). -/
def pageReserved (p : Nat) : Bool := irqVector p == 0 && p != 0x06

/-- The type code of a page (page directory of R45). -/
def pageType (p : Nat) : Nat :=
  if 0x08 ≤ p ∧ p ≤ 0x0F then 0x0200 else if 0x29 ≤ p ∧ p ≤ 0x2C then 0x0710 else
  match p with
  | 0x00 => 0x0100 | 0x01 => 0x0110 | 0x02 => 0x0120 | 0x03 => 0x0130 | 0x04 => 0x0140 | 0x05 => 0x0150 | 0x06 => 0x0160
  | 0x10 => 0x0300 | 0x11 => 0x0310 | 0x12 => 0x0320 | 0x13 => 0x0330 | 0x14 => 0x0340 | 0x15 => 0x0350
  | 0x18 => 0x0400 | 0x19 => 0x0410 | 0x1A => 0x0420 | 0x1C => 0x0500 | 0x1D => 0x0510 | 0x1E => 0x0520
  | 0x20 => 0x0600 | 0x21 => 0x0610 | 0x22 => 0x0620 | 0x23 => 0x0630 | 0x24 => 0x0640 | 0x28 => 0x0700 | 0x2D => 0x0720
  | 0x30 => 0x0800 | 0x31 => 0x0810 | 0x32 => 0x0820 | 0x33 => 0x0830 | 0x34 => 0x0840 | 0x35 => 0x0850 | 0x36 => 0x0860
  | 0x37 => 0x0870 | 0x38 => 0x0900 | 0x39 => 0x0910 | _ => 0

/-- PG_CAP.EN and PG_CAP.SRST of a page (R48). -/
def pageCapEn (p : Nat) : Bool :=
  !(pageReserved p) && !([0x00, 0x01, 0x02, 0x03, 0x04, 0x05, 0x06, 0x32, 0x33, 0x36, 0x37].contains p)

/-- PG_CAP.LOCK of a page: it has RWL fields at offset 0x100 or above. -/
def pageCapLock (p : Nat) : Bool :=
  (pageRows p).any (fun r => r.fields.any (fun f => decide (f.acc = .rwl)))

/-- PG_CAP.TESTABLE: the pages that the table of R297 names. -/
def pageTestable (p : Nat) : Bool :=
  [0x10, 0x11, 0x12, 0x13, 0x15, 0x18, 0x19, 0x1A, 0x1D, 0x1E, 0x2D, 0x30, 0x31].contains p

/-- The strap bits of `b`. -/
def Boot.role (b : Boot) : Nat := bits b.straps 1 2
/-- TOP_STRAP.HOSTSEL as sampled. -/
def Boot.hostsel (b : Boot) : Nat := bits b.straps 4 2
/-- The node is strapped twin-A or twin-B. -/
def Boot.twin (b : Boot) : Bool := b.role == 1 || b.role == 2

/-- Position `p` (0 for FILL) of entry `e` of the reset wheel (after the TRW table of chapter 07): channel codes are
0–7 ports, 8 TIE, 9 LETH, 10 LCAN, 11 HOSTQ, 12 CTRL. -/
def wheelReset (e p : Nat) : Nat :=
  match p with
  | 0 => 12 | 1 => e % 8 | 2 => (e + 4) % 8 | 3 => 8 | 4 => 11 | 5 => 9
  | 6 => if e % 2 = 0 then 10 else 11 | _ => 12

/-- The value of a Reset column for instance `i` of a field at address `base` (0 is a header field of page `i`). -/
def Rst.eval (b : Boot) (i : Nat) : Rst → Nat
  | .v n => n
  | .uidLo => b.uid % 2 ^ 32
  | .uidHi => b.uid / 2 ^ 32 % 2 ^ 16
  | .strap lo w => bits b.straps lo w
  | .hostIf pcie => if pcie then (b.hostsel == 0 || b.hostsel == 3).toNat else (b.hostsel == 1 || b.hostsel == 3).toNat
  | .settle => if bit b.straps 0 then 6 else 0
  | .twinRole => b.twin.toNat
  | .spkGen => if i < 2 then 4 else 0
  | .ctxRes => if i < 8 then 1024 else if i = 8 then 512 else if i = 9 then 2048 else if i = 10 then 256 else 2048
  | .wheel p => wheelReset i p
  | .wheelWord => ((List.range 8).map (fun p => wheelReset i p * 16 ^ p)).sum
  | .irqMap k => irqVector (4 * i + k)
  | .laneState j => if bit b.fuseLanes j then 4 else if j = 8 then 1 else 0
  | .rgnLimit => if i % 16 = 0 then 0x3FFF else 0
  | .rgnOne => if i % 16 = 0 then 1 else 0
  | .rgnEn => if i % 16 = 0 ∧ i / 16 < 15 then 1 else 0
  | .fuseLanes => b.fuseLanes
  | .fuseWords => b.fuseWords
  | .rpr lo w => bits (look 0 i b.repairs) lo w
  | .pgIndex => i
  | .pgType => pageType i
  | .capEn => (pageCapEn i).toNat
  | .capLock => (pageCapLock i).toNat
  | .capDistrib => (i == 0x13 || i == 0x14).toNat
  | .capTest => (pageTestable i).toNat

/-- The value of instance `i` of a register field, in the field's width. -/
def State.get (s : State) (f : Fld) (i : Nat := 0) : Nat :=
  ((rfFind (f.key i) s.regs).getD (f.reset.eval s.boot i)) % 2 ^ f.width

/-- Instance `i` of a register field written by the node; the field keeps its own width. -/
def State.set (s : State) (f : Fld) (v : Nat) (i : Nat := 0) : State :=
  { s with regs := rfPut (f.key i) (v % 2 ^ f.width) s.regs }

/-- A field read as a truth value. -/
def State.on (s : State) (f : Fld) (i : Nat := 0) : Bool := s.get f i != 0

/-- A field set to 1 or 0. -/
def State.setB (s : State) (f : Fld) (b : Bool) (i : Nat := 0) : State := s.set f b.toNat i

/-- A counter advanced by `n`; it saturates at the largest value of its field (R14, R59). -/
def State.add (s : State) (f : Fld) (n : Nat) (i : Nat := 0) : State := s.set f (min (s.get f i + n) (2 ^ f.width - 1)) i

/-- A counter advanced by 1. -/
def State.inc (s : State) (f : Fld) (i : Nat := 0) : State := s.add f 1 i

/-- One bit of a field set. -/
def State.orBit (s : State) (f : Fld) (b : Nat) (i : Nat := 0) : State := s.set f (setBit (s.get f i) b true) i

/-- One bit of a field cleared. -/
def State.clrBit (s : State) (f : Fld) (b : Nat) (i : Nat := 0) : State := s.set f (setBit (s.get f i) b false) i

/-- The listed fields whose register lies in `[lo, hi)` return to their reset values. -/
def State.eraseRegs (s : State) (lo hi : Nat) : State :=
  { s with regs := s.regs.filter (fun p => p.1 < lo * 32 || hi * 32 ≤ p.1) }

/-- Event bit `b` of a page's PG_IRQ_RAW is raised. -/
def State.irq (s : State) (page b : Nat) : State := s.orBit F.PG_IRQ_RAW b page

/-- An urgent source is raised (R458). -/
def State.urgent (s : State) (b : Nat) : State := s.orBit F.IRQ_URG_RAW b

/-- Something given to the outside. -/
def State.emit (s : State) (e : Emit) : State := { s with out := e :: s.out }

/-! ### Byte memories: cells with rising addresses, none equal to the default byte. -/

/-- The byte at `a`. -/
def memGet (d : Nat) (a : Nat) : List Host.Cell → Nat
  | [] => d
  | (a', v) :: t => if a' = a then v.toNat else if a < a' then d else memGet d a t

/-- The memory with byte `v` at `a`. -/
def memPut (d : Nat) (a v : Nat) : List Host.Cell → List Host.Cell
  | [] => if v % 256 = d then [] else [(a, BitVec.ofNat 8 v)]
  | (a', v') :: t =>
    if a' = a then (if v % 256 = d then t else (a, BitVec.ofNat 8 v) :: t)
    else if a < a' then (if v % 256 = d then (a', v') :: t else (a, BitVec.ofNat 8 v) :: (a', v') :: t)
    else (a', v') :: memPut d a v t

/-- `n` bytes from `a`. -/
def memRead (d a n : Nat) (m : List Host.Cell) : List Nat := (List.range n).map (fun i => memGet d (a + i) m)

/-- Bytes written from `a` upward. -/
def memWrite (d : Nat) : Nat → List Nat → List Host.Cell → List Host.Cell
  | _, [], m => m
  | a, b :: t, m => memWrite d (a + 1) t (memPut d a b m)

/-- Every byte of `[lo, hi)` returned to the default. -/
def memClear (lo hi : Nat) (m : List Host.Cell) : List Host.Cell := m.filter (fun c => c.1 < lo || hi ≤ c.1)

/-- The canonical form: rising addresses, no entry equal to the default byte. -/
def Memory.wf (d : Nat) : List Host.Cell → Bool
  | [] => true
  | [(_, v)] => v.toNat != d
  | (a, v) :: (b, w) :: t => decide (a < b) && v.toNat != d && Memory.wf d ((b, w) :: t)

/-! ### Clocks -/

/-- One unit of line time in the fraction's units. -/
def ltUnit : Nat := 256000000000

/-- Line time after `dt` ns of REFCLK: trim (R142) and slew (R151) included. -/
def Clock.lineAfter (c : Clock) (trim : Int) (dt : Nat) : Clock :=
  if c.ltOn then
    let want := c.slewRate * dt
    let slew := if c.slewLeft ≥ 0 then min want c.slewLeft else max want c.slewLeft
    let total : Int := (c.ltFrac : Int) + (dt : Int) * ((ltUnit : Int) + trim) + slew
    { c with lt := (c.lt + (total / (ltUnit : Int)).toNat) % 2 ^ 64, ltFrac := (total % (ltUnit : Int)).toNat,
             slewLeft := c.slewLeft - slew }
  else c

/-- The RTC after `dt` ns (R372, R373). -/
def Clock.rtcAfter (c : Clock) (dt : Nat) : Clock :=
  if c.xtal then
    let acc := c.rtcAcc + dt * 32768
    let raw := acc / 1000000000
    let owed := min raw c.rtcOwed
    let extra := min raw c.rtcExtra
    let total := c.sec * 32768 + c.sub + (raw - owed + extra)
    let stop := 0xFFFFFFFFFF * 32768 + 32767
    let t := min total stop
    { c with rtcAcc := acc % 1000000000, rtcOwed := c.rtcOwed - owed, rtcExtra := c.rtcExtra - extra,
             sec := t / 32768, sub := t % 32768 }
  else c

/-- The trim of line time as a signed number of 1/256 ppb (LINE_TRIM). -/
def State.trim (s : State) : Int := signed 32 (s.get F.LINE_TRIM)

/-- `dt` nanoseconds pass: the clocks count, and nothing else happens. -/
def State.elapse (s : State) (dt : Nat) : State :=
  let c := (s.clk.lineAfter s.trim dt).rtcAfter dt
  { s with clk := { c with now := c.now + dt, q0Ns := c.q0Ns + (if s.isl.frozen.contains 9 then 0 else dt) } }

/-- Time passes until the node's own clock reads `t`; nothing where it has passed. -/
def State.elapseTo (s : State) (t : Nat) : State := s.elapse (t - s.clk.now)

/-- Time passes until line time reads at least `t`, slew included; nothing where it has passed or does not count. -/
def State.elapseLt (s : State) (t : Nat) : State :=
  if s.clk.lt ≥ t then s else
    let need : Int := ((t : Int) - s.clk.lt) * ltUnit - s.clk.ltFrac
    let rate : Int := (ltUnit : Int) + s.trim
    let dt0 : Int := (need + rate - 1) / rate
    let s' := s.elapse dt0.toNat
    if s'.clk.lt ≥ t then s'
    else s'.elapse ((((t : Int) - s'.clk.lt) * ltUnit - s'.clk.ltFrac + rate - 1) / rate).toNat

/-- A Spaka frame that waits was stamped before line time `t`: it is still in flight towards a decision whose deadline is `t`,
and the horizon of the decision has not been reached (R158, R159). DESIGN CHOICE: a decision commanded before then is not
taken, and may be commanded again (log entry 96). -/
def State.inFlight (s : State) (t : Int) : Bool :=
  s.pending.any (fun i => match i with | .frameReceive _ stamp _ _ _ _ => decide ((stamp.toNat : Int) < t) | _ => false)

/-- A deadline on the node's own clock, in line time. -/
def State.asLine (s : State) (t : Nat) : Int := (s.clk.lt : Int) + t - s.clk.now

/-- The pipeline term of a Spaka frame's horizon, in ns (R159). -/
def horizonNs : Nat := 200

/-- Nanoseconds until the RTC reads `sec` seconds, trim in progress left out (0 where it has been reached). -/
def State.untilRtc (s : State) (sec : Nat) : Nat :=
  let c := s.clk
  let ticks := sec * 32768 - (c.sec * 32768 + c.sub)
  (ticks * 1000000000 - min c.rtcAcc (ticks * 1000000000) + 32767) / 32768

/-- The RTC in the form of an ACT_START field (R362): seconds [31:0], then seconds [39:32] and the subsecond. -/
def rtcBytes (sec sub : Nat) : List Nat := le 4 (sec % 2 ^ 32) ++ le 4 (sec / 2 ^ 32 % 256 + 256 * sub)

/-- TIME_VALID. -/
def State.timeValid (s : State) : Bool := s.on F.RTC_STAT_TIME_VALID

/-- The power state that step `k` of an entry has put in force: the target once the step is taken (R432). -/
def State.pwrAt (s : State) (k : Nat) : Nat :=
  if s.get F.PWR_STAT_STATE != 0 then s.get F.PWR_STAT_STATE else if k ≤ s.pwr.step then s.pwr.target else 0

end Sys2Proof.Machine
end

