-- ==== Sys2Proof/Machine/Clamp.lean ====
section
/-! DEFINITION. Clamp events: the CLMP log and the PG_CLAMP report of a page (R54, R55, R62a, R467). -/

namespace Sys2Proof.Machine

/-- A clamp event: the page, the field index, the cause code, the register's offset, the value written, the value of the
register afterwards, and the master that wrote. -/
structure ClampEv where
  page    : Nat
  field   : Nat
  cause   : Nat
  off     : Nat
  written : Nat
  applied : Nat
  master  : Nat
  deriving DecidableEq, Repr

/-- An event in the CLMP log: an entry, or CLMP_MISSED while the page is frozen (R62a). A dump that has frozen the
always-on island's registers leaves the log as it is (R393). -/
def State.clampLog (s : State) (e : ClampEv) : State :=
  if s.isl.frozen.contains 29 then s else
  let s := s.inc F.CLMP_TOTAL
  if s.on F.PG_CTRL_FREEZE 1 then s.inc F.CLMP_MISSED
  else
    let n := s.get F.CLMP_HEAD
    let seq := if s.get F.CLMP_LASTSEQ = 0xFFFFFFFF then 1 else s.get F.CLMP_LASTSEQ + 1
    let s := (((s.set F.CLMP_E_OFFSET e.off n).set F.CLMP_E_CAUSE e.cause n).set F.CLMP_E_FIELD e.field n).set F.CLMP_E_PAGE e.page n
    let s := (((s.set F.CLMP_E_WR e.written n).set F.CLMP_E_APP e.applied n).set F.CLMP_E_SRC e.master n).set F.CLMP_E_SEQ seq n
    let s := ((s.set F.CLMP_E_RTC_LO s.clk.sec n).set F.CLMP_E_RTC_HI_SECONDS (s.clk.sec / 2 ^ 32) n).set F.CLMP_E_RTC_HI_SUBSEC s.clk.sub n
    ((s.set F.CLMP_E_COURSE s.isl.token n).set F.CLMP_LASTSEQ seq).set F.CLMP_HEAD ((n + 1) % 64)

/-- An event reported on its page and in the log (R55). -/
def State.clampReport (s : State) (e : ClampEv) : State :=
  let s := s.clampLog e
  let s := ((s.set F.PG_CLAMP_OFFSET e.off e.page).set F.PG_CLAMP_CAUSE e.cause e.page).set F.PG_CLAMP_FIELD e.field e.page
  let s := ((s.inc F.PG_CLAMP_COUNT e.page).set F.PG_CLAMP_VALID 1 e.page).irq e.page 0
  (s.set F.PG_CLAMP_VAL e.written e.page).set F.PG_CLAMP_RES e.applied e.page

/-- A substitution that no register write caused (R467). -/
def State.substitution (s : State) (page field off requested inForce : Nat) : State :=
  s.clampReport ⟨page, field, 8, off, requested, inForce, 0xF⟩

end Sys2Proof.Machine
end

