-- ==== Sys2Proof/Machine/Mark.lean ====
section
/-! DEFINITION. Raising a mark: the token bucket, the recorder's queue and the eight places of the always-on
island (R403, R404). The recorder itself is Machine/MarkStore.lean. -/

namespace Sys2Proof.Machine

/-- The types marked "always" in the table after R397: never suppressed. -/
def markAlways (code : Nat) : Bool :=
  [0x001, 0x002, 0x010, 0x011, 0x040, 0x042, 0x080, 0x081, 0x083].contains code

/-- A power state below HOLD is in force or being entered past its Vault step (R432 step 4). -/
def State.vaultAsleep (s : State) : Bool := 2 ≤ s.pwrAt 4

/-- The token bucket brought up to the present: RATE tokens per second, at most RATE (R403). -/
def State.refill (s : State) : State :=
  let rate := s.get F.MARK_CFG_RATE
  { s with marks := { s.marks with
      tokens := min (rate * 1000000000) (s.marks.tokens + (s.clk.now - s.marks.tokenAt) * rate), tokenAt := s.clk.now } }

/-- A mark counted as dropped (R398, R403, R404). -/
def State.markDropped (s : State) : State :=
  ({ s with marks := { s.marks with dropN := s.marks.dropN + 1 } }.inc F.MARK_DROPPED).irq 0x34 10

/-- A mark that found no token, suppressed and counted (R403). -/
def State.markSuppressed (s : State) (code : Nat) : State :=
  ({ s with marks := { s.marks with supN := s.marks.supN + 1,
                                    supCode := if s.marks.supN = 0 then code else s.marks.supCode } }.inc
    F.MARK_SUPPRESSED).irq 0x34 10

/-- A mark that reaches the recorder: its token is taken and it is queued, or it is suppressed or dropped (R403). -/
def State.admitMark (s : State) (m : Mark) : State :=
  let s := s.refill
  if !(markAlways m.code) && s.marks.tokens < 1000000000 then s.markSuppressed m.code
  else if 64 ≤ s.marks.queue.length then s.markDropped
  else { s with marks := { s.marks with queue := s.marks.queue ++ [m],
                                        tokens := s.marks.tokens - (if markAlways m.code then 0 else 1000000000) } }

/-- A mark raised with code `code` and the bytes that follow the RTC in its payload (R396). While the Vault island is
not on, or during a main-failure save, the always-on island holds up to eight marks (R404). While a dump freezes the Vault
island it is lost (chapter 15, edges). -/
def State.mark (s : State) (code : Nat) (tail : List Nat) (deferred : Bool := false) : State :=
  let m : Mark := { code := code, deferred := deferred, invalid := !s.timeValid,
                    bytes := rtcBytes s.clk.sec s.clk.sub ++ tail }
  if s.isl.frozen.contains 31 then s
  else if s.vaultAsleep || s.on F.TALY_STAT_SAVING then
    if s.marks.held.length < 8 then { s with marks := { s.marks with held := s.marks.held ++ [m] } }
    else s.markDropped
  else s.admitMark m

end Sys2Proof.Machine
end

