-- ==== Sys2Proof/Machine/Island.lean ====
section
/-! DEFINITION. The clock islands: which island owns a page (R27), the state of each island (R30, ISL_STATE), and what
a transfer to an island that cannot take it comes to (R24, R28). -/

namespace Sys2Proof.Machine

/-- The island that owns a page's header and page-wide registers (R27, R28); islands as ISL numbers them. -/
def ownerIsland (page : Nat) : Nat :=
  if page ≤ 0x04 then 29 else if 0x08 ≤ page ∧ page ≤ 0x0F then page - 8
  else if page = 0x10 ∨ page = 0x11 ∨ page = 0x12 ∨ page = 0x15 ∨ (0x18 ≤ page ∧ page ≤ 0x1A) then 8
  else if 0x1C ≤ page ∧ page ≤ 0x1E then 25 else if 0x20 ≤ page ∧ page ≤ 0x23 then 9
  else if 0x28 ≤ page ∧ page ≤ 0x2D then 27 else if page = 0x30 ∨ page = 0x31 then 28
  else if page = 0x32 ∨ page = 0x33 then 29 else if page = 0x34 ∨ page = 0x35 ∨ page = 0x37 then 31
  else if page = 0x36 then 30 else 26

/-- The island that owns a register: on GRD and HUB each port's block lies in that port's island (R28). -/
def regIsland (page off : Nat) : Nat :=
  if page = 0x13 ∧ 0x200 ≤ off ∧ off < 0x400 then (off - 0x200) / 0x40
  else if page = 0x14 ∧ 0x200 ≤ off ∧ off < 0x400 then (off - 0x200) / 0x40
  else ownerIsland page

/-- The PLL that clocks an island (table of R24). -/
def pllOf (i : Nat) : Option Nat :=
  if i < 8 then some i else if i = 8 then some 8 else if i ≤ 24 then some 9 else if i = 25 then some 10
  else if i = 26 then some 11 else if i ≤ 28 then some 12 else none

/-- The islands a PLL clocks. -/
def pllIslands (p : Nat) : List Nat := (List.range 32).filter (fun i => pllOf i == some p)

/-- The state of an island by the power state alone (R30): 0 OFF, 1 ON, 2 GATED. -/
def powerIsland (st i : Nat) : Nat :=
  match st with
  | 0 => 1
  | 1 => if i < 8 ∨ i = 8 ∨ i = 25 then 2 else 1
  | 2 => if i < 8 then 2 else if (9 ≤ i ∧ i ≤ 24) ∨ i = 26 ∨ i = 29 then 1 else 0
  | 3 => if 9 ≤ i ∧ i ≤ 24 then 2 else if i = 29 then 1 else 0
  | 4 => if 9 ≤ i ∧ i ≤ 24 then 2 else if i = 29 then 1 else 0
  | _ => if i = 29 then 1 else 0

/-- An island whose Quarry masters are fenced is fenced (R24, R27, R280). DESIGN CHOICE: the spec says that a fenced island
shows FENCED and fences masters, and not which master makes which island fenced (log entry 84). -/
def State.islandFenced (s : State) (i : Nat) : Bool :=
  let m := s.get F.RGN_FENCED
  if i = 8 then bit m 3 else if i = 25 then bit m 8 else if i = 27 then bit m 10 else if i = 28 then bit m 11
  else if i = 30 then bit m 12 else if i = 31 then bit m 9 && bit m 14 else false

/-- The island a BIST domain lies in (R297). -/
def domainIsland (d : Nat) : Nat :=
  if d ≤ 9 then 8 else if d ≤ 17 then d - 10 else if d ≤ 19 then 25 else if d = 20 then 28 else 27

/-- The pages that show TESTING while a slice of a domain runs (R297). -/
def domainPages (d : Nat) : List Nat :=
  if d < 9 then [] else if d = 9 then [0x10, 0x11, 0x12, 0x15, 0x18, 0x19, 0x1A] else if d ≤ 17 then [0x13]
  else if d = 18 then [0x1E] else if d = 19 then [0x1D] else if d = 20 then [0x30, 0x31] else [0x2D]

/-- The state of an island by the power state and, for the Vault, by a main-failure save, which brings it up in NAP,
SLUMBER and VIGIL (R30, R366). -/
def State.powerState (s : State) (i : Nat) : Nat :=
  let st := s.get F.PWR_STAT_STATE
  if i = 31 ∧ 2 ≤ st ∧ st ≤ 4 ∧ s.on F.TALY_STAT_SAVING then 1 else powerIsland st i

/-- The state code of an island as ISL_STATE shows it. -/
def State.islandState (s : State) (i : Nat) : Nat :=
  let base := s.powerState i
  if base = 0 then 0
  else if s.isl.frozen.contains i then 6
  else if (match pllOf i with | some p => s.isl.pllLost.contains p | none => false) then 5
  else if s.islandFenced i then 4
  else if s.host.reset.any (fun r => ownerIsland r.1 == i) then 7
  else if s.test.slices.any (fun x => 9 ≤ x.1 && domainIsland x.1 == i) then 3
  else base

/-- Off, halted or frozen: the host island answers for the pages (R62). -/
def State.islandAsleep (s : State) (i : Nat) : Bool := let c := s.islandState i; c == 0 || c == 5 || c == 6

/-- The island serves: no transfer to it is refused. -/
def State.islandServes (s : State) (i : Nat) : Bool := !(s.islandAsleep i) && !(s.islandFenced i)

/-- A block of the register lies under a slice (R64). -/
def State.testing (s : State) (page off : Nat) : Bool :=
  s.test.slices.any (fun x => (domainPages x.1).contains page &&
    (if page = 0x13 then 0x200 ≤ off && off < 0x400 && (off - 0x200) / 0x40 == x.1 - 10 else true))

/-- Pages an island owns. -/
def islandPages (i : Nat) : List Nat :=
  (List.range 64).filter (fun p => !(pageReserved p) && ownerIsland p == i) ++ (if i < 8 then [0x13, 0x14] else [])

/-- An island has just become fenced: event FENCE on its pages. -/
def State.fencePages (s : State) (i : Nat) : State := (islandPages i).foldl (fun s p => s.irq p 3) s

end Sys2Proof.Machine
end

