-- ==== Sys2Proof/Machine/Aes.lean ====
section
/-! DEFINITION. AES-128 and its CMAC (FIPS 197 and SP 800-38B, which R96 names), over bytes as Nat. -/

namespace Sys2Proof.Machine

/-- Multiplication by x in GF(2⁸). -/
def gfX2 (a : Nat) : Nat := if a ≥ 128 then (2 * a % 256).xor 0x1B else 2 * a

/-- Multiplication in GF(2⁸). -/
def gfMul (a b : Nat) : Nat :=
  ((List.range 8).foldl (fun (p : Nat × Nat) i => (if bit b i then p.1.xor p.2 else p.1, gfX2 p.2)) (0, a)).1

/-- The multiplicative inverse in GF(2⁸), a to the 254th power; 0 for 0. -/
def gfInv (a : Nat) : Nat :=
  (List.range 7).foldl (fun (p : Nat × Nat) _ => let q := gfMul p.1 p.1; (q, gfMul p.2 q)) (a, 1) |>.2

/-- The S-box. -/
def sbox (a : Nat) : Nat :=
  let b := gfInv a
  let r (k : Nat) := (b * 2 ^ k % 256).lor (b / 2 ^ (8 - k))
  ((((b.xor (r 1)).xor (r 2)).xor (r 3)).xor (r 4)).xor 0x63

/-- Two byte strings, XORed. -/
def xorBytes (a b : List Nat) : List Nat := List.zipWith Nat.xor a b

/-- The next 4-byte word of the key schedule from the words so far (newest first). -/
def keyWord (ws : List (List Nat)) (i rcon : Nat) : List Nat :=
  let prev := ws.headD []
  let t := if i % 4 = 0 then
      let rot := prev.drop 1 ++ prev.take 1
      let s := rot.map sbox
      (s.headD 0).xor rcon :: s.drop 1
    else prev
  xorBytes (ws.getD 3 []) t

/-- The 44 words of the key schedule, in order. -/
def keyWords (key : List Nat) : List (List Nat) :=
  let start := [(key.drop 12).take 4, (key.drop 8).take 4, (key.drop 4).take 4, key.take 4]
  let step (p : List (List Nat) × Nat) (i : Nat) :=
    (keyWord p.1 i p.2 :: p.1, if i % 4 = 0 then gfX2 p.2 else p.2)
  ((List.range 40).foldl (fun p j => step p (j + 4)) (start, 1)).1.reverse

/-- Round key `r`. -/
def roundKey (ws : List (List Nat)) (r : Nat) : List Nat := ((ws.drop (4 * r)).take 4).flatten

/-- ShiftRows on the column-major state. -/
def shiftRows (s : List Nat) : List Nat :=
  (List.range 16).map (fun i => s.getD ((i + 4 * (i % 4)) % 16) 0)

/-- MixColumns on one column. -/
def mixCol (c : List Nat) : List Nat :=
  let g (i : Nat) := c.getD (i % 4) 0
  (List.range 4).map (fun i => (((gfX2 (g i)).xor ((gfX2 (g (i + 1))).xor (g (i + 1)))).xor (g (i + 2))).xor (g (i + 3)))

/-- MixColumns. -/
def mixColumns (s : List Nat) : List Nat :=
  ((List.range 4).map (fun c => mixCol ((s.drop (4 * c)).take 4))).flatten

/-- AES-128 of one block. -/
def aes128 (key block : List Nat) : List Nat :=
  let ws := keyWords key
  let round (s : List Nat) (r : Nat) := xorBytes (mixColumns (shiftRows (s.map sbox))) (roundKey ws r)
  let s := (List.range 9).foldl (fun s r => round s (r + 1)) (xorBytes block (roundKey ws 0))
  xorBytes (shiftRows (s.map sbox)) (roundKey ws 10)

/-- Doubling of a 128-bit string for the CMAC subkeys. -/
def cmacDouble (l : List Nat) : List Nat :=
  let v := leVal l.reverse * 2
  let w := v % 2 ^ 128
  be 16 (if v ≥ 2 ^ 128 then w.xor 0x87 else w)

/-- CBC over whole blocks. -/
def cbcFold (key : List Nat) : Nat → List Nat → List Nat → List Nat
  | 0, x, _ => x
  | n + 1, x, m => cbcFold key n (aes128 key (xorBytes x (m.take 16))) (m.drop 16)

/-- AES-128-CMAC of a byte string. -/
def cmac (key msg : List Nat) : List Nat :=
  let l := aes128 key (List.replicate 16 0)
  let k1 := cmacDouble l
  let k2 := cmacDouble k1
  let full := msg.length != 0 && msg.length % 16 == 0
  let n := if msg.length = 0 then 0 else (msg.length - 1) / 16
  let last := msg.drop (16 * n)
  let blk := if full then xorBytes last k1
    else xorBytes (last ++ 0x80 :: List.replicate (15 - last.length) 0) k2
  aes128 key (xorBytes (cbcFold key n (List.replicate 16 0) msg) blk)

end Sys2Proof.Machine
end

