-- ==== Sys2Proof/Machine/Frame.lean ====
section
/-! DEFINITION. Frames of the Spaka line: header, trailer, kinds, timing on the wire (R73, R82, R83, R91 to R96), the
transmit log, and short names for the setting-out registers every family reads. -/

namespace Sys2Proof.Machine

/-! ### Names used everywhere -/

/-- SETO_STAT.POSITION. -/
def State.pos (s : State) : Nat := s.get F.SETO_STAT_POSITION
/-- SETO_STAT.COUNT. -/
def State.count (s : State) : Nat := s.get F.SETO_STAT_COUNT
/-- SETO_GEN.GEN. -/
def State.gen (s : State) : Nat := s.get F.SETO_GEN_GEN
/-- SETO_STAT.STATE: 0 ALONE, 1 PROBING, 2 MEMBER, 3 REPORTED, 4 PLANNED, 5 ORPHAN, 6 JOINER, 7 EXCLUDED, 8 REJOIN. -/
def State.soState (s : State) : Nat := s.get F.SETO_STAT_STATE
/-- SETO_STAT.IS_DATUM. -/
def State.isDatum (s : State) : Bool := s.on F.SETO_STAT_IS_DATUM
/-- The node's own role code of R254; a node that is not a twin acts as an active one. -/
def State.role (s : State) : Nat := if s.boot.twin then s.get F.TWIN_STAT_ROLE else 1
/-- The node drives the line: solo, arbiter or active twin. -/
def State.drives (s : State) : Bool := s.role == 1 || !s.boot.twin
/-- A node that corrects nothing: datum, provisional datum or ALONE (R142); a twin that is not active never is one. -/
def State.isSource (s : State) : Bool := s.drives && (s.isDatum || s.so.provis || s.soState == 0)
/-- A twin in standby, a takeover pending included. -/
def State.standby (s : State) : Bool := s.boot.twin && (s.role == 0 || s.role == 3) && !s.twin.isOut
/-- A twin in OUT. -/
def State.isOut (s : State) : Bool := s.boot.twin && s.twin.isOut
/-- The node builds the datum's frames: datum, provisional datum, or the standby of a pair at position 1 (R237). -/
def State.actsDatum (s : State) : Bool := s.isDatum || s.so.provis || (s.standby && s.pos == 1)
/-- One port. -/
def State.line (s : State) (n : Nat) : Line :=
  s.lines.getD n Line.zero
/-- One port replaced. -/
def State.setLine (s : State) (n : Nat) (l : Line) : State := { s with lines := s.lines.set n l }
/-- The course length in ns. -/
def State.courseNs (s : State) : Nat := s.sched.courseUs * 1000
/-- G, from the boundary (R81). -/
def State.gapAt (s : State) : Nat := (s.sched.courseUs - s.sched.gapUs) * 1000
/-- w (R81). -/
def State.drift (s : State) : Nat := (s.sched.gapUs - 6) * 1000
/-- Line time since the boundary. -/
def State.into (s : State) : Nat := s.clk.lt - s.base
/-- The line port `n` is up. -/
def State.up (s : State) (n : Nat) : Bool := s.on F.SPK_LINK_UP n
/-- The generation port `n` runs: 0 none, 1 A, 2 B, 3 C. -/
def State.portGen (s : State) (n : Nat) : Nat := s.get F.SPK_LINK_GEN n
/-- A page event of a port. -/
def State.portIrq (s : State) (n b : Nat) : State := s.irq (8 + n) b
/-- The own UID. -/
def State.uid (s : State) : Nat := s.boot.uid
/-- UID at position `p` of the composition table. -/
def State.tabUid (s : State) (p : Nat) : Nat := s.get F.SETO_TAB_LO (p - 1) + 2 ^ 32 * s.get F.SETO_TAB_HI_UID (p - 1)
/-- The position of a UID in the table. -/
def State.posOf (s : State) (uid : Nat) : Option Nat :=
  ((List.range s.count).map (· + 1)).find? (fun p => s.tabUid p == uid)

/-- The partner's UID: what a ROLL of the pair has shown, else the free value; 0 at a node that is not a twin (R241). -/
def State.partnerUid (s : State) : Nat :=
  if !s.boot.twin then 0
  else match s.so.partner.find? (fun p => p.1 == s.uid || p.2 == s.uid) with
    | some (a, b) => if a = s.uid then b else a
    | none => Config.partnerUid s.uid % 2 ^ 48
/-- The UID under which a position's model and table entry are kept: a pair under the lower of its two (R241). -/
def State.pairUid (s : State) (uid : Nat) : Nat :=
  match s.so.partner.find? (fun p => p.1 == uid || p.2 == uid) with
  | some (a, b) => if a = 0 ∨ b = 0 then uid else min a b
  | none =>
    if s.boot.twin && (uid == s.uid || uid == s.partnerUid) && s.partnerUid != 0 then min s.uid s.partnerUid else uid
/-- The UID that the frames of the node's position carry: its own, or its active partner's (R116, R237). -/
def State.lineUid (s : State) : Nat :=
  if s.boot.twin && s.role != 1 && s.partnerUid != 0 then s.partnerUid else s.uid

/-- The slowest generation a set admits (bit 0 A, bit 1 B, bit 2 C): 1, 2 or 3. -/
def slowest (genset : Nat) : Nat := if bit genset 0 then 1 else if bit genset 1 then 2 else 3
/-- g of a generation set (R82). -/
def guardOf (genset : Nat) : Nat := if bit genset 0 then 2100 else if bit genset 1 then 200 else 140
/-- g of the active schedule. -/
def State.g (s : State) : Nat := guardOf s.sched.genset
/-- t_word of a generation (R83). -/
def tWord (gen : Nat) : Nat := if gen = 1 then 8000 else if gen = 2 then 160 else 16
/-- t_pre of a generation. -/
def tPre (gen : Nat) : Nat := if gen = 1 then 10000 else if gen = 2 then 80 else 8
/-- t_post of a generation. -/
def tPost (gen : Nat) : Nat := if gen = 1 then 3250 else 0
/-- What a frame of `p` payload words occupies (R83). -/
def airTime (gen p : Nat) : Nat := tPre gen + (12 + p) * tWord gen + tPost gen

/-! ### Header words (R91) -/

/-- KIND. -/
def fKind (f : List Nat) : Nat := bits (f.getD 0 0) 12 4
/-- FLAGS. -/
def fFlags (f : List Nat) : Nat := bits (f.getD 0 0) 10 2
/-- SLOT. -/
def fSlot (f : List Nat) : Nat := bits (f.getD 0 0) 0 10
/-- The course W1 and W2 name. -/
def fCourse (f : List Nat) : Nat := f.getD 1 0 + 65536 * f.getD 2 0
/-- SRC. -/
def fSrc (f : List Nat) : Nat := bits (f.getD 3 0) 10 6
/-- DST. -/
def fDst (f : List Nat) : Nat := bits (f.getD 3 0) 4 6
/-- ORIENT. -/
def fOrient (f : List Nat) : Bool := bit (f.getD 3 0) 3
/-- TWIN_B. -/
def fTwinB (f : List Nat) : Bool := bit (f.getD 3 0) 2
/-- GEN. -/
def fGen (f : List Nat) : Nat := f.getD 4 0
/-- LEN. -/
def fLen (f : List Nat) : Nat := f.getD 5 0
/-- SEQ. -/
def fSeq (f : List Nat) : Nat := f.getD 6 0
/-- The payload. -/
def fPayload (f : List Nat) : List Nat := (f.drop 8).take (fLen f)

/-- A 48-bit UID in three words, low word first. -/
def uidWords (u : Nat) : List Nat := wordsOf 3 u

/-- HCHK passes (R95). -/
def hchkOk (f : List Nat) : Bool := 8 ≤ f.length && crc16 (lineBytes (f.take 7)) == f.getD 7 0

/-- The CRC-32 of the trailer passes (R96). -/
def fcrcOk (f : List Nat) : Bool :=
  let n := 8 + fLen f
  n + 4 ≤ f.length && crc32 (lineBytes (f.take (n + 2))) == f.getD (n + 2) 0 * 65536 + f.getD (n + 3) 0

/-- The key of slot `k` as the 16 bytes AES takes (R529). -/
def keyBytes (k : Nat) : List Nat := be 16 k

/-- The tag of a frame under a key (R96). -/
def frameTag (key : Nat) (headAndPayload : List Nat) : Nat :=
  let m := cmac (keyBytes key) (lineBytes headAndPayload)
  m.getD 0 0 * 2 ^ 24 + m.getD 1 0 * 2 ^ 16 + m.getD 2 0 * 2 ^ 8 + m.getD 3 0

/-- The key of a slot, where it holds a valid one. -/
def State.key (s : State) (slot : Nat) : Option Nat := (s.keys.find? (fun p => p.1 == slot)).map (·.2)

/-- The tag the node transmits: 0 without a valid key in TX_SLOT (R530). -/
def State.txTag (s : State) (w : List Nat) : Nat :=
  match s.key (s.get F.ADM_CFG_TX_SLOT) with
  | some k => frameTag k w
  | none => 0

/-- W3 of the node's own frames. -/
def State.w3 (s : State) (src dst : Nat) : Nat :=
  src * 1024 + dst * 16 + (s.on F.SETO_STAT_ORIENT).toNat * 8 + (s.boot.role == 2).toNat * 4

/-- A whole frame: header with HCHK, payload, tag and CRC-32 (R91, R95, R96). -/
def State.frame (s : State) (kind flags slot course src dst gen seq : Nat) (payload : List Nat) : List Nat :=
  let h := [kind * 4096 + flags * 1024 + slot, course % 65536, course / 65536 % 65536, s.w3 src dst, gen, payload.length, seq]
  let h := h ++ [crc16 (lineBytes h)]
  let tag := if kind = 7 then 0 else s.txTag (h ++ payload)
  let body := h ++ payload ++ [tag / 65536, tag % 65536]
  let c := crc32 (lineBytes body)
  body ++ [c / 65536, c % 65536]

/-- The next control sequence (R92). -/
def State.takeCtl (s : State) : Nat × State :=
  (s.trw.ctl, { s with trw := { s.trw with ctl := (s.trw.ctl + 1) % 65536 } })

/-- The sequence and identifier a stream sends next. -/
def State.streamNext (s : State) (stream : Nat) : Nat × Nat := look (0, 0) stream s.trw.streams

/-- A stream's sequence advanced past a non-null frame (R92). -/
def State.advanceSeq (s : State) (stream : Nat) : State :=
  let n := s.streamNext stream
  { s with trw := { s.trw with streams := put stream ((n.1 + 1) % 65536, n.2) s.trw.streams } }

/-- The node's frame in the drift window or a slot goes out on a port at line time `start`. -/
def State.send (s : State) (port start : Nat) (f : List Nat) : State := s.emit (.line port start f)

/-- Ports that take part in the composition: the end ports, and on a Keystone hub the others (R164). While the trunk
is joined SP0 alone serves it (R70). -/
def State.serves (s : State) (n : Nat) : Bool :=
  (n < 2 || bit s.so.hub 0) && s.get F.SPK_CFG_GEN n != 0
    && !(n == 1 && s.get F.SPK_CFG_GEN 1 == 1 && s.on F.SPK_LINK_JOINED 1)

/-- The serving ports that are up and in service (R76). -/
def State.serving (s : State) : List Nat :=
  (List.range 8).filter (fun n => s.serves n && s.up n && !(s.on F.SPK_LINK_GEN_MISMATCH n))

end Sys2Proof.Machine
end

