-- ==== Sys2Proof/Machine/Quarry.lean ====
section
/-! DEFINITION. The Quarry (chapter 10): address mapping, bank states, regions and guards, accesses with ECC, bank
power, fences, semaphores, march runs, repair. -/

namespace Sys2Proof.Machine

/-! ### Addresses and banks -/

/-- The group of a Quarry byte address: A[25:22] (R267). -/
def qGroup (a : Nat) : Nat := bits a 22 4

/-- The mode bit of a group: true is COURSED; group 15 is always SOLID (R268). -/
def State.coursed (s : State) (g : Nat) : Bool := g != 15 && bit (s.get F.QRY_GRP_MODE) g

/-- The bank that holds a byte address (table of R267). -/
def State.qBank (s : State) (a : Nat) : Nat := if s.coursed (qGroup a) then 4 * qGroup a + bits a 3 2 else bits a 20 6

/-- The bank word that holds a byte address (table of R267). -/
def State.qWord (s : State) (a : Nat) : Nat := if s.coursed (qGroup a) then bits a 5 17 else bits a 3 17

/-- Where the byte at `a` lies: bank × 1 MiB + bank word × 8 + byte. -/
def State.qKey (s : State) (a : Nat) : Nat := s.qBank a * 0x100000 + s.qWord a * 8 + a % 8

/-- The state code of bank `b` (R271). -/
def State.bank (s : State) (b : Nat) : Nat := bits (s.get F.QRY_BANK_STAT (b / 8)) (4 * (b % 8)) 4

/-- Bank `b` takes a state code. -/
def State.setBank (s : State) (b code : Nat) : State :=
  s.set F.QRY_BANK_STAT (setBits (s.get F.QRY_BANK_STAT (b / 8)) (4 * (b % 8)) 4 code) (b / 8)

/-- The two-bit setting of bank `b` in a bank register of 16 banks each. -/
def State.bankSet (s : State) (f : Fld) (b : Nat) : Nat := bits (s.get f (b / 16)) (2 * (b % 16)) 2

/-- The one-bit setting of bank `b` in a LO, HI pair. -/
def State.bankFlag (s : State) (f : Fld) (b : Nat) : Bool := bit (s.get f (b / 32)) (b % 32)

/-- The contents of bank `b` become zero (R274), or are lost. -/
def State.wipeBank (s : State) (b : Nat) : State :=
  { s with qry := { s.qry with
      mem := memClear (b * 0x100000) ((b + 1) * 0x100000) s.qry.mem
      ue := s.qry.ue.filter (fun p => p.1 / 131072 != b) } }

/-! ### Raw bytes -/

/-- `n` bytes as stored from Quarry address `a`. -/
def State.qBytes (s : State) (a n : Nat) : List Nat := (List.range n).map (fun i => memGet 0 (s.qKey (a + i)) s.qry.mem)

/-- Bytes stored from Quarry address `a` upward; a word written whole no longer reads uncorrectable. -/
def State.qStore (s : State) (a : Nat) (bs : List Nat) : State :=
  let mem := (List.range bs.length).foldl (fun m i => memPut 0 (s.qKey (a + i)) (bs.getD i 0) m) s.qry.mem
  let whole (w : Nat) : Bool :=
    (List.range bs.length).any (fun i => (a + i) % 8 == 0 && i + 8 ≤ bs.length && s.qKey (a + i) / 8 == w)
  { s with qry := { s.qry with mem := mem, ue := s.qry.ue.filter (fun p => !(whole p.1)) } }

/-! ### Denials -/

/-- Why an access is not served: the KIND codes of RGN_FAULT_INFO, and a hold (R24, R290, R295). -/
inductive Deny where
  | noRegion | noPerm | fenced | guard | bankOff | bankTest | bankBad | held
  deriving DecidableEq, Repr

/-- The code of RGN_FAULT_INFO.KIND. -/
def Deny.code : Deny → Nat
  | .noRegion => 0 | .noPerm => 1 | .fenced => 2 | .guard => 3 | .bankOff => 4 | .bankTest => 5 | .bankBad => 6 | .held => 4

/-- Region `i` of master `m` covers `[a, a + n)` (R278). -/
def State.regionCovers (s : State) (m i a n : Nat) : Bool :=
  s.on F.RGN_MI_EN (16 * m + i) && s.get F.RGN_MI_BASE (16 * m + i) * 4096 ≤ a
    && a + n ≤ (s.get F.RGN_MI_LIMIT (16 * m + i) + 1) * 4096

/-- Region `i` of master `m` gives the permission an access needs. -/
def State.regionGives (s : State) (m i : Nat) (write : Bool) : Bool :=
  if write then s.on F.RGN_MI_W (16 * m + i) else s.on F.RGN_MI_R (16 * m + i)

/-- The guarded area that `[a, a + n)` meets, by its writer (R281). -/
def guardWriter (a n : Nat) : Option Nat :=
  if a < 0x03B00000 ∧ 0x03A00000 < a + n then some 9
  else if a < 0x04000000 ∧ 0x03FC0000 < a + n then some 12 else none

/-- The master is fenced (R280). -/
def State.mFenced (s : State) (m : Nat) : Bool := bit (s.get F.RGN_FENCED) m

/-- The row of bank word `w` of bank `b` is being copied to its spare (R295). -/
def State.rowCopying (s : State) (b w : Nat) : Bool :=
  s.qry.copies.any (fun k => k / 12 == b && k % 12 < 8 && s.get F.RPR_ROW_ROW k == w / 64)

/-- How bank `b` answers an access to its bank word `w` (R271, R290, R295). -/
def State.bankDeny (s : State) (b w : Nat) : Option Deny :=
  if s.isl.pllLost.contains 9 then some .bankOff else
  match s.bank b with
  | 2 => if s.rowCopying b w then some .held else none
  | 5 => match s.qry.march with
         | some r => if (r.inSegment && r.bank == b && w / 512 == r.segment) || s.rowCopying b w then some .held else none
         | none => none
  | 4 => some .bankTest
  | 6 => some .bankBad
  | 7 => some .held
  | _ => some .bankOff

/-- Why master `m`'s access to `[a, a + n)` is not served, in the order fence, guard, regions, bank; `none` where it is
served (R278, R280, R281, R271). -/
def State.qDeny (s : State) (m a n : Nat) (write : Bool) : Option Deny :=
  if s.mFenced m then some .fenced
  else if write && (match guardWriter a n with | some w => w != m | none => false) then some .guard
  else
    let cover := (List.range 16).filter (fun i => s.regionCovers m i a n)
    if cover.isEmpty then some .noRegion
    else if !(cover.any (fun i => s.regionGives m i write)) then some .noPerm
    else (List.range ((a % 8 + n + 7) / 8)).findSome? (fun j => s.bankDeny (s.qBank (a / 8 * 8 + 8 * j)) (s.qWord (a / 8 * 8 + 8 * j)))

/-- Why an engine's access is refused: a hold only delays it, by at most the 7.04 µs of R291, and it is served (R295). -/
def State.qRefuse (s : State) (m a n : Nat) (write : Bool) : Option Deny :=
  match s.qDeny m a n write with
  | some .held =>
    (List.range ((a % 8 + n + 7) / 8)).findSome? (fun j =>
      match s.bankDeny (s.qBank (a / 8 * 8 + 8 * j)) (s.qWord (a / 8 * 8 + 8 * j)) with
      | some .held => none
      | d => d)
  | d => d

/-- An engine's access is held for a while: the record it produces carries DEFERRED (R291). -/
def State.qHeld (s : State) (a n : Nat) : Bool :=
  (List.range ((a % 8 + n + 7) / 8)).any (fun j =>
    s.bankDeny (s.qBank (a / 8 * 8 + 8 * j)) (s.qWord (a / 8 * 8 + 8 * j)) == some .held)

/-- A denial logged (R279). -/
def State.denied (s : State) (m a : Nat) (write : Bool) (d : Deny) : State :=
  let c := F.RGN_FAULT_CNT (m % 2)
  (((((s.set F.RGN_FAULT_ADDR a).set F.RGN_FAULT_INFO_MASTER m).set F.RGN_FAULT_INFO_KIND d.code).setB
    F.RGN_FAULT_INFO_WRITE write).inc c (m / 2)).irq 0x21 8

/-! ### Accesses of the node's engines: whole reads and writes with the checks of R278 to R281 -/

/-- The address of the first word of `[a, a + n)` that reads uncorrectable. -/
def State.ueIn (s : State) (a n : Nat) : Option Nat :=
  (List.range ((a % 8 + n + 7) / 8)).findSome? (fun j =>
    let w := a / 8 * 8 + 8 * j
    if s.qry.ue.any (fun p => p.1 == s.qKey w / 8) then some w else none)

/-- An uncorrectable word is counted and logged, with its mark (R275, R458). -/
def State.eccUe (s : State) (m a syn : Nat) (scrub : Bool) : State :=
  let s := (s.inc F.QRY_ECC_UE).set F.QRY_ECC_ADDR (a / 8)
  let s := ((s.set F.QRY_ECC_INFO_SYNDROME syn).set F.QRY_ECC_INFO_MASTER m).set F.QRY_ECC_INFO_UE 1
  let s := ((s.setB F.QRY_ECC_INFO_SCRUB scrub).set F.QRY_ECC_INFO_HARD 0).irq 0x20 9
  (s.urgent 5).mark 0x052 (le 4 a ++ [m, 0])

/-- A single-bit error is corrected, counted and logged (R275). -/
def State.eccCe (s : State) (m a syn : Nat) (scrub hard : Bool) : State :=
  let s := (s.inc F.QRY_ECC_CE).set F.QRY_ECC_ADDR (a / 8)
  let s := ((s.set F.QRY_ECC_INFO_SYNDROME syn).set F.QRY_ECC_INFO_MASTER m).set F.QRY_ECC_INFO_UE 0
  ((s.setB F.QRY_ECC_INFO_SCRUB scrub).setB F.QRY_ECC_INFO_HARD hard).irq 0x20 8

/-- What an engine's read or write of the Quarry ends in. -/
inductive QStat where
  | ok | denied (d : Deny) | ue (a : Nat)
  deriving DecidableEq, Repr

/-- Master `m` reads `n` bytes from `a`: what it ends in, the bytes (empty where denied), and the node after. -/
def State.qRead (s : State) (m a n : Nat) : QStat × List Nat × State :=
  match s.qRefuse m a n false with
  | some d => (.denied d, [], s.denied m a false d)
  | none =>
    match s.ueIn a n with
    | some w => (.ue w, s.qBytes a n, s.eccUe m w (look 0 (s.qKey w / 8) s.qry.ue) false)
    | none => (.ok, s.qBytes a n, s)

/-- Master `m` writes bytes from `a`. A word it writes in part that reads uncorrectable stays unchanged (R275). -/
def State.qWrite (s : State) (m a : Nat) (bs : List Nat) : QStat × State :=
  match s.qRefuse m a bs.length true with
  | some d => (.denied d, s.denied m a true d)
  | none =>
    let n := bs.length
    let part := (List.range ((a % 8 + n + 7) / 8)).findSome? (fun j =>
      let w := a / 8 * 8 + 8 * j
      if (w < a || a + n < w + 8) && s.qry.ue.any (fun p => p.1 == s.qKey w / 8) then some w else none)
    match part with
    | some w => (.ue w, s.eccUe m w (look 0 (s.qKey w / 8) s.qry.ue) false)
    | none => (.ok, s.qStore a bs)

/-! ### One access as a command (R275, R276, R279) -/

/-- The status an access is answered with: 0 served, 1 poisoned or uncorrectable, 2 denied, 3 held. -/
def State.answer (s : State) (m a st d : Nat) : State := s.emit (.quarry m a st d)

/-- The bytes of a write merged into the word under the byte enables. -/
def mergeBytes (old new be : Nat) : Nat :=
  ((List.range 8).map (fun i => (if bit be i then new / 256 ^ i % 256 else old / 256 ^ i % 256) * 256 ^ i)).sum

/-- The bytes a set of enables covers: offset of the first and their span. -/
def beSpan (be : Nat) : Nat × Nat :=
  let l := oneBits 8 be
  (l.headD 0, if l.isEmpty then 0 else l.getLastD 0 + 1 - l.headD 0)

/-- A served access to the word at `w` (a multiple of 8), with what its read finds. A write of all eight bytes reads
nothing; a narrower one is a read-modify-write (R269). -/
def State.qServe (s : State) (m w be : Nat) (write : Option Nat) (u : Upset) : State :=
  let key := s.qKey w / 8
  let stored := leVal (s.qBytes w 8)
  let u := if s.qry.ue.any (fun p => p.1 == key) then .multi (look 0 key s.qry.ue) else u
  if write.isSome && be == 0xFF then (s.qStore w (le 8 (write.getD 0))).answer m w 0 0
  else
    match u with
    | .multi syn =>
      let s := s.eccUe m w syn false
      let s := { s with qry := { s.qry with ue := (key, syn) :: s.qry.ue.filter (fun p => p.1 != key) } }
      s.answer m w 1 (if write.isSome then 0 else stored)
    | .single syn =>
      let s := s.eccCe m w syn false false
      match write with
      | some v => (s.qStore w (le 8 (mergeBytes stored v be))).answer m w 0 0
      | none => s.answer m w 0 stored
    | .none =>
      match write with
      | some v => (s.qStore w (le 8 (mergeBytes stored v be))).answer m w 0 0
      | none => s.answer m w 0 stored

/-- One access of master `m` to the Quarry word at `w`: denied, held or served (R278, R279, R280, R281). -/
def State.qAccess (s : State) (m w be : Nat) (write : Option Nat) (u : Upset) : State :=
  let (o, n) := beSpan be
  match s.qDeny m (w + o) n write.isSome with
  | some .held => ({ s with qry := { s.qry with held := s.qry.held ++ [HeldAccess.mk m w be write] } }).answer m w 3 0
  | some d => (s.denied m (w + o) write.isSome d).answer m w 2 0
  | none => s.qServe m w be write u

/-! ### Bank power (R271 to R274) -/

/-- Bank `b` takes setting `code` (0 OFF, 1 RETAIN, 2 ON): leaving OFF it clears first; a BAD bank and a bank in a
march or repair stay as they are until that ends. -/
def State.powerBank (s : State) (b code : Nat) : State :=
  let now := s.bank b
  if now = 6 then s
  else if code = 0 then (if now = 0 then s else (s.wipeBank b).setBank b 0)
  else if now = 0 then (s.wipeBank b).setBank b 3
  else if now = 3 ∨ now = 4 ∨ now = 5 ∨ now = 7 then s
  else s.setBank b code

/-- Every bank takes its QRY_BANK_RUN setting (R272). -/
def State.powerRun (s : State) : State :=
  (List.range 64).foldl (fun s b => s.powerBank b (s.bankSet F.QRY_BANK_RUN b)) s

/-- A bank that holds part of the Mark Store area is off, clearing, out for a march or BAD (R405, R281). -/
def State.markBanksDown (s : State) : Bool :=
  (if s.coursed 14 then [56, 57, 58, 59] else [58]).any (fun b => let c := s.bank b; c != 2 && c != 5 && c != 7)

/-- A clearing bank finishes (R274): it becomes ON, or takes the RETAIN its setting asks for; CLEAR_DONE when it was the
last one. -/
def State.clearDone (s : State) (b : Nat) : State :=
  if s.bank b != 3 then s else
    let s := s.setBank b (if s.bankSet F.QRY_BANK_RUN b = 1 then 1 else 2)
    if (List.range 64).all (fun c => s.bank c != 3) then s.irq 0x20 10 else s

/-! ### Fences (R280) -/

/-- The fence masks and events after a write that leaves `mask` fenced. -/
def State.fenceTo (s : State) (mask writer : Nat) : State :=
  (((s.set F.RGN_FENCED mask).irq 0x21 9).urgent 2).mark 0x051 (le 2 mask ++ [writer, 0])

/-! ### Semaphores (R284 to R287) -/

/-- Semaphore `n` is freed with ENDED set, counted and marked; `how` is 0 expiry, 1 break (R285, R286). -/
def State.semEnd (s : State) (n how : Nat) : State :=
  let owner := s.get F.QRY_SEMN_OWNER n
  let tag := s.get F.QRY_SEMN_TAG n
  let s := ((((s.set F.QRY_SEMN_HELD 0 n).set F.QRY_SEMN_ENDED 1 n).set F.QRY_SEMN_OWNER 0 n).set F.QRY_SEMN_TAG 0 n)
  let s := { s with qry := { s.qry with leases := del n s.qry.leases } }
  (((s.inc F.QRY_SEM_ENDED).irq 0x20 11).mark 0x050 ([n, owner] ++ le 2 tag ++ [how, 0]))

/-- The lease of semaphore `n` has passed its expiry on the timer of Quarry island 0 (R285, R158). -/
def State.semExpired (s : State) (n : Nat) : Bool :=
  s.on F.QRY_SEMN_HELD n && look 0 n s.qry.leases ≤ s.clk.q0Ns

/-- Semaphore `n` with an expiry that has passed taken into account. -/
def State.semSettle (s : State) (n : Nat) : State := if s.semExpired n then s.semEnd n 0 else s

/-- Semaphore `n` is held by master `m` with tag `tag`. -/
def State.semHolds (s : State) (n m tag : Nat) : Bool :=
  s.on F.QRY_SEMN_HELD n && s.get F.QRY_SEMN_OWNER n == m && s.get F.QRY_SEMN_TAG n == tag

/-- A lease of `ms` milliseconds from now. -/
def State.semLease (s : State) (n ms : Nat) : State :=
  { s with qry := { s.qry with leases := put n (s.clk.q0Ns + ms * 1000000) s.qry.leases } }

/-- The operation a write to QRY_SEM_n may carry: the code applied and whether it was clamped (R284). -/
def State.semLegal (s : State) (n m tag op : Nat) : Nat × Bool :=
  let s := s.semSettle n
  if op = 0 then (0, false)
  else if (op = 1 ∨ op = 2) ∧ s.mFenced m then (0, true)
  else if op = 1 then (1, false)
  else if s.semHolds n m tag then (op, false) else (0, true)

/-- A write to QRY_SEM_n takes effect (R284). -/
def State.semOp (s : State) (n m tag lease op : Nat) : State :=
  let s := s.semSettle n
  match op with
  | 1 =>
    if !(s.on F.QRY_SEMN_HELD n) then
      (((s.set F.QRY_SEMN_HELD 1 n).set F.QRY_SEMN_OWNER m n).set F.QRY_SEMN_TAG tag n).semLease n lease
    else if s.semHolds n m tag then s.semLease n lease
    else s.inc F.QRY_SEM_CONTEND
  | 2 => s.semLease n lease
  | 3 =>
    let s := { s with qry := { s.qry with leases := del n s.qry.leases } }
    (((s.set F.QRY_SEMN_HELD 0 n).set F.QRY_SEMN_ENDED 0 n).set F.QRY_SEMN_OWNER 0 n).set F.QRY_SEMN_TAG 0 n
  | _ => s

/-- Milliseconds left of semaphore `n`'s lease, rounded up. -/
def State.semLeft (s : State) (n : Nat) : Nat :=
  if s.on F.QRY_SEMN_HELD n then (look 0 n s.qry.leases - s.clk.q0Ns + 999999) / 1000000 else 0

/-- Every semaphore held by a master of `mask` is freed (R286). -/
def State.semBreak (s : State) (mask : Nat) : State :=
  (List.range 64).foldl (fun s n =>
    if s.on F.QRY_SEMN_HELD n && bit mask (s.get F.QRY_SEMN_OWNER n) then s.semEnd n 1 else s) s

/-- Every semaphore becomes free with ENDED clear (R287). -/
def State.semReset (s : State) : State :=
  let s := { s with qry := { s.qry with leases := [] } }
  s.eraseRegs 0x20400 0x20500

/-! ### Repair (R293 to R296) -/

/-- Entry `e` (0 to 11) of bank `b` is VALID. -/
def State.rprValid (s : State) (k : Nat) : Bool := if k % 12 < 8 then s.on F.RPR_ROW_VALID k else s.on F.RPR_COL_VALID k
/-- The entry is FUSED. -/
def State.rprFused (s : State) (k : Nat) : Bool := if k % 12 < 8 then s.on F.RPR_ROW_FUSED k else s.on F.RPR_COL_FUSED k
/-- The entry's spare is SPARE_BAD. -/
def State.rprBad (s : State) (k : Nat) : Bool := if k % 12 < 8 then s.on F.RPR_ROW_SPARE_BAD k else s.on F.RPR_COL_SPARE_BAD k
/-- The entry's spare can be allocated. -/
def State.rprFree (s : State) (k : Nat) : Bool := !(s.rprValid k) && !(s.rprBad k)

/-- Bank `b` has no usable spare left. -/
def State.rprExhausted (s : State) (b : Nat) : Bool := (List.range 12).all (fun e => !(s.rprFree (12 * b + e)))

/-- RPR_EXHAUSTED brought up to date for bank `b`. -/
def State.noteExhausted (s : State) (b : Nat) : State :=
  if s.rprExhausted b && !(s.bankFlag F.RPR_EXHAUSTED b) then
    (s.orBit F.RPR_EXHAUSTED (b % 32) (b / 32)).irq 0x23 9 else s

/-- A soft spare row for row `r` of bank `b`, where one is free: the new state and whether it was allocated. -/
def State.allocRow (s : State) (b r : Nat) : State × Bool :=
  match (List.range 8).find? (fun e => s.rprFree (12 * b + e)) with
  | some e =>
    ((((s.set F.RPR_ROW_ROW r (12 * b + e)).set F.RPR_ROW_VALID 1 (12 * b + e)).irq 0x23 8).noteExhausted b, true)
  | none => (s.noteExhausted b, false)

/-- A soft spare column for column `c` of slice `sl` of bank `b`. -/
def State.allocCol (s : State) (b c sl : Nat) : State × Bool :=
  match (List.range 4).find? (fun e => s.rprFree (12 * b + 8 + e)) with
  | some e =>
    let k := 12 * b + 8 + e
    (((((s.set F.RPR_COL_COL c k).set F.RPR_COL_SLICE sl k).set F.RPR_COL_VALID 1 k).irq 0x23 8).noteExhausted b, true)
  | none => (s.noteExhausted b, false)

/-- The (column, slice) pairs that failed in three or more rows, each once (R294 step 1). -/
def badColumns (cells : List FailCell) : List (Nat × Nat) :=
  let pairs := (cells.map (fun c => (c.col, c.slice))).eraseDups
  pairs.filter (fun p => 3 ≤ ((cells.filter (fun c => (c.col, c.slice) == p)).map (·.row)).eraseDups.length)

/-- The spares of bank `b` allocated to the cells that failed (R294 steps 1 and 2): the new state, whether every cell
found a spare, and how many entries were taken. -/
def State.allocate (s : State) (b : Nat) (cells : List FailCell) : State × Bool × Nat :=
  let cols := badColumns cells
  let p := cols.foldl (fun (q : State × Bool × Nat) c =>
    let (s, ok) := q.1.allocCol b c.1 c.2
    (s, q.2.1 && ok, q.2.2 + ok.toNat)) (s, true, 0)
  let rest := cells.filter (fun c => !(cols.contains (c.col, c.slice)))
  let rows := (rest.map (·.row)).eraseDups
  rows.foldl (fun (q : State × Bool × Nat) r =>
    let (s, ok) := q.1.allocRow b r
    (s, q.2.1 && ok, q.2.2 + ok.toNat)) p

/-- Spares that failed their own march are marked and never allocated (R293). -/
def State.markSpares (s : State) (b : Nat) (bad : List Nat) : State :=
  bad.foldl (fun s e => if e < 8 then s.set F.RPR_ROW_SPARE_BAD 1 (12 * b + e) else s.set F.RPR_COL_SPARE_BAD 1 (12 * b + e)) s

/-- The result of a march run: 1 PASS, 2 PASS_REPAIRED, 3 FAIL, with the spares allocated (R294). -/
def State.marchResult (s : State) (f : MarchFacts) : State × Nat × Nat :=
  let s := s.markSpares f.bank f.badSpares
  if f.cells.isEmpty then (s, 1, 0)
  else
    let (s, ok, n) := s.allocate f.bank f.cells
    (s, if ok && f.again then 2 else 3, n)

/-- The first failing cell of a run reported (MRCH_FAIL_WORD, MRCH_FAIL_BITS). -/
def State.marchFail (s : State) (f : MarchFacts) : State :=
  match f.cells with
  | [] => s
  | c :: _ =>
    let w := c.row * 64 + c.col
    let n := (f.cells.filter (fun d => d.row * 64 + d.col == w)).length
    (((s.set F.MRCH_FAIL_WORD w).set F.MRCH_FAIL_BITS_BIT c.slice).set F.MRCH_FAIL_BITS_COUNT n).set
      F.MRCH_FAIL_BITS_ELEMENT f.element

/-! ### March commands and events (R290 to R292) -/

/-- A bank that holds part of a guarded area (R281, R292). -/
def State.bankGuarded (s : State) (b : Nat) : Bool :=
  b == 63 || (if s.coursed 14 then 56 ≤ b && b ≤ 59 else b == 58)

/-- The element of March C− that has run for `t` ns at `u` ns for each operation on every word: elements 1 and 6 take one
operation, the others two (R288). -/
def elementAt (u t : Nat) : Nat :=
  if t < u then 1 else if t < 3 * u then 2 else if t < 5 * u then 3 else if t < 7 * u then 4 else if t < 9 * u then 5 else 6

/-- MRCH_STAT.ELEMENT: the element in progress, 0 while no element is (R288, R290). A segment of a transparent run reads its
signature first, which DESIGN CHOICE counts as element 1 (log entry 103). -/
def State.marchElement (s : State) : Nat :=
  match s.qry.march with
  | none => 0
  | some r =>
    let t := s.clk.now - r.segEnd
    if r.destructive then elementAt 164500 (t % 1645000) else if r.inSegment then elementAt 640 (t - 640) else 0

/-- The next element boundary of a destructive run, from the instant now. -/
def State.elementEnd (s : State) (r : MarchRun) : Nat :=
  let t := (s.clk.now - r.segEnd) % 1645000
  let ends := [164500, 493500, 822500, 1151500, 1480500, 1645000]
  s.clk.now + (((ends.find? (fun e => t ≤ e)).getD 1645000) - t)

/-- Bank `b` serves again: ON, or RETAIN where QRY_BANK_RUN asks for it by now (R272). -/
def State.bankBack (s : State) (b : Nat) : State := s.setBank b (if s.bankSet F.QRY_BANK_RUN b = 1 then 1 else 2)

/-- A march run starts (R290). -/
def State.marchStart (s : State) (b : Nat) (transparent full : Bool) : State :=
  let s := { s with qry := { s.qry with march := some (MarchRun.mk b (!transparent) full 0 0 s.clk.now false false) } }
  let s := ((s.set F.MRCH_STAT_BUSY 1).set F.MRCH_STAT_BANK b).set F.MRCH_STAT_RESULT 0
  let s := s.set F.MRCH_STAT_SEGMENT 0
  if transparent then s.setBank b 5 else (s.wipeBank b).setBank b 4

/-- How the bank of a held access answers it now. -/
def State.heldDeny (s : State) (h : HeldAccess) : Option Deny := s.bankDeny (s.qBank h.addr) (s.qWord h.addr)

/-- A held access goes on: it was accepted before, so a fence set since does not stop it (R280), only its bank may. -/
def State.resume (s : State) (h : HeldAccess) : State :=
  match s.heldDeny h with
  | some .held => { s with qry := { s.qry with held := s.qry.held ++ [h] } }
  | some d => (s.denied h.master (h.addr + (beSpan h.be).1) h.write.isSome d).answer h.master h.addr 2 0
  | none => s.qServe h.master h.addr h.be h.write .none

/-- The accesses that wait for a bank are delivered, in their order (R24, R291). -/
def State.deliverHeld (s : State) : State :=
  let l := s.qry.held
  let s := { s with qry := { s.qry with held := [] } }
  l.foldl (fun s h => s.resume h) s

/-- The first held access is delivered (HELD_TRANSFER_DELIVERY), once nothing holds it any more. -/
def State.deliverOne (s : State) : State :=
  match s.qry.held with
  | [] => s
  | h :: t =>
    if s.heldDeny h = some .held then s else ({ s with qry := { s.qry with held := t } }).resume h

/-- A march run ends with result `code`; the bank returns to ON, a destroyed one holding zeros (R290, R292). -/
def State.marchFinish (s : State) (r : MarchRun) (code : Nat) : State :=
  let s := { s with qry := { s.qry with march := none } }
  let s := ((s.set F.MRCH_STAT_BUSY 0).set F.MRCH_STAT_RESULT code).irq 0x22 8
  let s := if code = 4 then s else s.inc F.MRCH_RUNS
  let s := if code = 3 then ((s.irq 0x22 9).irq 0x20 12).mark 0x053 [r.bank, 0] else s
  let s := if s.bank r.bank != 4 && s.bank r.bank != 5 then s
    else if r.destructive && code = 4 then (s.wipeBank r.bank).setBank r.bank 3
    else (if r.destructive then s.wipeBank r.bank else s).bankBack r.bank
  s.deliverHeld

/-- A march run whose bank is switched off under it ends (R272). -/
def State.marchGone (s : State) : State :=
  match s.qry.march with
  | some r =>
    if s.bank r.bank = 0 then
      { (s.set F.MRCH_STAT_BUSY 0).set F.MRCH_STAT_RESULT 4 with
        qry := { s.qry with march := none } }
    else s
  | none => s

/-! ### The patrol (R277) -/

/-- The first bank word at or after `k` (bank × 131,072 + word) that lies in an ON bank. -/
def State.scrubNext (s : State) (k : Nat) : Option Nat :=
  let b := k / 131072
  if s.bank (b % 64) = 2 then some (k % (64 * 131072))
  else ((List.range 64).map (fun i => (b + 1 + i) % 64)).find? (fun c => s.bank c == 2) |>.map (· * 131072)

/-- The Quarry address of a bank word. -/
def State.qAddr (s : State) (k : Nat) : Nat :=
  let b := k / 131072 % 64
  let w := k % 131072
  if s.coursed (b / 4) then b / 4 * 0x400000 + w * 32 + b % 4 * 8 else b * 0x100000 + w * 8

/-- The patrol reads its next word (R277): what it finds, and whether a corrected word reads back still in error. -/
def State.patrol (s : State) (u : Upset) (hard : Bool) : State :=
  match s.scrubNext s.qry.scrub with
  | none => s
  | some k =>
    let a := s.qAddr k
    let adv (s : State) : State := { s with qry := { s.qry with scrub := (k + 1) % (64 * 131072) } }
    let u := if s.qry.ue.any (fun p => p.1 == k) then .multi (look 0 k s.qry.ue) else u
    match u with
    | .none => adv s
    | .single syn =>
      let s := s.eccCe 13 a syn true hard
      if hard && s.on F.QRY_CFG_AUTO_REPAIR then
        let b := k / 131072
        let e := ((List.range 8).find? (fun e => s.rprFree (12 * b + e))).getD 0
        let (s, ok) := s.allocRow b (k % 131072 / 64)
        adv (if ok then { s.inc F.RPR_SOFT_ADDED with qry := { s.qry with copies := s.qry.copies ++ [12 * b + e] } } else s)
      else adv s
    | .multi syn =>
      let s := s.eccUe 13 a syn true
      adv { s with qry := { s.qry with ue := (k, syn) :: s.qry.ue.filter (fun p => p.1 != k) } }

end Sys2Proof.Machine
end

