-- ==== Sys2Proof/Machine/Vault.lean ====
section
/-! DEFINITION. The Vault (chapter 16): mapping, program operations and erase pulses in their order of service, wear,
retirement, exhaustion, host commands, and the check of a microcode image. -/

namespace Sys2Proof.Machine

/-! ### Mapping -/

/-- The physical sector that holds logical sector `l` (R409). -/
def State.phys (s : State) (l : Nat) : Nat := look l l s.vault.remap

/-- The wear table's entry of physical sector `p`. -/
def State.physInfo (s : State) (p : Nat) : Phys :=
  look ⟨0, if p < 1792 then .inUse else .spare, false, false, false⟩ p s.vault.wear

/-- The wear table's entry of `p` replaced. -/
def State.setPhys (s : State) (p : Nat) (x : Phys) : State := { s with vault := { s.vault with wear := put p x s.vault.wear } }

/-- The physical offset of logical offset `x`. -/
def State.vKey (s : State) (x : Nat) : Nat := s.phys (x / 4096) * 4096 + x % 4096

/-- `n` bytes as stored from logical offset `x`. -/
def State.vBytes (s : State) (x n : Nat) : List Nat := (List.range n).map (fun i => memGet 0xFF (s.vKey (x + i)) s.vault.mem)

/-- The same as a window shows it: offsets in SPARE read zero (R408). -/
def State.vWindow (s : State) (x n : Nat) : List Nat :=
  (List.range n).map (fun i => if 0x700000 ≤ x + i then 0 else memGet 0xFF (s.vKey (x + i)) s.vault.mem)

/-- Bytes programmed from logical offset `x`. -/
def State.vStore (s : State) (x : Nat) (bs : List Nat) : State :=
  { s with vault := { s.vault with
      mem := (List.range bs.length).foldl (fun m i => memPut 0xFF (s.vKey (x + i)) (bs.getD i 0) m) s.vault.mem } }

/-- The logical sector reads erased. -/
def State.vWipe (s : State) (l : Nat) : State :=
  let p := s.phys l
  { s with vault := { s.vault with mem := memClear (p * 4096) (p * 4096 + 4096) s.vault.mem,
                                   ue := s.vault.ue.filter (fun w => w / 512 != p) } }

/-- Bytes programmed from logical offset `x` that have not verified: what they read is open. -/
def State.vSpoil (s : State) (x n : Nat) : State :=
  s.vStore x ((List.range n).map (fun i => Config.unverified (s.vKey (x + i)) (s.physInfo (s.phys (x / 4096))).count))

/-- The logical sector after erase pulse `n` that has not erased it: what it reads is open (R411). -/
def State.vSmear (s : State) (l n : Nat) : State :=
  let p := s.phys l
  let m := memClear (p * 4096) (p * 4096 + 4096) s.vault.mem
  { s with vault := { s.vault with
      mem := (List.range 4096).foldr (fun i m => memPut 0xFF (p * 4096 + i)
        (Config.unverified (p * 4096 + i) (16 * (s.physInfo p).count + n)) m) m } }

/-- The words of logical offsets `[x, x + n)` read erased: 0xFF in every byte, and correctable (R410). -/
def State.vErased (s : State) (x n : Nat) : Bool :=
  (s.vBytes x n).all (· == 0xFF) && !((List.range n).any (fun i => s.vault.ue.contains (s.vKey (x + i) / 8)))

/-- Spares remaining (VLT_STAT.SPARES_LEFT). -/
def State.spares (s : State) : Nat := s.get F.VLT_STAT_SPARES_LEFT

/-- The partitions are read-only: the pool is exhausted or the remap tables are lost (R418). -/
def State.vaultRo (s : State) : Bool := s.on F.VLT_STAT_EXHAUSTED || s.on F.VLT_STAT_MAP_LOST

/-- Logical sector `l` may not be written while the pool is exhausted: every partition but MARKS and DUMP (R418). -/
def roSector (l : Nat) : Bool := l < 704

/-! ### Order of service (R413) -/

/-- The class of an operation (table of R413). -/
def VPurpose.cls : VPurpose → Nat
  | .save => 1 | .retire _ _ => 2 | .dump _ => 3 | .dumpErase _ => 3 | .tally _ => 4 | .tallyErase => 4 | .mirror _ => 5
  | .host => 6 | .hostErase => 6 | .aborting => 6 | .marksErase => 7 | .redo c => c

/-- The operation served next: the highest class, in order of arrival. -/
def vNext (ops : List VOp) : Option VOp :=
  (List.range 7).findSome? (fun c => ops.find? (fun o => o.purpose.cls == c + 1))

/-- The queue without the operation served next. -/
def vRest (ops : List VOp) : List VOp :=
  match vNext ops with
  | some o => ops.erase o
  | none => ops

/-- The queue with the operation served next replaced. -/
def vReplace (ops : List VOp) (o' : VOp) : List VOp :=
  match vNext ops with
  | some o => ops.map (fun x => if x == o then o' else x)
  | none => ops

/-- VLT_STAT shows the class served. -/
def State.vShow (s : State) : State :=
  match vNext s.vault.ops with
  | some o => (s.set F.VLT_STAT_BUSY 1).set F.VLT_STAT_OP o.purpose.cls
  | none => (s.set F.VLT_STAT_BUSY 0).set F.VLT_STAT_OP 0

/-- The queue replaced. -/
def State.vOps (s : State) (ops : List VOp) : State := ({ s with vault := { s.vault with ops := ops } }).vShow

/-- An operation joins the queue. -/
def State.vPush (s : State) (o : VOp) : State :=
  let l := o.sector
  let cut := !o.erase && !o.rows.isEmpty && o.purpose != .save && (s.physInfo (s.phys l)).incomplete
    && !(s.vault.ops.any (fun x => x.erase && x.sector == l))
  s.vOps (s.vault.ops ++ (if cut then [⟨.redo o.purpose.cls, [], l, true, 0, false⟩] else []) ++ [o])

/-- Runs of whole words within one 256-byte row, from logical offset `x` (R410). -/
def vRowsFuel : Nat → Nat → List Nat → List (Nat × List Nat)
  | 0, _, _ => []
  | n + 1, x, bs =>
    if bs.isEmpty then [] else
      let k := 256 - x % 256
      (x, bs.take k) :: vRowsFuel n (x + k) (bs.drop k)

/-- The program operations that write `bs` at logical offset `x`. -/
def vRows (x : Nat) (bs : List Nat) : List (Nat × List Nat) := vRowsFuel (bs.length / 256 + 2) x bs

/-! ### Wear, retirement, exhaustion (R414 to R418) -/

/-- A VAULT_WEAR mark (payload after R417). -/
def State.wearMark (s : State) (cause sector : Nat) : State := s.mark 0x091 ([cause, 0] ++ le 2 s.spares ++ le 2 sector)

/-- Sector `l` triggers a retirement, or becomes FAILED where no spare is left (R415, R418). -/
def State.trigger (s : State) (l cause : Nat) : State :=
  let p := s.phys l
  if s.spares = 0 || s.vaultRo then s.setPhys p { s.physInfo p with state := .failed }
  else if s.vault.ops.any (fun o => match o.purpose with | .retire k _ => k == l | _ => false) then s
  else s.vPush ⟨.retire l cause, [], l, false, 0, false⟩

/-- The erased spare with the lowest weighted count, the lowest number among equals (R416 step 2). -/
def State.pickSpare (s : State) : Option Nat :=
  (((List.range 256).map (· + 1792)).filter (fun p => decide ((s.physInfo p).state = .spare))).foldl
    (fun (o : Option Nat) p =>
      match o with
      | none => some p
      | some q => if (s.physInfo p).count < (s.physInfo q).count then some p else o) none

/-- SPARES_LEFT falls by 1, with WEAR_WARN below 64 and EXHAUSTED at 0 (R417, R418). -/
def State.spendSpare (s : State) (p : Nat) : State :=
  let n := s.spares - 1
  let s := s.set F.VLT_STAT_SPARES_LEFT n
  let s := if n < 64 && !(s.on F.VLT_STAT_WEAR_WARN) then ((s.set F.VLT_STAT_WEAR_WARN 1).irq 0x35 10).wearMark 0 p else s
  if n = 0 then (((s.set F.VLT_STAT_EXHAUSTED 1).irq 0x35 11).wearMark 1 0xFFFF).set F.MARK_STAT_FIRST_ONLY 1 else s

/-- Spares that themselves trigger a retirement while they are written are retired as well (after R416). -/
def State.burnSpares : Nat → State → State
  | 0, s => s
  | n + 1, s =>
    match s.pickSpare with
    | some p => State.burnSpares n (((s.setPhys p { s.physInfo p with state := .retired }).inc F.VLT_RETIRED).spendSpare p)
    | none => s

/-- A retirement of logical sector `l` ends (R416 steps 2 to 5), `ue` words having been copied as stored. -/
def State.retire (s : State) (l cause ue : Nat) : State :=
  let p := s.phys l
  match s.pickSpare with
  | none => s.setPhys p { s.physInfo p with state := .failed }
  | some q =>
    let old := s.vBytes (l * 4096) 4096
    let slow := (s.physInfo p).slow
    let s := { s with vault := { s.vault with remap := put l q s.vault.remap, updates := s.vault.updates + 1 } }
    let s := (s.setPhys q { s.physInfo q with state := .inUse }).setPhys p { s.physInfo p with state := .retired }
    let s := s.vStore (l * 4096) old
    let s := { s with vault := { s.vault with
      ue := s.vault.ue ++ (s.vault.ue.filter (fun w => w / 512 == p)).map (fun w => q * 512 + w % 512) } }
    let left := s.spares - 1
    let s := (s.inc F.VLT_RETIRED).irq 0x35 9
    let s := s.mark 0x090 (le 2 l ++ le 2 p ++ le 2 q ++ [cause, slow.toNat] ++ le 2 left ++ le 2 ue)
    s.spendSpare p

/-! ### Microcode images (R420) -/

/-- The image at logical offset `base` checks: magic, VERSION, length and CRC. -/
def State.mcodeValid (s : State) (base : Nat) : Bool :=
  let h := s.vBytes base 64
  let len := leVal ((h.drop 8).take 4)
  h.take 4 == [0x5A, 0x4D, 0x43, 0x31] && h.getD 4 0 == 1 && len ≤ 262080
    && leVal ((h.drop 60).take 4) == crc32r (h.take 60 ++ s.vBytes (base + 64) len)

/-- The version an image carries. -/
def State.mcodeVer (s : State) (base : Nat) : Nat := leVal (s.vBytes (base + 12) 2)

/-- VLT_BOOT as a check of both images leaves it. -/
def State.checkBoot (s : State) : State :=
  ((s.setB F.VLT_BOOT_A_VALID (s.mcodeValid 0)).setB F.VLT_BOOT_B_VALID (s.mcodeValid 0x40000)).set F.VLT_BOOT_A_VER
    (s.mcodeVer 0)

/-! ### Ends of operations -/

/-- A host command ends with a result code (R419). -/
def State.hostVaultEnd (s : State) (code sector : Nat) : State :=
  let s := ((s.set F.VLT_RESULT code).set F.VLT_STAT_HOST_BUSY 0).irq 0x35 8
  if sector < 128 then s.checkBoot else s

/-- An operation whose last run or pulse has ended. -/
def State.vComplete (s : State) (o : VOp) : State :=
  let s := s.vOps (s.vault.ops.erase o)
  match o.purpose with
  | .tally n => s.set F.TALY_VLT_IDX ((s.get F.TALY_VLT_IDX + n) % 2 ^ 32)
  | .mirror seq => s.set F.MARK_VLT_HEAD seq
  | .host | .hostErase => s.hostVaultEnd (if o.retired then 2 else 0) o.sector
  | .aborting => s.hostVaultEnd 5 o.sector
  | .dumpErase k => s.set F.DUMP_SLOT 0 k
  | .save | .retire _ _ | .dump _ | .tallyErase | .marksErase | .redo _ => s

/-- The operation served next ends in failure: the host's with FAILED, the others without a trace (R418, R419). -/
def State.vFail (s : State) : State :=
  match vNext s.vault.ops with
  | some o => if o.purpose.cls = 6 then (s.vOps (vRest s.vault.ops)).hostVaultEnd 6 o.sector else s.vOps (vRest s.vault.ops)
  | none => s

/-- A program operation ends after `pulses` pulses with a verify result (R410, R415). -/
def State.programDone (s : State) (pulses : Nat) (v : Verify) : State :=
  match vNext s.vault.ops with
  | none => s
  | some o =>
    match o.erase, o.rows with
    | false, (x, bs) :: rest =>
      let l := x / 4096
      let p := s.phys l
      let bad := decide (v ≠ .clean)
      let fails := bad && !(decide (o.purpose = .save)) && (s.spares = 0 || s.vaultRo)
      if (s.physInfo p).state = .failed then s.vFail
      else if !(s.vErased x bs.length) then
        (if o.purpose.cls = 6 then (s.vOps (vRest s.vault.ops)).hostVaultEnd (if o.purpose = .aborting then 5 else 1) o.sector
         else if rest.isEmpty then s.vComplete o else s.vOps (vReplace s.vault.ops { o with rows := rest }))
      else
        let s := if v = .failed && (fails || o.purpose = .save) then s.vSpoil x bs.length else s.vStore x bs
        let s := if 3 < pulses && !((s.physInfo p).slow) then
            (s.setPhys p { s.physInfo p with slow := true }).inc F.VLT_PROG_SLOW else s
        if fails then (s.trigger l (if v = .corrected then 0 else 1)).vFail
        else
          let o' := { o with rows := rest, retired := o.retired || bad }
          let s := if rest.isEmpty && !bad then s.vComplete o
            else s.vOps (vReplace s.vault.ops o')
          if bad && !(decide (o.purpose = .save)) then s.trigger l (if v = .corrected then 0 else 1) else s
    | false, [] => if o.purpose.cls = 2 then s else s.vComplete o
    | true, _ => s

/-- An erase pulse and its verify end, Tj having read `tj` tenths of a degree (R411, R414). -/
def State.erasePulse (s : State) (tj : Int) (erased : Bool) : State :=
  match vNext s.vault.ops with
  | none => s
  | some o =>
    if !o.erase then s
    else if (s.physInfo (s.phys o.sector)).state = .failed then s.vFail
    else
      let p := s.phys o.sector
      let w := if tj ≤ 1250 then 1 else 5
      let i := s.physInfo p
      let count := if o.pulses = 0 then min (i.count + w) 0xFFFFFF else i.count
      let s := if o.pulses = 0 && w = 5 then s.inc F.VLT_HOT_ERASE else s
      let newOver := 100000 ≤ count && !i.overLimit
      let s := s.setPhys p { i with count := count, overLimit := i.overLimit || newOver, incomplete := false }
      let s := if newOver then s.wearMark 2 p else s
      if erased then (s.vWipe o.sector).vComplete o
      else
        let s := s.vSmear o.sector o.pulses
        if o.purpose = .aborting then s.vComplete o
        else if 10 ≤ o.pulses + 1 then
          if s.spares = 0 || s.vaultRo then (s.trigger o.sector 2).vFail
          else (s.vOps (vReplace s.vault.ops { o with pulses := 0, retired := true })).trigger o.sector 2
        else s.vOps (vReplace s.vault.ops { o with pulses := o.pulses + 1 })

/-- A waiting operation that the exhaustion of the pool leaves without a place: TALLY, CONFIG and BOOT are read-only, and no
sector of MARKS is erased any more (R418, R405). -/
def VOp.barred (o : VOp) : Bool :=
  match o.purpose with
  | .tally _ | .tallyErase | .host | .hostErase | .aborting | .marksErase => true
  | .redo _ => roSector o.sector
  | .save | .retire _ _ | .dump _ | .dumpErase _ | .mirror _ => false

/-- The pool is exhausted: what waits for a read-only partition is dropped, and a host command reports READ_ONLY (R418). -/
def State.roDrop (s : State) : State :=
  if !s.vaultRo then s
  else
    let host := s.vault.ops.find? (fun o => o.purpose.cls == 6 && o.barred)
    let s := s.vOps (s.vault.ops.filter (fun o => !o.barred))
    match host with
    | some o => s.hostVaultEnd (if o.purpose = .aborting then 5 else 3) o.sector
    | none => s

/-- The retirement served next ends: `bad` spares were retired on the way and `ue` words were copied as stored. Where it
took the last spare, exhaustion begins with its end (R418). -/
def State.retirementDone (s : State) (bad ue : Nat) : State :=
  match vNext s.vault.ops with
  | some o =>
    (match o.purpose with
     | .retire l cause => State.roDrop <|
       let s := State.burnSpares bad s
       let s := (s.retire l cause ue).vOps (vRest s.vault.ops)
       let s := { s with vault := { s.vault with retireQ := s.vault.retireQ.filter (fun x => x.1 != l) } }
       let dead := decide ((s.physInfo (s.phys l)).state = .failed)
       match s.vault.ops.find? (fun o => !o.erase && o.rows.isEmpty && o.purpose.cls != 2) with
       | some o =>
         if !dead then s.vComplete o
         else
           let s := s.vOps (s.vault.ops.erase o)
           if o.purpose.cls = 6 then s.hostVaultEnd 6 o.sector else s
       | none => s
     | _ => s)
  | none => s

/-- A program operation, an erase pulse or a retirement has ended: a dump that waits for it may freeze the island (R422). -/
def State.vaultRests (s : State) : State := { s with dump := { s.dump with vault := false } }

/-! ### Host commands (R419) -/

/-- The BOOT partition is open: within 1 ms of the key (R419). -/
def State.bootOpen (s : State) : Bool :=
  match s.vault.bootKey with
  | some t => s.clk.now < t + 1000000
  | none => false

/-- A command on the sector that holds VLT_ADDR is accepted. -/
def State.vaultTarget (s : State) : Bool :=
  let l := s.get F.VLT_ADDR / 512
  (128 ≤ l && l < 192) || (l < 128 && s.bootOpen)

/-- The command that VLT_CMD.OP names starts (R419, R418); OP 0 names none. -/
def State.vaultStart (s : State) (op : Nat) : State :=
  if op = 0 then s else
  let x := s.get F.VLT_ADDR * 8
  let l := x / 4096
  let s := s.set F.VLT_STAT_HOST_BUSY 1
  if s.vaultRo then s.hostVaultEnd 3 l
  else if op = 1 then s.vPush ⟨.hostErase, [], l, true, 0, false⟩
  else
    let (st, bs, s) := s.qRead 14 (s.get F.VLT_SRC * 8) (s.get F.VLT_LEN)
    if st = .ok then s.vPush ⟨.host, vRows x bs, l, false, 0, false⟩ else s.hostVaultEnd 4 l

/-- The host's command ends ABORTED at once (R419). -/
def State.vaultDrop (s : State) : State :=
  match s.vault.ops.find? (fun o => o.purpose.cls == 6) with
  | some o => (s.vOps (s.vault.ops.filter (fun o => o.purpose.cls != 6))).hostVaultEnd 5 o.sector
  | none => s

/-- VLT_CMD.ABORT (R419): the command in service ends at its next row boundary or pulse, one that has not begun at once. -/
def State.vaultAbort (s : State) : State :=
  match vNext s.vault.ops with
  | some o =>
    if o.purpose.cls = 6 && !(!o.erase && o.rows.isEmpty) then
      s.vOps ((vReplace s.vault.ops { o with purpose := .aborting, rows := o.rows.take 1 }).filter
        (fun x => x.purpose.cls != 6 || x.purpose == .aborting))
    else s.vaultDrop
  | none => s.vaultDrop

/-- Loss of main: the program operation in progress completes, the host's command ends ABORTED and an erase begun is left
incomplete (R419, R421). While the island is off, halted or frozen none is in progress. -/
def State.vaultCut (s : State) : State :=
  let s := match vNext s.vault.ops with
    | some o => if o.erase || o.rows.isEmpty || s.vaultAsleep || s.isl.frozen.contains 31 then s
                else s.programDone 1 .clean
    | none => s
  let s := s.vaultDrop
  let s := s.vault.ops.foldl (fun s o => if o.erase && 0 < o.pulses then
    s.setPhys (s.phys o.sector) { s.physInfo (s.phys o.sector) with incomplete := true } else s) s
  let pend := s.vault.ops.filterMap (fun o => match o.purpose with | .retire l c => some (l, c) | _ => none)
  let s := { s with vault := { s.vault with retireQ := (s.vault.retireQ ++ pend).eraseDups } }
  s.vOps []

/-- The highest weighted count among sectors in use. -/
def State.maxWear (s : State) : Nat :=
  s.vault.wear.foldl (fun m p => if p.2.state = .inUse then max m p.2.count else m) 0

/-- The logical sector that physical sector `p` holds; 0x7FF if none (VLT_MAP). -/
def State.logicalOf (s : State) (p : Nat) : Nat :=
  match s.vault.remap.find? (fun e => e.2 == p) with
  | some e => e.1
  | none => if p < 1792 && !(s.vault.remap.any (fun e => e.1 == p)) then p else 0x7FF

end Sys2Proof.Machine
end

