-- ==== Sys2Proof/Machine/MarkStore.lean ====
section
/-! DEFINITION. The Mark recorder (chapter 15): numbering, the rings in the Quarry, the control block, the Vault mirror,
clears and the rebuild. -/

namespace Sys2Proof.Machine

/-- Where the Mark Store area begins (R394). -/
def markBase : Nat := 0x03A00000

/-- The smallest number of the node's own parity that is not below `n` (R398). -/
def State.ownSeq (s : State) (n : Nat) : Nat :=
  if s.boot.role = 1 then n + n % 2 else if s.boot.role = 2 then n + (n + 1) % 2 else n

/-- Where RECENT begins in the area. -/
def State.recentBase (s : State) : Nat := 0x1000 + s.marks.fInForce * 0x10000

/-- The bytes of a record, padded to a multiple of 8 (R396, R397). -/
def State.markBytes (s : State) (m : Mark) (seq : Nat) : List Nat :=
  let len := 16 + m.bytes.length
  let flags := m.deferred.toNat + 2 * (s.boot.role == 2).toNat + 4 * m.invalid.toNat + 8 * (!s.clk.ltOn).toNat
  let body := le 2 len ++ le 2 (m.code + 4096 * flags) ++ le 4 seq ++ le 8 (if s.clk.ltOn then s.clk.lt else 0) ++ m.bytes
  body ++ List.replicate ((8 - len % 8) % 8) 0

/-- The control block by the recorder's registers (table before R401). -/
def State.controlBytes (s : State) : List Nat :=
  let m := s.marks
  let w0 := [0x4D, 0x4B, 0x53, 0x54, 0x01, m.fInForce] ++ le 2 (s.get F.MARK_STAT_GEN)
  let first := le 8 (s.get F.MARK_FIRST_HEAD + m.firstOff * 2 ^ 32 + m.firstFull.toNat * 2 ^ 52)
  let head := le 8 (s.get F.MARK_RECENT_HEAD + m.recentOff * 2 ^ 32)
  let tail := le 8 (s.get F.MARK_RECENT_TAIL + (match m.recs with | [] => 0 | r :: _ => r.off) * 2 ^ 32)
  w0 ++ first ++ head ++ tail ++ le 8 (s.get F.MARK_WRAPS)

/-- The control block as the recorder writes it. -/
def State.writeControl (s : State) : State := (s.qWrite 9 markBase s.controlBytes).2

/-- A record lost to the mirror: counted, and the range that a MIRROR_GAP will name grows (R405). -/
def State.mirrorLost (s : State) (seq : Nat) : State :=
  let m := s.marks
  let s := { s with marks := { m with gapFrom := if m.gapFrom = 0 then seq else m.gapFrom, gapTo := seq } }
  (s.inc F.MARK_MIRROR_LOST).irq 0x34 13

/-- Every record that waits for the mirror is lost to it. -/
def State.loseMirror (s : State) : State :=
  let l := s.marks.toMirror
  l.foldl (fun s r => s.mirrorLost r.seq) { s with marks := { s.marks with toMirror := [] } }

/-- Bytes of RECENT that hold records, pads included. -/
def State.recentUsed (s : State) : Nat :=
  let ring := 0x100000 - s.recentBase
  match s.marks.recs with
  | [] => 0
  | r :: _ => let d := (s.marks.recentOff + ring - r.off) % ring
              if d = 0 then ring else d

/-- The oldest records freed until `need` bytes are free (R401 step 1); a record not yet mirrored is lost to it. -/
def State.freeRecent : Nat → Nat → State → State
  | 0, _, s => s
  | n + 1, need, s =>
    if s.recentUsed + need ≤ 0x100000 - s.recentBase then s else
      match s.marks.recs with
      | [] => s
      | r :: t =>
        let waits := s.marks.toMirror.any (fun x => x.seq == r.seq)
        let s := { s with marks := { s.marks with recs := t,
                                                  toMirror := s.marks.toMirror.filter (fun x => x.seq != r.seq) } }
        let s := if waits then s.mirrorLost r.seq else s
        State.freeRecent n need s

/-- A record written into RECENT by the three steps of R401: its offset, and the node after. -/
def State.writeRecent (s : State) (seq : Nat) (bs : List Nat) : Nat × State :=
  let room := 0x100000 - s.marks.recentOff
  let wrap := room < bs.length
  let need := if wrap then room + bs.length else bs.length
  let s := State.freeRecent 65536 need s
  let s := if wrap && 0 < room then
      (s.qWrite 9 (markBase + s.marks.recentOff) (le 2 room ++ List.replicate (room - 2) 0)).2 else s
  let off := if wrap then s.recentBase else s.marks.recentOff
  let s := (s.qWrite 9 (markBase + off) bs).2
  let next := off + bs.length
  let s := if wrap || next = 0x100000 then s.inc F.MARK_WRAPS else s
  let s := { s with marks := { s.marks with recentOff := if next = 0x100000 then s.recentBase else next,
                                            recs := s.marks.recs ++ [MarkRec.mk seq bs off false] } }
  let s := s.set F.MARK_RECENT_HEAD seq
  (off, s.set F.MARK_RECENT_TAIL (match s.marks.recs with | [] => 0 | r :: _ => r.seq))

/-- Where a record of `n` bytes goes in a mirror whose next free byte is `off`: a sector opens with a 32-byte header
and a record does not cross a sector (R405). -/
def mirrorPlace (off n : Nat) : Nat :=
  if off % 4096 = 0 then off + 32 else if off % 4096 + n ≤ 4096 then off else (off / 4096 + 1) * 4096 + 32

/-- FIRST is full: the record does not fit in the Quarry FIRST, or in its mirror while mirroring is enabled (R395). -/
def State.firstRefuses (s : State) (n : Nat) : Bool :=
  s.marks.firstFull || 0x1000 + s.marks.fInForce * 0x10000 < s.marks.firstOff + n
    || (s.on F.MARK_CFG_MIRROR_EN && 16 * s.marks.fInForce * 4096 < mirrorPlace s.marks.vFirstOff n + n)

/-- A record also written into FIRST while that is not full (R395); with the Quarry store down it takes its place for the
FIRST mirror alone (R405). -/
def State.writeFirst (s : State) (seq : Nat) (bs : List Nat) : Bool × State :=
  if s.firstRefuses bs.length then
    (false, if s.marks.firstFull then s else
      (({ s with marks := { s.marks with firstFull := true } }).set F.MARK_STAT_FIRST_FULL 1).irq 0x34 8)
  else
    let s := if s.on F.MARK_STAT_QUARRY_DOWN then s else (s.qWrite 9 (markBase + s.marks.firstOff) bs).2
    let s := { s with marks := { s.marks with firstOff := s.marks.firstOff + bs.length } }
    (true, s.set F.MARK_FIRST_HEAD seq)

/-- The mirror can take records: MIRROR_EN, and not FIRST_ONLY for the RECENT ring (R405, R418). -/
def State.mirrorOn (s : State) : Bool := s.on F.MARK_CFG_MIRROR_EN

/-- The next number is `n`, raised to the node's own parity; numbers never wrap, and past the last one the sequence is at its end
(R398). -/
def State.nextSeq (s : State) (n : Nat) : State :=
  if 0xFFFFFFFF < s.ownSeq n then ((s.set F.MARK_NEXT_SEQ 0xFFFFFFFF).set F.MARK_STAT_SEQ_END 1).irq 0x34 12
  else s.set F.MARK_NEXT_SEQ (s.ownSeq n)

/-- The next number is raised to at least `n` (R400). -/
def State.atLeastSeq (s : State) (n : Nat) : State := if s.get F.MARK_NEXT_SEQ < n then s.nextSeq n else s

/-- A mark is numbered and recorded (R395, R398, R401, R405). -/
def State.record (s : State) (m : Mark) : State :=
  let seq := s.ownSeq (s.get F.MARK_NEXT_SEQ)
  if 0xFFFFFFFF < seq || s.on F.MARK_STAT_SEQ_END then
    let s := if s.on F.MARK_STAT_SEQ_END then s else (s.set F.MARK_STAT_SEQ_END 1).irq 0x34 12
    (s.inc F.MARK_DROPPED).irq 0x34 10
  else
    let bs := s.markBytes m seq
    let s := s.nextSeq (seq + 1)
    if s.on F.MARK_STAT_QUARRY_DOWN then
      if s.mirrorOn && !(s.on F.MARK_STAT_FIRST_ONLY) then
        let (first, s) := s.writeFirst seq bs
        { s with marks := { s.marks with toMirror := s.marks.toMirror ++ [MarkRec.mk seq bs 0 first] } }
      else (s.inc F.MARK_DROPPED).irq 0x34 10
    else
      let (off, s) := s.writeRecent seq bs
      let (first, s) := s.writeFirst seq bs
      let s := if s.mirrorOn then
          { s with marks := { s.marks with toMirror := s.marks.toMirror ++ [MarkRec.mk seq bs off first] } }
        else s.mirrorLost seq
      s.writeControl

/-- The recorder takes the next queued mark (MARK_RECORD). -/
def State.recordNext (s : State) : State :=
  if !s.marks.live then s else
    match s.marks.queue with
    | [] => s
    | m :: t => ({ s with marks := { s.marks with queue := t } }).record m

/-- The recorder takes every queued mark. -/
def State.recordAll (s : State) : State := (List.range s.marks.queue.length).foldl (fun s _ => s.recordNext) s

/-- The SUPPRESSED record of R403, with the counts since the one before. -/
def State.suppressedRecord (s : State) : State :=
  let m := s.marks
  if m.supN = 0 && m.dropN = 0 then s else
    let bytes := rtcBytes s.clk.sec s.clk.sub ++ le 4 m.supN ++ le 4 m.dropN ++ le 2 m.supCode ++ [0, 0]
    ({ s with marks := { m with supN := 0, dropN := 0, supCode := 0 } }).record ⟨0x002, false, !s.timeValid, bytes⟩

/-! ### The mirror (R405) -/

/-- The 32-byte header that opens a mirror sector. -/
def State.sectorHeader (s : State) (kind first : Nat) : List Nat :=
  let h := [0x4D, 0x4B, kind, 0x01] ++ le 2 (s.get F.MARK_STAT_GEN) ++ [0, 0] ++ le 4 first ++ le 4 s.marks.vSectors
    ++ List.replicate 12 0
  h ++ le 4 (crc32r h)

/-- The Vault offset where the MARKS partition begins. -/
def marksBase : Nat := 0x2C0000

/-- The runs that place a record into a mirror at `off`: the PAD that ends the sector it leaves, the header of the one
it opens, the record. Returns the runs, the next free byte and whether a sector was opened. -/
def State.mirrorRuns (s : State) (kind off seq : Nat) (bs : List Nat) : List (Nat × List Nat) × Nat × Bool :=
  let at_ := mirrorPlace off bs.length
  let opens := at_ % 4096 == 32
  let room := 4096 - off % 4096
  let pad := if opens && off % 4096 != 0 then vRows (marksBase + off) (le 2 room ++ List.replicate 6 0) else []
  let hdr := if opens then vRows (marksBase + at_ - 32) (s.sectorHeader kind seq) else []
  (pad ++ hdr ++ vRows (marksBase + at_) bs, at_ + bs.length, opens)

/-- A ring offset of the RECENT mirror, wrapped: the ring is partition sectors 16F to 1,023. -/
def State.ringWrap (s : State) (off : Nat) : Nat := if 0x400000 ≤ off then 16 * s.marks.fInForce * 4096 else off

/-- A logical sector of the MARKS partition reads erased. -/
def State.marksBlank (s : State) (sector : Nat) : Bool := (s.vBytes (marksBase + sector * 4096) 4096).all (· == 0xFF)

/-- The Vault mover takes the next record to the mirror (MARK_MIRROR): a MIRROR_GAP first where a range was lost. A
record it cannot read is lost; a sector that is not erased is erased before it opens, and with the spare pool exhausted FIRST
goes on in erased sectors only. -/
def State.mirrorNext (s : State) : State :=
  let s := if s.marks.gapFrom != 0 && s.mirrorOn then
      let b := rtcBytes s.clk.sec s.clk.sub ++ le 4 s.marks.gapFrom ++ le 4 s.marks.gapTo
      ({ s with marks := { s.marks with gapFrom := 0, gapTo := 0 } }).record ⟨0x003, false, !s.timeValid, b⟩
    else s
  if !s.mirrorOn then s else
    match s.marks.toMirror with
    | [] => s
    | r :: t =>
      let (st, s) := if r.off = 0 then (.ok, s)
        else let (st, _, s) := s.qRead 14 (markBase + r.off) r.bytes.length
             (st, s)
      let s0 := s
      if st != .ok then ({ s with marks := { s.marks with toMirror := t } }).mirrorLost r.seq
      else
        let firstSector := mirrorPlace s.marks.vFirstOff r.bytes.length / 4096
        let stale := r.first && mirrorPlace s.marks.vFirstOff r.bytes.length % 4096 == 32 && !(s.marksBlank firstSector)
        let first := r.first && !(stale && s.on F.MARK_STAT_FIRST_ONLY)
        if first && stale then
          if s.vault.ops.any (fun o => o.erase && o.sector == 704 + firstSector) then s0
          else s0.vPush ⟨.marksErase, [], 704 + firstSector, true, 0, false⟩
        else
        let (fr, fo, fopen) := if first then s.mirrorRuns 1 s.marks.vFirstOff r.seq r.bytes else ([], s.marks.vFirstOff, false)
        let s := if fopen then { s with marks := { s.marks with vSectors := s.marks.vSectors + 1 } } else s
        let ro := s.ringWrap s.marks.vRecentOff
        let wraps := 0x400000 ≤ mirrorPlace ro r.bytes.length
        let start := if wraps then 16 * s.marks.fInForce * 4096 else ro
        let firstOnly := s.on F.MARK_STAT_FIRST_ONLY
        let (rr, ro', ropen) := if firstOnly then ([], s.marks.vRecentOff, false) else s.mirrorRuns 2 start r.seq r.bytes
        let sector := mirrorPlace start r.bytes.length / 4096
        if ropen && !(s.marksBlank sector) then
          if s.vault.ops.any (fun o => o.erase && o.sector == 704 + sector) then s0
          else s0.vPush ⟨.marksErase, [], 704 + sector, true, 0, false⟩
        else
          let s := { s with marks := { s.marks with toMirror := t, vFirstOff := fo, vRecentOff := ro',
                                                    vSectors := s.marks.vSectors + ropen.toNat } }
          s.vPush ⟨.mirror r.seq, fr ++ rr, 704 + sector, false, 0, false⟩

/-! ### Clearing and rebuilding (R406, R405, R399) -/

/-- The generation after `g`: it wraps from 0xFFFF to 1 (R399). -/
def nextGen (g : Nat) : Nat := if g = 0xFFFF then 1 else g + 1

/-- Of two generations, `a` is newer than `b` (R399, R111). -/
def genNewer (a b : Nat) : Bool := let d := (a + 65536 - b) % 65536; 1 ≤ d && d ≤ 32767

/-- FIRST emptied. -/
def State.emptyFirst (s : State) : State :=
  let s := { s with marks := { s.marks with firstOff := 0x1000, firstFull := false, vFirstOff := 0 } }
  (s.set F.MARK_FIRST_HEAD 0).set F.MARK_STAT_FIRST_FULL 0

/-- RECENT emptied. -/
def State.emptyRecent (s : State) : State :=
  let s := { s with marks := { s.marks with recentOff := 0x1000 + s.marks.fInForce * 0x10000, recs := [] } }
  (s.set F.MARK_RECENT_HEAD 0).set F.MARK_RECENT_TAIL 0

/-- A clear with the key, of the partitions in `part` (bit 0 FIRST, bit 1 RECENT), by `master` (R406). Marks accepted
before it are recorded first. -/
def State.markClear (s : State) (part master : Nat) : State :=
  let s := s.recordAll
  let gen := s.get F.MARK_STAT_GEN
  let newest := s.get F.MARK_RECENT_HEAD
  let s := s.set F.MARK_STAT_GEN (nextGen gen)
  let s := if part % 4 = 3 then
      ({ s with marks := { s.marks with fInForce := s.get F.MARK_CFG_FIRST_SIZE } }).set F.MARK_STAT_CFG_PENDING 0 else s
  let s := if bit part 0 then
      let s := s.emptyFirst
      { s with marks := { s.marks with toMirror := s.marks.toMirror.map (fun (r : MarkRec) => { r with first := false }) } }
    else s
  let s := if bit part 1 then
      let s := s.emptyRecent
      { s with marks := { s.marks with toMirror := s.marks.toMirror.filter (fun (r : MarkRec) => r.first), vRecentOff := 16 * s.marks.fInForce * 4096 } }
    else s
  let bytes := rtcBytes s.clk.sec s.clk.sub ++ [master, part % 4] ++ le 2 gen ++ le 4 newest
  (s.record ⟨0x001, false, !s.timeValid, bytes⟩).irq 0x34 9

/-- The records of one mirror sector from `off` on, as (SEQ, bytes). -/
def State.walkSector (s : State) : Nat → Nat → Nat → List (Nat × List Nat)
  | 0, _, _ => []
  | n + 1, base, off =>
    if 4096 ≤ off + 8 then [] else
      let len := leVal (s.vBytes (base + off) 2)
      let code := leVal (s.vBytes (base + off + 2) 2) % 4096
      if len < 8 || 272 < len then [] else
        let plen := (len + 7) / 8 * 8
        if code = 0 then State.walkSector s n base (off + plen)
        else (leVal (s.vBytes (base + off + 4) 4), s.vBytes (base + off) plen) :: State.walkSector s n base (off + plen)

/-- A mirror sector whose header checks: kind, generation, first SEQ, sector count. -/
def State.sectorInfo (s : State) (sector : Nat) : Option (Nat × Nat × Nat × Nat) :=
  let h := s.vBytes (marksBase + sector * 4096) 32
  if h.take 2 == [0x4D, 0x4B] && h.getD 3 0 == 1 && leVal (h.drop 28) == crc32r (h.take 28) then
    some (h.getD 2 0, leVal ((h.drop 4).take 2), leVal ((h.drop 8).take 4), leVal ((h.drop 12).take 4))
  else none

/-- The sectors of the mirror that carry a header. -/
def State.mirrorSectors (s : State) : List (Nat × Nat × Nat × Nat × Nat) :=
  (List.range 1024).filterMap (fun i => (s.sectorInfo i).map (fun x => (i, x)))

/-- The highest SEQ found in the Vault mirror (R399). -/
def State.mirrorHigh (s : State) : Nat :=
  s.mirrorSectors.foldl (fun m x => (s.walkSector 512 (marksBase + x.1 * 4096) 32).foldl (fun m r => max m r.1) m) 0

/-- The newest generation found in the Vault mirror, or 1. -/
def State.mirrorGen (s : State) : Nat :=
  match s.mirrorSectors with
  | [] => 1
  | x :: t => t.foldl (fun g y => if genNewer y.2.2.1 g then y.2.2.1 else g) x.2.2.1

/-- The Quarry store rebuilt: RECENT empty, FIRST reloaded from the FIRST mirror of the current generation (R405). -/
def State.rebuildMarks (s : State) : State :=
  let s := (s.emptyRecent).set F.MARK_STAT_QUARRY_DOWN 0
  let gen := s.get F.MARK_STAT_GEN
  let recs := ((s.mirrorSectors.filter (fun x => x.2.1 == 1 && x.2.2.1 == gen)).map
    (fun x => s.walkSector 512 (marksBase + x.1 * 4096) 32)).flatten
  let s := { s with marks := { s.marks with firstOff := 0x1000, firstFull := false } }
  let s := recs.foldl (fun (s : State) (r : Nat × List Nat) =>
    if s.recentBase < s.marks.firstOff + r.2.length then s
    else
      let s := (s.qWrite 9 (markBase + s.marks.firstOff) r.2).2
      ({ s with marks := { s.marks with firstOff := s.marks.firstOff + r.2.length } }).set F.MARK_FIRST_HEAD r.1) s
  let total := ((recs.map (fun r => r.2.length)).sum : Nat)
  let full := decide (s.recentBase < 0x1000 + total) || (s.on F.MARK_CFG_MIRROR_EN && 16 * s.marks.fInForce * 4096 ≤ s.marks.vFirstOff)
  let s := { s with marks := { s.marks with firstFull := full } }
  (s.setB F.MARK_STAT_FIRST_FULL full).writeControl

/-- The recorder follows its memory: QUARRY_DOWN while the area is not usable, a rebuild on its return (R405). -/
def State.followMarkBanks (s : State) : State :=
  if s.markBanksDown then
    (if s.on F.MARK_STAT_QUARRY_DOWN then s else ((s.loseMirror).set F.MARK_STAT_QUARRY_DOWN 1).irq 0x34 11)
  else if s.on F.MARK_STAT_QUARRY_DOWN then s.rebuildMarks else s

/-- Start-up step 7: numbering is taken up again, the store rebuilt and the held marks recorded (R399, R404, R405). -/
def State.startMarks (s : State) : State :=
  let s := s.nextSeq (s.mirrorHigh + 1)
  let s := s.set F.MARK_STAT_GEN s.mirrorGen
  let sectors := s.mirrorSectors
  let top := sectors.foldl (fun m x => max m (x.2.2.2.2 + 1)) 0
  let used := (sectors.filter (fun x => x.2.1 == 1 && x.2.2.1 == s.get F.MARK_STAT_GEN)).length
  let last := sectors.foldl (fun (m : Nat × Nat) x => if x.2.1 == 2 && m.2 ≤ x.2.2.2.2 + 1 then (x.1 + 1, x.2.2.2.2 + 1) else m)
    (16 * s.get F.MARK_CFG_FIRST_SIZE, 0)
  let s := { s with marks := { s.marks with live := true, fInForce := s.get F.MARK_CFG_FIRST_SIZE, vSectors := top,
                                            vFirstOff := used * 4096, vRecentOff := last.1 * 4096 % 0x400000, toMirror := [] } }
  let s := { s with marks := { s.marks with
      vRecentOff := if s.marks.vRecentOff < 16 * s.marks.fInForce * 4096 then 16 * s.marks.fInForce * 4096 else s.marks.vRecentOff } }
  let s := if s.markBanksDown then s.emptyRecent.set F.MARK_STAT_QUARRY_DOWN 1 else s.rebuildMarks
  let held := s.marks.held
  let s := { s with marks := { s.marks with held := [], queue := held ++ s.marks.queue } }
  s.recordAll

/-- The Vault island returns: the held marks are recorded first, in the order they were raised (R404). -/
def State.releaseHeldMarks (s : State) : State :=
  let held := s.marks.held
  ({ s with marks := { s.marks with held := [], queue := held ++ s.marks.queue } }).recordAll

end Sys2Proof.Machine
end

