-- ==== Sys2Proof/Machine/Rtc.lean ====
section
/-! DEFINITION. Accepting a wake (R440, R433), and the RTC, its calendar, its staging and commits, the alarm and the
backup cell (chapter 14). -/

namespace Sys2Proof.Machine

/-! ### Wakes -/

/-- PWR_STAT.STATE (R425). -/
def State.power (s : State) : Nat := s.get F.PWR_STAT_STATE

/-- A wake of cause `cause` is accepted (R440): it aborts an entry in progress (R433) or starts the exit sequence. Only
main (5) wakes KEEP or turns back a node that has lost it, a frozen node does not wake (R393), and a node in RUN has nothing
to wake from. -/
def State.wake (s : State) (cause detail : Nat) : State :=
  if (s.power = 5 || !s.pins.main || s.on F.TALY_STAT_SAVING || s.isl.frozen.contains 29) && cause != 5 then s
  else if s.on F.PWR_STAT_ENTERING then
    let s := (s.set F.PWR_STAT_ENTERING 0).inc F.PWR_ABORTS
    let s := ((s.irq 0x03 9).set F.PWR_STAT_CAUSE cause).set F.PWR_STAT_DETAIL detail
    { s with pwr := { s.pwr with exiting := true, wakeAt := s.clk.now } }
  else if s.power = 0 || s.pwr.exiting then s
  else
    let s := (s.set F.PWR_STAT_CAUSE cause).set F.PWR_STAT_DETAIL detail
    { s with pwr := { s.pwr with exiting := true, wakeAt := s.clk.now } }

/-! ### The calendar (R375) -/

/-- A leap year in [2000, 2199]. -/
def leapYear (y : Nat) : Bool := y % 4 == 0 && y != 2100

/-- The length of a month (1 to 12) of a year. -/
def monthLen (y m : Nat) : Nat :=
  if m = 2 then (if leapYear y then 29 else 28) else if m = 4 ∨ m = 6 ∨ m = 9 ∨ m = 11 then 30 else 31

/-- Days from 2000-01-01 to the first of January of year 2000 + `o`. -/
def daysToYear (o : Nat) : Nat := 365 * o + (o + 3) / 4 - (if 100 < o then 1 else 0)

/-- Days from the first of January to the first of month `m` of year `y`. -/
def daysToMonth (y m : Nat) : Nat := ((List.range (m - 1)).map (fun i => monthLen y (i + 1))).sum

/-- The seconds count of a calendar time: year offset, month, day, hour, minute, second. -/
def calSeconds (yo mo d h mi sec : Nat) : Nat :=
  (daysToYear yo + daysToMonth (2000 + yo) mo + (d - 1)) * 86400 + h * 3600 + mi * 60 + sec

/-- A calendar view. -/
structure Cal where
  yearOfs : Nat
  month   : Nat
  day     : Nat
  weekday : Nat
  hour    : Nat
  min     : Nat
  sec     : Nat
  deriving DecidableEq, Repr

/-- The year offset of day `d`. -/
def yearOf (d : Nat) : Nat :=
  (List.range 200).foldl (fun y i => if daysToYear i ≤ d then i else y) 0

/-- The month in which day `r` of year `y` lies. -/
def monthOf (y r : Nat) : Nat := (List.range 12).foldl (fun m i => if daysToMonth y (i + 1) ≤ r then i + 1 else m) 1

/-- The first count past the calendar (R376). -/
def calEnd : Nat := 6311433600

/-- The calendar view of a count (R375), frozen from the end of the calendar on (R376). -/
def calOf (count : Nat) : Cal :=
  let c := min count (calEnd - 1)
  let d := c / 86400
  let t := c % 86400
  let yo := yearOf d
  let r := d - daysToYear yo
  let m := monthOf (2000 + yo) r
  ⟨yo, m, r - daysToMonth (2000 + yo) m + 1, (d + 5) % 7, t / 3600, t / 60 % 60, t % 60⟩

/-! ### Staging (R378, R379) -/

/-- The staging registers return to reset, and a pending commit is cancelled (R379, R382). -/
def State.rtcDiscard (s : State) : State :=
  let s := s.eraseRegs 0x32118 0x3212C
  (s.set F.RTC_STAT_STG_CLAMPED 0).set F.RTC_STAT_PENDING 0

/-- Both staging forms are loaded with the present RTC, or with the reset values while TIME_VALID is 0 (R379). -/
def State.rtcCapture (s : State) : State :=
  let s := s.eraseRegs 0x32118 0x3212C
  let s := s.set F.RTC_STAT_STG_CLAMPED 0
  if !s.timeValid then s else
    let c := calOf s.clk.sec
    let s := ((s.set F.RTC_STG_DATE_YEAR_OFS c.yearOfs).set F.RTC_STG_DATE_MONTH c.month).set F.RTC_STG_DATE_DAY c.day
    let s := ((s.set F.RTC_STG_TIME_SEC c.sec).set F.RTC_STG_TIME_MIN c.min).set F.RTC_STG_TIME_HOUR c.hour
    ((s.set F.RTC_STG_SUB s.clk.sub).set F.RTC_STG_SEC_LO (s.clk.sec % 2 ^ 32)).set F.RTC_STG_SEC_HI (s.clk.sec / 2 ^ 32)

/-- The seconds count that the staged form gives (R381). -/
def State.stagedSec (s : State) (form : Bool) : Nat :=
  if form then s.get F.RTC_STG_SEC_LO + 2 ^ 32 * s.get F.RTC_STG_SEC_HI
  else calSeconds (s.get F.RTC_STG_DATE_YEAR_OFS) (s.get F.RTC_STG_DATE_MONTH) (s.get F.RTC_STG_DATE_DAY)
    (s.get F.RTC_STG_TIME_HOUR) (s.get F.RTC_STG_TIME_MIN) (s.get F.RTC_STG_TIME_SEC)

/-! ### The alarm, the end of the calendar and of the count (R383, R376, R372) -/

/-- The alarm value. -/
def State.alarmAt (s : State) : Nat := s.get F.RTC_ALARM_LO + 2 ^ 32 * s.get F.RTC_ALARM_HI_SEC

/-- The alarm fires where it is armed, TIME_VALID is 1 and the count is at or above its value (R383). -/
def State.alarmCheck (s : State) : State :=
  if s.on F.RTC_ALARM_HI_ARMED && s.timeValid && s.alarmAt ≤ s.clk.sec then
    (((s.set F.RTC_ALARM_HI_ARMED 0).set F.RTC_STAT_ALARM_FIRED 1).irq 0x32 8).wake 4 0
  else s

/-- CAL_END follows the count (R376). -/
def State.calEndCheck (s : State) : State :=
  if calEnd ≤ s.clk.sec then
    if s.on F.RTC_STAT_CAL_END then s else ((s.set F.RTC_STAT_CAL_END 1).irq 0x32 11).mark 0x082 []
  else s.set F.RTC_STAT_CAL_END 0

/-- The RTC has stopped at its maximum (R372). -/
def State.secEndCheck (s : State) : State :=
  if s.clk.sec = 0xFFFFFFFFFF && s.clk.sub = 32767 then s.set F.RTC_STAT_SEC_END 1 else s

/-! ### Commits (R380, R381) -/

/-- A write of COMMIT is refused: STG_CLAMPED without FORCE, or the named course has begun (R380), or a commit is
pending already (R382). `course` is the course in force. -/
def State.commitRefused (s : State) (force atCourse : Bool) (course : Nat) : Bool :=
  (s.on F.RTC_STAT_STG_CLAMPED && !force) || (atCourse && s.get F.RTC_SET_COURSE ≤ course) || s.on F.RTC_STAT_PENDING

/-- A refused commit (R380). -/
def State.commitRefuse (s : State) : State := (s.set F.RTC_STAT_REFUSED 1).irq 0x32 10

/-- The staged time is loaded (R381): the metering island is stamped with it (R356). -/
def State.commitNow (s : State) (form forced : Bool) : State :=
  let old := s.clk
  let sec := s.stagedSec form % 2 ^ 40
  let sub := s.get F.RTC_STG_SUB
  let s := { s with clk := { s.clk with sec := sec, sub := sub, rtcAcc := 0, rtcOwed := 0, rtcExtra := 0 } }
  let s := if s.on F.MTR_STAT_RUNNING then
      { s.irq 0x30 9 with mtr := { s.mtr with events := s.mtr.events ++ [MtrEvent.set old.sec old.sub sec sub s.clk.lt s.timeValid] } }
    else s
  let s := (((s.set F.RTC_STAT_TIME_VALID 1).set F.RTC_LAST_OLD_LO (old.sec % 2 ^ 32)).set F.RTC_LAST_OLD_HI
    (old.sec / 2 ^ 32)).inc F.RTC_SETS
  let s := ((((s.set F.RTC_STAT_STG_CLAMPED 0).set F.RTC_STAT_PENDING 0).setB F.RTC_STAT_FORCED forced).set
    F.RTC_STAT_SEC_END 0).irq 0x32 9
  let s := s.mark 0x080 (rtcBytes old.sec old.sub ++ rtcBytes sec sub ++ [forced.toNat, 0])
  s.secEndCheck.calEndCheck.alarmCheck

/-- A commit accepted: at once, or pending for RTC_SET_COURSE (R381). -/
def State.commit (s : State) (force form atCourse : Bool) : State :=
  let forced := force && s.on F.RTC_STAT_STG_CLAMPED
  if atCourse then
    { s.set F.RTC_STAT_PENDING 1 with rtc := { s.rtc with form := form, forced := forced } }
  else s.commitNow form forced

/-- The boundary of the named course takes a pending commit (R381). -/
def State.commitAtCourse (s : State) (course : Nat) : State :=
  if s.on F.RTC_STAT_PENDING && s.get F.RTC_SET_COURSE = course then s.commitNow s.rtc.form s.rtc.forced else s

/-- A pending commit is cancelled (R382). -/
def State.cancelCommit (s : State) : State := s.set F.RTC_STAT_PENDING 0

/-- The trim correction of a seconds value that is a multiple of 32 begins (R373). -/
def State.trimRtc (s : State) : State :=
  let due := (s.clk.sec + (if s.clk.sub = 0 then 0 else 1) + 31) / 32 * 32
  let due := if due = s.clk.trimmed then due + 32 else due
  let s := s.elapse (s.untilRtc due)
  if s.clk.sec < due then s else
  let s := { s with clk := { s.clk with trimmed := due } }
  let t := signed 8 (s.get F.RTC_CAL)
  if t ≥ 0 then { s with clk := { s.clk with rtcExtra := s.clk.rtcExtra + t.toNat } }
  else { s with clk := { s.clk with rtcOwed := s.clk.rtcOwed + (-t).toNat } }

/-! ### Power path and verdict (R384 to R392) -/

/-- A measurement of VBAT in mV (R387): below a threshold a bit is set, above it the bit is cleared. -/
def State.measureVbat (s : State) (mv : Nat) : State :=
  let below (at_ : Nat) (was : Bool) : Bool := decide (mv < at_) || (was && mv == at_)
  let low := below (2000 + 100 * s.get F.BKP_CFG_WARN) (s.on F.BKP_STAT_VBAT_LOW)
  let absent := below 1000 (s.on F.BKP_STAT_VBAT_ABSENT)
  let s := s.set F.BKP_VBAT mv
  let s := if low && !(s.on F.BKP_STAT_VBAT_LOW) then s.irq 0x33 8 else s
  let s := if absent && !(s.on F.BKP_STAT_VBAT_ABSENT) then s.irq 0x33 9 else s
  (s.setB F.BKP_STAT_VBAT_LOW low).setB F.BKP_STAT_VBAT_ABSENT absent

/-- The value the canary holds. -/
def canaryPattern : Nat := 0x5AC396E1

/-- The verdict (R389): INTACT when the canary holds its pattern and neither latch is set. -/
def State.intact (s : State) : Bool := s.get F.BKP_CANARY == canaryPattern && !s.rtc.brown && !s.rtc.oscStop

/-- The verdict recorded in BKP_STAT and, where it is LOST, the restart of R390 except for the retention store, which
the metering restore clears. -/
def State.verdict (s : State) : State :=
  let ok := s.intact
  let canary := s.get F.BKP_CANARY != canaryPattern
  let s := (((s.setB F.BKP_STAT_INTACT ok).setB F.BKP_STAT_CAUSE_CANARY canary).setB F.BKP_STAT_CAUSE_BROWN s.rtc.brown).setB
    F.BKP_STAT_CAUSE_OSC s.rtc.oscStop
  if ok then s else
    let s := { s with clk := { s.clk with sec := 0, sub := 0, rtcAcc := 0, rtcOwed := 0, rtcExtra := 0, xtal := true },
                      rtc := { s.rtc with brown := false, oscStop := false } }
    let s := ((s.set F.RTC_STAT_TIME_VALID 0).set F.RTC_ALARM_HI_ARMED 0).set F.RTC_STAT_TIME_LOST 1
    ((s.set F.BKP_MAIN_LOSS 0).set F.BKP_CANARY canaryPattern).set F.RTC_STAT_CAL_END 0 |>.set F.RTC_STAT_SEC_END 0

end Sys2Proof.Machine
end

