-- ==== Sys2Proof/Machine/Sched.lean ====
section
/-! DEFINITION. The Uliros schedule: the built-in one, parsing and validation of an image, the SCHD registers, slot
ownership and quoin claims (R88 to R90, R101 to R108, R528). -/

namespace Sys2Proof.Machine

/-! ### Images -/

/-- `n` bytes at `o` of an image, little-endian. -/
def imgVal (im : List Nat) (o n : Nat) : Nat := leVal ((im.drop o).take n)

/-- Slot entry `s` of an image (R102). -/
def imgSlot (im : List Nat) (s : Nat) : Slot :=
  let o := 64 + 16 * s
  let ow := imgVal im (o + 9) 1
  ⟨imgVal im o 4, imgVal im (o + 4) 4, imgVal im (o + 8) 1, ow % 16, bit ow 4, imgVal im (o + 10) 1,
   imgVal im (o + 11) 1 % 64, imgVal im (o + 12) 2, imgVal im (o + 14) 2⟩

/-- The schedule an image spells. -/
def parseImage (im : List Nat) : Sched :=
  let n := imgVal im 0x14 2
  let u := imgVal im 0x1A 2
  { id := imgVal im 0x0C 4, courseUs := imgVal im 0x10 4, gapUs := imgVal im 0x16 2, genset := imgVal im 0x18 1,
    profile := imgVal im 0x19 1, uids := (List.range u).map (fun i => imgVal im (64 + 16 * n + 8 * i) 6),
    slots := (List.range n).map (imgSlot im), crc := imgVal im (im.length - 4) 4 }

/-- The control slots 0 to 7 of R80: kind, owner mode, minimum payload. -/
def controlSlot (s : Nat) : Nat × Nat × Nat :=
  match s with
  | 0 => (1, 3, 4) | 1 => (2, 4, 10) | 2 => (2, 4, 10) | 3 => (2, 3, 10) | 4 => (2, 0, 10) | 5 => (3, 4, 8)
  | 6 => (4, 3, 8) | _ => (5, 3, 4)

/-- Where a slot of 0 to 15 departs from R80, as an offset in its entry (code CONTROL_LAYOUT). -/
def layoutFault (s : Nat) (e : Slot) : Option Nat :=
  if s < 8 then
    let (k, m, p) := controlSlot s
    if e.kind != k then some 8 else if e.mode != m || e.noA then some 9 else if e.val != 0 then some 10
    else if e.dst != 63 then some 11 else if e.maxLen < p then some 12 else if e.stream != 0xFFFF then some 14 else none
  else if s < 16 then (if e.kind = 7 ∨ e.kind = 0 then none else some 8) else none

/-- Where a slot's owner departs from R103 (code OWNER). -/
def ownerFault (s : Nat) (e : Slot) (u ownerByte : Nat) : Option Nat :=
  if 32 ≤ ownerByte then some 9
  else if s < 8 then none
  else
    let ok := match e.kind with
      | 6 | 7 => e.mode == 1 || e.mode == 2 || e.mode == 3
      | 8 => e.mode == 1 || e.mode == 2
      | _ => e.mode == 0
    if !ok then some 9
    else if e.mode = 1 then (if 1 ≤ e.val ∧ e.val ≤ 62 then none else some 10)
    else if e.mode = 2 then (if e.val < u then none else some 10)
    else if e.val = 0 then none else some 10

/-- MAX_LEN breaks R92, R102 or R103 (code PAYLOAD). -/
def payloadFault (genset : Nat) (e : Slot) : Bool :=
  let lim := if bit genset 0 && (!e.noA || genset == 1) then 124 else 748
  lim < e.maxLen || (e.kind == 7 && e.maxLen < 2) || (e.kind == 8 && e.maxLen != 0)

/-- The generation whose figures a slot is fitted with (R104). -/
def fitGen (genset : Nat) (noA : Bool) : Nat :=
  if noA && genset != 1 then (if bit genset 1 then 2 else if bit genset 2 then 3 else 1) else slowest genset

/-- A slot is too short for its frame (code FIT). -/
def fitFault (genset : Nat) (e : Slot) : Bool :=
  let gen := fitGen genset e.noA
  e.kind != 0 &&
    e.len < airTime gen e.maxLen + 2 * guardOf genset + (if e.mode = 4 ∧ gen = 1 then 384000 else 0)

/-- The first slot of a list for which a check fails. -/
def firstSlot (sl : List Slot) (p : Nat → Slot → Option Nat) : Option Nat :=
  (List.range sl.length).findSome? (fun i => match sl[i]? with | some e => p i e | none => none)

/-- The first failure of an image, as (code, offset); code 0 where it is valid (R106). `len` is the length it was
loaded with and `profile` the node's own. -/
def validate (im : List Nat) (len profile : Nat) : Nat × Nat :=
  let n := imgVal im 0x14 2
  let u := imgVal im 0x1A 2
  let ilen := imgVal im 8 4
  let courseUs := imgVal im 0x10 4
  let gapUs := imgVal im 0x16 2
  let genset := imgVal im 0x18 1
  let prof := imgVal im 0x19 1
  let at_ (s k : Nat) : Nat := 64 + 16 * s + k
  if imgVal im 0 4 != 0x53524C55 then (1, 0)
  else if imgVal im 4 2 != 1 then (2, 4)
  else if imgVal im 6 2 != 64 then (2, 6)
  else if ilen != len || ilen != 64 + 16 * n + 8 * u + 4 || ilen < 324 || 16948 < ilen then (3, 8)
  else if imgVal im 0x20 4 != 64 then (3, 0x20)
  else if imgVal im 0x24 4 != 64 + 16 * n then (3, 0x24)
  else if imgVal im (ilen - 4) 4 != crc32r (im.take (ilen - 4)) then (4, ilen - 4)
  else if courseUs < 50 || 10000 < courseUs then (5, 0x10)
  else if n < 16 || 1024 < n then (6, 0x14)
  else if genset = 0 || 7 < genset then (7, 0x18)
  else if 2 < prof || (prof != 2 && prof != profile) then (7, 0x19)
  else if gapUs < (if bit genset 0 then 486 else 12) || courseUs ≤ gapUs then (8, 0x16)
  else
    let sl := (List.range n).map (imgSlot im)
    let g := (courseUs - gapUs) * 1000
    let order (s : Nat) (e : Slot) : Option Nat :=
      if s = 0 then (if e.start = 0 then none else some (at_ 0 0))
      else match sl[s - 1]? with
        | some p => if p.start + p.len ≤ e.start then none else some (at_ s 0)
        | none => none
    match firstSlot sl order with
    | some o => (9, o)
    | none =>
    match firstSlot sl (fun s e => if e.start + e.len ≤ g then none else some (at_ s 4)) with
    | some o => (0x0A, o)
    | none =>
    match firstSlot sl (fun s e => (layoutFault s e).map (at_ s)) with
    | some o => (0x0B, o)
    | none =>
    match firstSlot sl (fun s e => if 16 ≤ s && ((1 ≤ e.kind && e.kind ≤ 5) || 9 < e.kind) then some (at_ s 8) else none) with
    | some o => (0x0C, o)
    | none =>
    match firstSlot sl (fun s e => (ownerFault s e u (imgVal im (at_ s 9) 1)).map (at_ s)) with
    | some o => (0x0D, o)
    | none =>
    match firstSlot sl (fun s e => if payloadFault genset e then some (at_ s 12) else none) with
    | some o => (0x0E, o)
    | none =>
    match firstSlot sl (fun s e => if fitFault genset e then some (at_ s 4) else none) with
    | some o => (0x0F, o)
    | none =>
    let uofs := 64 + 16 * n
    let uid (i : Nat) : Nat := imgVal im (uofs + 8 * i) 6
    if 62 < u then (0x10, 0x1A)
    else match (List.range u).find? (fun i => uid i == 0 || (List.range i).any (fun j => uid j == uid i)) with
    | some i => (0x10, uofs + 8 * i)
    | none =>
    let header := (List.range 64).find? (fun o => (o == 0x0C && imgVal im 0x0C 4 == 0)
      || ((o == 0x1E || o == 0x1F || 0x28 ≤ o) && imgVal im o 1 != 0))
    let slotBit := firstSlot sl (fun s _ => if 64 ≤ imgVal im (at_ s 11) 1 then some (at_ s 11) else none)
    let uidBit := (List.range u).findSome? (fun i =>
      if imgVal im (uofs + 8 * i + 6) 1 != 0 then some (uofs + 8 * i + 6)
      else if imgVal im (uofs + 8 * i + 7) 1 != 0 then some (uofs + 8 * i + 7) else none)
    match header.or (slotBit.or uidBit) with
    | some o => (0x11, o)
    | none =>
    if imgVal im 0x1C 2 != (sl.filter (fun e => e.kind == 9)).length then (0x12, 0x1C) else (0, 0)

/-! ### Owners -/

/-- The slot entry `n` of the active schedule. -/
def State.slot (s : State) (n : Nat) : Option Slot := s.sched.slots[n]?

/-- The owner of a quoin. -/
def State.quoinOwner (s : State) (n : Nat) : Option Nat := (s.so.quoins.find? (fun q => q.1 == n)).map (·.2)

/-- The position that owns slot `n`: 0 none, 63 contended (R80, R89, R102). -/
def State.ownerOf (s : State) (n : Nat) : Nat :=
  match s.slot n with
  | none => 0
  | some e =>
    if e.kind = 9 then
      (match s.quoinOwner n with | some u => (s.posOf (s.pairUid u)).getD 0 | none => 0)
    else match e.mode with
      | 1 => e.val
      | 2 => (match s.sched.uids[e.val]? with | some u => (s.posOf (s.pairUid u)).getD 0 | none => 0)
      | 3 => 1
      | 4 => 63
      | _ => if n = 4 then s.course % (max 1 s.count) + 1 else 0

/-- A slot is a quoin of the active schedule. -/
def State.isQuoin (s : State) (n : Nat) : Bool := match s.slot n with | some e => e.kind == 9 | none => false

/-! ### The SCHD registers -/

/-- SCHD_QUOIN brought up to date. -/
def State.quoinRegs (s : State) : State :=
  let t := (s.sched.slots.filter (fun e => e.kind == 9)).length
  (s.set F.SCHD_QUOIN_TOTAL t).set F.SCHD_QUOIN_FREE (t - s.so.quoins.length)

/-- The quoin that this node owns. -/
def State.ownQuoin (s : State) : Option Nat := (s.so.quoins.find? (fun q => q.2 == s.uid)).map (·.1)

/-- Quoins are taken from the owners that `keep` does not admit (R90); a node whose quoin goes is idle. -/
def State.keepQuoins (s : State) (keep : Nat → Bool) : State :=
  let had := s.ownQuoin.isSome
  let s := { s with so := { s.so with quoins := s.so.quoins.filter (fun q => keep q.2) } }
  let lost := had && s.ownQuoin.isNone
  let s := if lost then { s with so := { s.so with claimRel := false } } else s
  (if lost && s.get F.SCHD_CLAIM_STAT_STATE = 4 then s.set F.SCHD_CLAIM_STAT_STATE 0 else s).quoinRegs

/-- A schedule takes effect: quoins are given up, and grants that have not taken effect (R90). -/
def State.activate (s : State) (sc : Sched) : State :=
  let owned := s.get F.SCHD_CLAIM_STAT_STATE = 4 || s.get F.SCHD_CLAIM_STAT_STATE = 3
  let s := { s with sched := sc, so := { s.so with quoins := [], grants := [], releases := [], claimRel := false } }
  let s := ((s.set F.SCHD_ACTIVE_ID sc.id).set F.SCHD_ACTIVE_CRC (if sc.id = 0 then 0 else sc.crc)).irq 0x12 9
  (if owned then s.set F.SCHD_CLAIM_STAT_STATE 0 else s).quoinRegs

/-- The pending schedule as SCHD_RESULT and SCHD_PENDING_ID show it. -/
def State.setPending (s : State) (p : Option Sched) : State :=
  let s := { s with pendSched := p }
  match p with
  | some sc => (s.set F.SCHD_RESULT_PENDING 1).set F.SCHD_PENDING_ID sc.id
  | none => (s.set F.SCHD_RESULT_PENDING 0).set F.SCHD_PENDING_ID 0

/-- What a load reports at its end (R528). -/
def State.loadResult (s : State) (code ofs : Nat) : State :=
  let s := ((s.set F.SCHD_RESULT_CODE code).set F.SCHD_RESULT_OFFSET ofs).set F.SCHD_RESULT_BUSY 0
  (if code = 0 then s else s.inc F.SCHD_REJECTS).irq 0x12 8

/-- SCHD_CMD.LOAD: the image is read from its source and its validation begins, or the load is refused with BUSY
(R106, R528). DESIGN CHOICE: the spec gives a load whose read is denied or past the end no code of its own; what was read
is validated as it is (log entry 89). -/
def State.scheduleLoad (s : State) : State :=
  if s.on F.SCHD_RESULT_BUSY then
    ((s.set F.SCHD_RESULT_CODE 0x13).set F.SCHD_RESULT_OFFSET 0).inc F.SCHD_REJECTS
  else
    let len := s.get F.SCHD_LEN
    let addr := s.get F.SCHD_ADDR
    let (im, s) := if s.on F.SCHD_SRC then (s.vBytes (0x080000 + addr) len, s)
      else let (_, b, s) := s.qRead 3 addr len
           (b, s)
    ({ s with loading := some im }).set F.SCHD_RESULT_BUSY 1

/-- Validation ends (R106, R107, R528). -/
def State.validationDone (s : State) : State :=
  match s.loading with
  | none => s
  | some im =>
    let (code, ofs) := validate im im.length (s.boot.straps % 2)
    let s := { s with loading := none }
    (if code = 0 then s.setPending (some (parseImage im)) else s).loadResult code ofs

/-- The start-up load from CONFIG offset 0 (R107): a valid image, or the built-in schedule, becomes active. DESIGN CHOICE:
a header whose MAGIC and IMG_LEN are both wrong fails with BAD_MAGIC, the earlier check of R106 (log entry 90). -/
def State.startSchedule (s : State) : State :=
  let head := s.vBytes 0x080000 64
  let ilen := imgVal head 8 4
  let im := s.vBytes 0x080000 (if 324 ≤ ilen ∧ ilen ≤ 16948 then ilen else 324)
  let (code, ofs) := validate im ilen (s.boot.straps % 2)
  (s.activate (if code = 0 then parseImage im else builtIn)).loadResult code ofs

/-- A soft reset of SCHD (R528): schedules and quoins are kept, a validation and a claim are abandoned. -/
def State.schdReset (s : State) : State :=
  let s := s.eraseRegs 0x12100 0x13000
  let s := { s with loading := none, so := { s.so with claimRel := false, claimKept := [], claimNow := [] } }
  let s := (s.set F.SCHD_ACTIVE_ID s.sched.id).set F.SCHD_ACTIVE_CRC (if s.sched.id = 0 then 0 else s.sched.crc)
  let s := match s.ownQuoin with
    | some q => (s.set F.SCHD_CLAIM_STAT_STATE 4).set F.SCHD_CLAIM_STAT_SLOT q
    | none => s
  (s.setPending s.pendSched).quoinRegs

/-! ### Claims (R88 to R90) -/

/-- The lowest UID that competes for a quoin, in a list of (quoin, UID). -/
def lowestFor (q : Nat) (l : List (Nat × Nat)) : Option Nat := (l.find? (fun p => p.1 == q)).map (·.2)

/-- A competing UID kept, the lowest per quoin (R88). -/
def keepLowest (q uid : Nat) (l : List (Nat × Nat)) : List (Nat × Nat) :=
  match lowestFor q l with
  | some u => if uid < u then put q uid l else l
  | none => put q uid l

/-- The competing UID that makes this node stand down, among those kept in the last course. -/
def State.standsDown (s : State) : Bool :=
  match lowestFor (s.get F.SCHD_CLAIM_SLOT) s.so.claimKept with
  | some u => u < s.uid
  | none => false

/-- The CLAIM request payload (R94). -/
def State.claimPayload (s : State) : List Nat :=
  let q := s.get F.SCHD_CLAIM_SLOT
  [q] ++ uidWords s.uid ++ uidWords ((lowestFor q s.so.claimKept).getD 0xFFFFFFFFFFFF) ++ [s.get F.SCHD_CLAIM_MINLEN]

/-- SCHD_CLAIM_CMD.CLAIM: claiming starts. -/
def State.claimStart (s : State) : State :=
  { s.set F.SCHD_CLAIM_STAT_STATE 1 with so := { s.so with claimKept := [], claimNow := [] } }

/-- SCHD_CLAIM_CMD.RELEASE: the owned quoin is to be released in slot 5. -/
def State.claimRelease (s : State) : State :=
  if s.ownQuoin.isSome then { s with so := { s.so with claimRel := true } } else s

/-- The quoin a claim asks for, as the datum resolves it: the one named, or the lowest-numbered free quoin with enough
payload for a claim of any; `none` where the claim is to be refused (R89). -/
def State.claimTarget (s : State) (c : List Nat) : Option Nat :=
  let q := c.getD 0 0 % 1024
  let min := c.getD 7 0
  let ok (n : Nat) : Bool := s.isQuoin n && (s.quoinOwner n).isNone && !(s.so.grants.any (fun g => g.2.1 == n))
    && (match s.slot n with | some e => decide (min ≤ e.maxLen) | none => false)
  if q = 0x3FF then (List.range s.sched.slots.length).find? ok else if ok q then some q else none

/-- The datum's decision in slot 6 (R89): flags and payload, or nothing. Of the claims heard in two consecutive courses
the one with the lowest UID is decided, unless some claim for its quoin named a lower competing UID. DESIGN CHOICE: a claim
that is to be refused is refused although a lower competing UID was named (log entry 91). -/
def State.claimDecision (s : State) : Option (Nat × List Nat) :=
  let cuid (c : List Nat) : Nat := wordsVal ((c.drop 1).take 3)
  let same (c d : List Nat) : Bool := cuid c == cuid d && c.getD 0 0 % 1024 == d.getD 0 0 % 1024
  let ripe := s.so.claimsP.filter (fun c => s.so.claimsPP.any (same c))
  match ripe with
  | [] => none
  | c0 :: t =>
    let c := t.foldl (fun m c => if cuid c < cuid m then c else m) c0
    let q := c.getD 0 0 % 1024
    let rival := ripe.any (fun d => d.getD 0 0 % 1024 == q && wordsVal ((d.drop 4).take 3) < cuid c)
    match s.claimTarget c with
    | none => some (1, [q] ++ uidWords (cuid c) ++ [0, 0, 0, 0])
    | some n => if rival then none else some (2, [n] ++ uidWords (cuid c) ++ wordsOf 2 (s.course + 1) ++ [0, 0])

/-- A decision heard or made (R88, R89): SCHD_CLAIM_STAT follows, and a grant waits for its boundary. -/
def State.claimDecided (s : State) (grant : Bool) (p : List Nat) : State :=
  let q := p.getD 0 0 % 1024
  let u := wordsVal ((p.drop 1).take 3)
  let s := if grant then { s with so := { s.so with grants := s.so.grants ++ [(wordsVal ((p.drop 4).take 2), q, u)] } } else s
  let st := s.get F.SCHD_CLAIM_STAT_STATE
  if st = 1 || st = 2 then
    if u = s.uid then
      if grant then ((s.set F.SCHD_CLAIM_STAT_STATE 3).set F.SCHD_CLAIM_STAT_SLOT q).irq 0x12 10
      else (s.set F.SCHD_CLAIM_STAT_STATE 5).irq 0x12 10
    else if grant && q = s.get F.SCHD_CLAIM_SLOT then (s.set F.SCHD_CLAIM_STAT_STATE 6).irq 0x12 10
    else s
  else s

/-- A CLAIM request or release read (R88, R89, R90). -/
def State.claimHeard (s : State) (release : Bool) (p : List Nat) : State :=
  let q := p.getD 0 0 % 1024
  let u := wordsVal ((p.drop 1).take 3)
  if release then
    (if s.quoinOwner q = some u then { s with so := { s.so with releases := s.so.releases ++ [q] } } else s)
  else
    let s := { s with so := { s.so with claimNow := keepLowest q u s.so.claimNow } }
    if s.actsDatum then { s with so := { s.so with claims := s.so.claims ++ [p] } } else s

/-- Quoins at the boundary that begins the present course: grants and releases take effect (R33 step 3, R89, R90), and
what was read of claims moves back one course. -/
def State.claimBoundary (s : State) : State :=
  let due := s.so.grants.filter (fun g => g.1 ≤ s.course)
  let so := { s.so with grants := s.so.grants.filter (fun g => s.course < g.1)
                        quoins := due.foldl (fun l g => put g.2.1 g.2.2 l) (s.so.quoins.filter (fun q => !(s.so.releases.contains q.1)))
                        releases := [], claimKept := s.so.claimNow, claimNow := []
                        claimsPP := s.so.claimsP, claimsP := s.so.claims, claims := [] }
  let mineGiven := s.get F.SCHD_CLAIM_STAT_STATE = 4 && s.ownQuoin.any (fun q => s.so.releases.contains q)
  let s := { s with so := so }
  let s := if due.any (fun g => g.2.2 == s.uid) then s.set F.SCHD_CLAIM_STAT_STATE 4 else s
  let s := if mineGiven then s.set F.SCHD_CLAIM_STAT_STATE 0 else s
  let st := s.get F.SCHD_CLAIM_STAT_STATE
  (if st = 1 || st = 2 then s.set F.SCHD_CLAIM_STAT_STATE (if s.standsDown then 2 else 1) else s).quoinRegs

end Sys2Proof.Machine
end

