-- ==== Sys2Proof/Machine/Lintel.lean ====
section
/-! DEFINITION. The Lintel guardian and the Keystone hub (chapter 06): maps and their CRCs, the Lintel timer, the
gate for own and relayed frames, the kill, the receive watches, the branch gates. -/

namespace Sys2Proof.Machine

/-! ### States of GRD_P_STAT: 0 SHUT, 1 ACTIVE, 2 MISMATCH, 3 REARM, 4 KILLED, 5 ASLEEP_WAKE -/

/-- The Lintel state of port `n`. -/
def State.lintel (s : State) (n : Nat) : Nat := s.get F.GRD_P_STAT_STATE n

/-- The Lintel of port `n` takes a state. -/
def State.setLintel (s : State) (n st : Nat) : State := s.set F.GRD_P_STAT_STATE st n

/-- The composition runs on port `n` (R164, R76). -/
def State.runsOn (s : State) (n : Nat) : Bool := s.serves n && !(s.on F.SPK_LINK_GEN_MISMATCH n) && s.get F.SPK_TEST n == 0

/-- The kill latch is set. -/
def State.killed (s : State) : Bool := s.on F.GRD_KILL_STAT_LATCHED

/-! ### The map (R165, R166) -/

/-- A path model's D0 of position `p`. -/
def State.pathD0 (s : State) (p : Nat) : Option Nat := (s.pace.models.find? (fun m => m.1 == s.tabUid p)).map (·.2.1)

/-- D_b of the branch on port `n` by the path models as they stand; `none` while one of the positions behind it has no D0
(R179). -/
def State.branchD (s : State) (n : Nat) : Option Nat :=
  (s.line n).behind.foldl (fun o p => match o, s.pathD0 p with | some m, some d => some (max m d) | _, _ => none) (some 0)

/-- Port `n` is a branch port now: HUB_BR_STAT.ROLE reads 1. -/
def State.isBranch (s : State) (n : Nat) : Bool := s.get F.HUB_BR_STAT_ROLE n == 1

/-- The map port `n` needs while the node is in state `s`, with D_sync `d`: the Lintel map, and on a branch port the hub map
(R183). Slot 4 belongs to no position: its turn follows the course count. -/
def State.mapFor (s : State) (n d : Nat) : LMap :=
  { courseNs := s.courseNs, n := s.sched.slots.length, g := s.g, gap := s.gapAt, w := s.drift, pos := s.pos, count := s.count,
    gen := s.gen, datum := s.actsDatum, standby := !s.drives, facing := s.so.facing == some n || s.portGen n == 1, dSync := d,
    atCourse := s.course,
    entries := (List.range s.sched.slots.length).map (fun i =>
      match s.slot i with
      | some e => (e.start, e.len, if i = 4 then 0 else s.ownerOf i, e.kind)
      | none => (0, 0, 0, 0))
    db := if s.isBranch n then s.branchD n else none
    behind := if s.isBranch n then (s.line n).behind else [] }

/-- The map as the list of its numbers. -/
def LMap.flat (m : LMap) : List Nat :=
  [m.courseNs, m.n, m.g, m.gap, m.w, m.pos, m.count, m.gen, m.datum.toNat + 2 * m.standby.toNat + 4 * m.facing.toNat, m.dSync,
   m.atCourse] ++ (m.entries.map (fun e => [e.1, e.2.1, e.2.2.1, e.2.2.2])).flatten ++ [m.db.getD 0xFFFFFFFF] ++ m.behind

/-- Two maps agree in everything but the course at which they take effect and the delays the Trowel refreshes by an ordinary
load, D_sync and D_b (R166, R179). -/
def LMap.same (a b : LMap) : Bool :=
  decide ({ a with atCourse := 0, dSync := 0, db := none } = { b with atCourse := 0, dSync := 0, db := none })

/-- D_sync as the Trowel puts it in a map it loads: refreshed when LINE_DATUM_D has left it by more than g/4 (R166). -/
def State.dSync (s : State) (n : Nat) : Nat :=
  let d := if s.actsDatum then 0 else s.get F.LINE_DATUM_D
  match (s.line n).map with
  | some m => if 4 * (d - m.dSync) ≤ m.g ∧ 4 * (m.dSync - d) ≤ m.g then m.dSync else d
  | none => d

/-- The map port `n` needs now. -/
def State.needMap (s : State) (n : Nat) : LMap := s.mapFor n (s.dSync n)

/-- A Lintel map loaded into the shadow bank of port `n` for the boundary before which `next` describes the node, its
CRCs agreeing or not (R165). Only an agreement before G counts. -/
def State.loadMap (s next : State) (n : Nat) (agree : Bool) : State :=
  let m := next.needMap n
  s.setLine n { s.line n with shadow := some (m, agree && s.into < s.gapAt) }

/-- The CRC registers of port `n` after its map became active; GRD_MAP_CRC is the Trowel's copy. -/
def State.mapCrcs (s : State) (n : Nat) (m : LMap) : State :=
  (s.set F.GRD_P_CRC (Config.mapCrc m.flat) n).set F.GRD_MAP_CRC (Config.mapCrc m.flat)

/-- What is on the air on port `n`, own or relayed, is cut where it stands. -/
def State.cutAir (s : State) (n : Nat) : State :=
  let l := s.line n
  let s := match l.sending with
    | some (k, start, f) => if s.clk.lt < start + airTime (s.portGen n) (fLen f) then s.emit (.cut n k) else s
    | none => s
  let s := match l.relaying with
    | some (k, stop) => if s.clk.lt < stop then s.emit (.cut n k) else s
    | none => s
  s.setLine n { l with sending := none, relaying := none }

/-- The Lintel of a port on which no composition runs is SHUT and holds no map (R164); a killed one stays KILLED. -/
def State.lintelShut (s : State) (n : Nat) : State :=
  let s := s.cutAir n
  (s.setLine n { s.line n with map := none, shadow := none, arming := false, primed := false }).setLintel n (if s.killed then 4 else 0)

/-- A port on which the composition has just ceased to run is SHUT at once (R164). -/
def State.lintelFollow (s : State) (n : Nat) : State := if s.runsOn n || s.lintel n = 5 then s else s.lintelShut n

/-- The map with which port `n` opens the course that begins: the one loaded for it, where its CRCs agreed and it is what the
node needs, or, with none loaded, the active one where no change was due and its CRC agreed; else none (R165, R166). -/
def State.nextMap (s : State) (n : Nat) : Option LMap :=
  let l := s.line n
  match l.shadow with
  | some (m, ok) => if ok && m.atCourse == s.course && m.same (s.needMap n) then some m else none
  | none => match l.map with
    | some m => if m.same (s.needMap n) && !l.crcBad then some m else none
    | none => none

/-- Port `n` at a boundary, the node being in the state the boundary gives it (R165, R166, R168). Its timer runs on the port's
own clock, so trim and slew move its boundary against the Trowel's; it is set from the Trowel's where a map first takes effect
and at the end of a source's REARM. -/
def State.lintelBoundary (s : State) (n : Nat) : State :=
  let l := s.line n
  let adv : Int := ((s.courseNs : Int) * s.trim + s.pace.slew - s.clk.slewLeft) / (ltUnit : Int)
  if s.lintel n = 5 then s
  else if !(s.runsOn n) then s.lintelShut n
  else
    let next := s.nextMap n
    let l' := { l with ofs := l.ofs + adv, sending := none, relaying := none, shadow := none }
    match next with
    | some m =>
      let ready := l.primed || s.isSource
      let fresh := if l.arming then s.isSource else l.map.isNone
      let s := if l.shadow.isSome then s.mapCrcs n m else s
      let s := s.setLine n { l' with map := some m, crcBad := false, ofs := if fresh then 0 else l'.ofs }
      if s.killed then s.setLintel n 4
      else if l.arming && !ready then s.setLintel n 3
      else (s.setLine n { s.line n with arming := false, primed := false, lead := if fresh || l.arming then 0 else l.lead }).setLintel n 1
    | none =>
      let s := s.setLine n l'
      if s.killed then s.setLintel n 4
      else ((s.setLintel n 2).inc F.GRD_P_MISMATCH n).irq 0x13 9

/-- The CRC of the active map is sent before G; a disagreement puts the Lintel in MISMATCH from the next boundary
(R166). -/
def State.refreshCrc (s : State) (n : Nat) (agree : Bool) : State :=
  if agree || (s.line n).map.isNone then s else s.setLine n { s.line n with crcBad := true }

/-- The Lintel of port `n` enters REARM (R168): it passes nothing until a SYNC token has set its boundary and the following
course boundary has passed. One without a map, or in MISMATCH, waits for its map as well. -/
def State.rearmAt (s : State) (n : Nat) : State :=
  if s.lintel n = 5 then s
  else
    let s := s.cutAir n
    let s := s.setLine n { s.line n with arming := true, primed := false }
    if (s.line n).map.isSome && (s.lintel n = 1 || s.lintel n = 3) then s.setLintel n 3 else s

/-- Every Lintel enters REARM (R168). -/
def State.rearm (s : State) : State := (List.range 8).foldl (fun s n => s.rearmAt n) s

/-! ### The timer (R167) -/

/-- A SYNC token with the stamp of its W0 reaches the Lintel of port `n`. -/
def State.syncTokenAt (s : State) (stamp : Nat) (n : Nat) : State :=
  let l := s.line n
  match l.map with
  | none => s
  | some m =>
    let b : Int := (stamp : Int) - m.dSync
    let e := b - ((s.base : Int) + l.ofs)
    let s := s.set F.GRD_P_DERR (satSigned 32 e) n
    if l.arming && !s.killed then s.setLine n { l with ofs := b - s.base, primed := true }
    else if e.natAbs < m.g then s.setLine n { l with ofs := b - s.base }
    else (s.setLine n { l with ofs := l.ofs + (if e < 0 then -(m.g : Int) else m.g) }).inc F.GRD_P_CLIP n

/-- A SYNC token goes over the guard bus to every Lintel of the node. -/
def State.syncToken (s : State) (stamp : Nat) : State := (List.range 8).foldl (fun s n => s.syncTokenAt stamp n) s

/-! ### Gates -/

/-- The Lintel's own course count (R167). -/
def State.lintelCourse (s : State) (n : Nat) : Nat := s.course + (s.line n).lead

/-- A self-test slice shuts the transmit path of port `n` (R37, R175). -/
def State.lintelTested (s : State) (n : Nat) : Bool := s.testing 0x13 (0x200 + 0x40 * n)

/-- The line time at which the Lintel of port `n` has its boundary. -/
def State.lintelBase (s : State) (n : Nat) : Int := (s.base : Int) + (s.line n).ofs

/-- The class of a slot permits a frame (table of R169). `slotIx` 0x3FF is the drift window. DESIGN CHOICE: slot 6 passes the
null frame that R87 has its owner send (log entry 88). -/
def classPermits (m : LMap) (course slotIx kind flags : Nat) : Bool :=
  if slotIx = 0x3FF then kind == 3
  else match slotIx with
  | 0 => kind == 2 && m.datum
  | 1 => kind == 3 && flags == 0
  | 2 => kind == 3 && flags == 1
  | 3 => kind == 3 && 2 ≤ flags && m.datum
  | 4 => kind == 3 && flags == 0 && m.pos == course % (max 1 m.count) + 1
  | 5 => kind == 5 && (flags == 0 || flags == 3) && m.pos != 0 && m.facing
  | 6 => ((kind == 5 && (flags == 1 || flags == 2)) || kind == 4) && m.datum
  | 7 => kind == 6 && m.datum
  | _ =>
    match m.entries[slotIx]? with
    | some (_, _, owner, k) =>
      owner == m.pos && owner != 0 && (kind == 4 || (k == 6 && kind == 0) || (k == 7 && kind == 1) || (k == 8 && kind == 6)
        || (k == 9 && kind ≤ 1))
    | none => false

/-- What the Lintel of port `n` does with a frame of the node's own whose transmission would begin at `start`. -/
inductive Gate where
  | pass | refuse | kind
  deriving DecidableEq, Repr

/-- The Lintel's decision on an own frame (R169, R170, R176). `drift` is set for a TIMING frame. -/
def State.ownGate (s : State) (n start : Nat) (f : List Nat) : Gate :=
  let l := s.line n
  if s.lintelTested n then .refuse
  else if s.lintel n = 5 then
    (if fKind f = 7 && fLen f = 2 && (l.wakeAt = 0 || l.wakeAt + 1000000 ≤ s.clk.now) then .pass else .refuse)
  else match l.map with
  | none => .refuse
  | some m =>
    if s.lintel n != 1 || m.standby || l.hold then .refuse else
      let b := s.lintelBase n
      let t : Int := start
      let six := fSlot f
      let inside :=
        if six = 0x3FF && fKind f = 3 then b + m.gap ≤ t && t < b + m.gap + m.w
        else match m.entries[six]? with
          | some (st, len, _, _) => b + st - m.g ≤ t && t < b + st + len + m.g
          | none => false
      if !inside then .refuse
      else if !(s.on F.GRD_CFG_KIND_CHECK) then .pass
      else if classPermits m (s.lintelCourse n) six (fKind f) (fFlags f) && fCourse f == s.lintelCourse n % 2 ^ 32 then .pass
      else .kind

/-- A frame handed to the Lintel of port `n` at line time `start`: it goes out, or is refused and counted. DESIGN CHOICE: the
event REFUSE is raised for GRD_P_REFUSE, GRD_P_KIND and GRD_P_NOTOKEN alike (log entry 85). -/
def State.originate (s : State) (n start : Nat) (f : List Nat) : State :=
  match s.ownGate n start f with
  | .pass =>
    let s := s.send n start f
    let l := s.line n
    s.setLine n { l with sending := some (fSlot f, start, f), wakeAt := if fKind f = 7 then s.clk.now else l.wakeAt
                         passedAt := s.clk.now }
  | .refuse => (s.inc F.GRD_P_REFUSE n).irq 0x13 10
  | .kind => (s.inc F.GRD_P_KIND n).irq 0x13 10

/-- Read-back on Spaka-A port `n` finds a mismatch in the frame of slot `slot` that it sends: the codec stops, counts a collision,
and the frame is not sent again in this course (R69). -/
def State.collide (s : State) (n slot : Nat) : State :=
  (((s.setLine n { s.line n with sending := none, relaying := none }).emit (.cut n slot)).inc F.SPK_A_COLL n).portIrq n 10

/-- A frame was passed on port `n` for slot `slot` in this course. -/
def State.passed (s : State) (n slot : Nat) : Bool :=
  match (s.line n).sending with | some (k, _, _) => k == slot | none => false

/-- The close of the window a frame of slot `slot` is sent in, from the Lintel's boundary: the drift window's for TIMING. -/
def LMap.closeOf (m : LMap) (slot : Nat) (f : List Nat) : Option Nat :=
  if fKind f = 3 && fSlot f = 0x3FF then some (m.gap + m.w)
  else (m.entries[slot]?).map (fun e => e.1 + e.2.1 + m.g)

/-- The window of slot `slot` closes at port `n`, the drift window with 0x3FF: a frame still being sent is cut (R170). -/
def State.windowClose (s : State) (n slot : Nat) : State :=
  let l := s.line n
  match l.map, l.sending with
  | some m, some (k, start, f) =>
    if k != slot then s else
      match m.closeOf slot f with
      | some c =>
        let close := s.lintelBase n + c
        let s := s.elapseLt close.toNat
        if close < (start + airTime (s.portGen n) (fLen f) : Nat) then
          ((s.setLine n { l with sending := none }).inc F.GRD_P_TRUNC n).emit (.cut n slot)
        else s.setLine n { l with sending := none }
      | none => s
  | _, _ => s

/-- The egress Lintel of port `n` passes a relayed frame whose W0 was stamped at `stamp` (R171). -/
def State.relayGate (s : State) (n stamp slot : Nat) : Bool :=
  let l := s.line n
  match l.map with
  | none => false
  | some m =>
    s.lintel n == 1 && !m.standby && !l.hold && !(s.lintelTested n) &&
      (match m.entries[slot]? with
       | some (st, _, _, _) => s.lintelBase n + st - m.g ≤ (stamp : Int) && (stamp : Int) < s.lintelBase n + m.gap
       | none => false)

/-! ### The kill (R172, R173) -/

/-- The kill latch sets in every port island: every transmit path is off, frames in progress are cut, and a twin
releases its gates and TW_ACT (R172, R238). -/
def State.kill (s : State) : State :=
  if s.killed then s.set F.GRD_KILL_STAT_PIN_LOW 1 else
    let s := (((s.set F.GRD_KILL_STAT_PIN_LOW 1).set F.GRD_KILL_STAT_LATCHED 1).inc F.GRD_KILL_CNT).irq 0x13 8
    let s := s.urgent 0
    (List.range 8).foldl (fun s n =>
      let s := s.cutAir n
      (s.setLine n { s.line n with arming := true, primed := false }).setLintel n 4) s

/-- The latch clears once the pin has been high for 1 µs; each Lintel enters REARM (R173). -/
def State.killRelease (s : State) : State :=
  let s := (s.elapse 1000).set F.GRD_KILL_STAT_PIN_LOW 0
  if !s.killed then s else
    let s := s.set F.GRD_KILL_STAT_LATCHED 0
    let asleep := s.get F.PWR_STAT_STATE != 0 || s.on F.PWR_STAT_ENTERING || s.on F.PWR_STAT_WAKING
    (List.range 8).foldl (fun s n =>
      (s.setLine n { s.line n with arming := true, primed := false }).setLintel n
        (if (s.line n).map.isSome then 3 else if asleep && s.runsOn n then 5 else 0)) s

/-! ### Receive watches (R174) -/

/-- Position `p` is heard in this course. -/
def State.hear (s : State) (p : Nat) : State :=
  if s.so.heard.contains p then s else { s with so := { s.so with heard := p :: s.so.heard } }

/-- GRD_SILENT bit of position `p`. -/
def State.silentBit (s : State) (p : Nat) : Bool :=
  if p ≤ 32 then bit (s.get F.GRD_SILENT_LO) (p - 1) else bit (s.get F.GRD_SILENT_HI) (p - 33)

/-- GRD_SILENT bit of position `p` written. -/
def State.setSilent (s : State) (p : Nat) (b : Bool) : State :=
  if p ≤ 32 then s.set F.GRD_SILENT_LO (setBit (s.get F.GRD_SILENT_LO) (p - 1) b)
  else s.set F.GRD_SILENT_HI (setBit (s.get F.GRD_SILENT_HI) (p - 33) b)

/-- The Heard watch at a boundary: every other position of the composition is counted. -/
def State.silentBoundary (s : State) : State :=
  let n := s.get F.GRD_CFG_SIL_N
  let others := ((List.range s.count).map (· + 1)).filter (· != s.pos)
  let s := others.foldl (fun s p =>
    if s.so.heard.contains p then
      { s.setSilent p false with so := { s.so with unheard := put p 0 s.so.unheard } }
    else
      let r := look 0 p s.so.unheard + 1
      let s := { s with so := { s.so with unheard := put p r s.so.unheard } }
      if n ≤ r && !(s.silentBit p) then (s.setSilent p true).irq 0x13 12 else s) s
  { s with so := { s.so with heard := [] } }

/-- Own carrier on port `n` inside the own window of slot `slot` in which the Lintel passed nothing (R174). On an end port
such a window in slot 0 or from slot 8 on keeps the course from being silent (R236). -/
def State.ownCarrier (s : State) (n slot : Nat) : State :=
  let s := s.setLine n { s.line n with ownCar := true }
  if n < 2 && (slot = 0 || 8 ≤ slot) then { s with twin := { s.twin with sawCarrier := true } } else s

/-- The Own carrier watch at a boundary: GRD_P_OWNCAR shows the course completed. -/
def State.ownCarBoundary (s : State) : State :=
  (List.range 8).foldl (fun s n =>
    (s.setB F.GRD_P_STAT_OWNCAR (s.line n).ownCar n).setLine n { s.line n with ownCar := false }) s

/-- Babble counted (R174). -/
def State.babble (s : State) (n : Nat) : State := (s.inc F.GRD_P_BABBLE_RX n).irq 0x13 11

/-! ### The Keystone hub (R177 to R182) -/

/-- The branch gate of port `n` judges what arrives: not while the port is under probe, when nothing stands behind it yet
and the partner runs its own course (R148, R179). -/
def State.gated (s : State) (n : Nat) : Bool := s.isBranch n && !(s.so.probes.any (fun q => q.port == n))

/-- HUB_BR_STAT.ROLE of port `n` at a commit (R177). -/
def State.branchRole (s : State) (n : Nat) : Nat :=
  let want := bit s.so.hub 0 && (2 ≤ n || (n == 0 && bit s.so.hub 1) || (n == 1 && bit s.so.hub 2))
  if !want then 0 else if s.so.facing = some n ∨ s.portGen n = 1 then 2 else 1

/-- A hub's configuration in effect taken at a commit (R178); a port that is no branch reads its counters 0. -/
def State.hubCommit (s : State) : State :=
  let hub := (s.on F.HUB_CFG_HUB_EN).toNat + 2 * (s.on F.HUB_CFG_END0_BRANCH).toNat + 4 * (s.on F.HUB_CFG_END1_BRANCH).toNat
  let s := { s with so := { s.so with hub := hub } }
  (List.range 8).foldl (fun s n =>
    let s := s.set F.HUB_BR_STAT_ROLE (s.branchRole n) n
    if s.isBranch n then s
    else
      let s := ((s.set F.HUB_BR_STAT_STATE 0 n).set F.HUB_BR_STAT_CLEAN 0 n).set F.HUB_BR_VIOL 0 n
      (s.set F.HUB_BR_CUTS 0 n).set F.HUB_BR_FWD 0 n) s

/-- The hub map by which the gate of port `n` goes: the active one, or what the node needs where none is (R179, R183). -/
def State.gateMap (s : State) (n : Nat) : LMap := (s.line n).map.getD (s.needMap n)

/-- HUB_BR_STAT.BEHIND and HUB_BR_DB brought up to date. -/
def State.branchRegs (s : State) : State :=
  (List.range 8).foldl (fun s n =>
    if s.isBranch n then
      (s.set F.HUB_BR_STAT_BEHIND (s.line n).behind.length n).set F.HUB_BR_DB ((s.gateMap n).db.getD 0xFFFFFFFF) n
    else (s.set F.HUB_BR_STAT_BEHIND 0 n).set F.HUB_BR_DB 0 n) s

/-- A branch with hub map `m` may use slot `slot` in course `course` (R179). -/
def LMap.branchSlot (m : LMap) (course slot : Nat) : Bool :=
  if slot = 1 ∨ slot = 2 ∨ slot = 5 then true
  else if slot = 0 ∨ slot = 3 ∨ slot = 6 ∨ slot = 7 then m.behind.contains 1
  else if slot = 4 then m.behind.contains (course % (max 1 m.count) + 1)
  else match m.entries[slot]? with | some e => m.behind.contains e.2.2.1 | none => false

/-- The close of the gate's window of an entry, from the Lintel's boundary (R179). -/
def LMap.branchClose (m : LMap) (e : Nat × Nat × Nat × Nat) : Nat :=
  match m.db with
  | some d => min (e.1 + e.2.1 + d + m.g) m.gap
  | none => m.gap

/-- The instant `t` from the Lintel's boundary lies in the window of slot `slot`, which the branch may use. -/
def LMap.inBranch (m : LMap) (course slot : Nat) (t : Int) : Bool :=
  match m.entries[slot]? with
  | some e => m.branchSlot course slot && decide ((e.1 : Int) - m.g ≤ t) && decide (t < m.branchClose e)
  | none => false

/-- How the branch gate judges a frame (R180, R181): it passes, is delivered alone, is dropped without a violation, violates,
or overruns its window's close. -/
inductive Branch where
  | pass | deliver | drop | violation | overrun (close : Int)
  deriving DecidableEq, Repr

/-- The branch gate on port `n` for a frame whose W0 is stamped at `stamp` and whose last word is in at `stop`. A frame that
starts inside a window of the branch, and not in one of the slot it names, is no violation and goes no further. -/
def State.branchGate (s : State) (n stamp stop : Nat) (f : List Nat) : Branch :=
  let m := s.gateMap n
  let c := s.lintelCourse n
  let b := s.lintelBase n
  let t : Int := stamp - b
  let drift := decide ((m.gap : Int) ≤ t) && decide (t < m.gap + m.w)
  let other : Branch :=
    if drift || (List.range m.entries.length).any (fun i => m.inBranch c i t) then .drop else .violation
  if fKind f = 3 ∧ fSlot f = 0x3FF then
    (if drift && (fDst f == s.pos || fDst f == 0) then .deliver else other)
  else match m.entries[fSlot f]? with
  | none => other
  | some e =>
    let close := b + m.branchClose e
    if !(m.inBranch c (fSlot f) t) then other
    else if !(m.behind.contains (fSrc f)) && !(fSlot f == 1 || fSlot f == 2 || fSlot f == 5) then .violation
    else if close ≤ (stop : Int) then .overrun close
    else if fSlot f = 1 then .deliver
    else .pass

/-- A violation on branch port `n` (R181, R182), naming the frame's slot and SRC, or 0x3FF and 0 for carrier. -/
def State.branchViolation (s : State) (n slot src : Nat) : State :=
  if !(s.gated n) then s else
    let s := (((s.inc F.HUB_BR_VIOL n).set F.HUB_BR_LAST_SLOT slot n).set F.HUB_BR_LAST_SRC src n).set F.HUB_BR_LAST_COURSE (s.lintelCourse n) n
    let s := s.irq 0x14 10
    let l := s.line n
    if l.violNow then s else
      let s := s.setLine n { l with violNow := true }
      if s.get F.HUB_BR_STAT_STATE n = 0 && s.get F.HUB_CFG_CUT_N ≤ l.violRun + 1 then
        (((s.set F.HUB_BR_STAT_STATE (if s.on F.HUB_BR_CFG n then 2 else 1) n).set F.HUB_BR_STAT_CLEAN 0 n).inc
          F.HUB_BR_CUTS n).irq 0x14 8
      else s

/-- The branches at a boundary: a course with a violation continues a run, one without counts as clean (R182). -/
def State.branchBoundary (s : State) : State :=
  (List.range 8).foldl (fun s n =>
    if !(s.isBranch n) then s else
      let l := s.line n
      let s := s.setLine n { l with violNow := false, violRun := if l.violNow then l.violRun + 1 else 0 }
      if s.get F.HUB_BR_STAT_STATE n != 0 then
        (if l.violNow then s.set F.HUB_BR_STAT_CLEAN 0 n
         else s.set F.HUB_BR_STAT_CLEAN (min (s.get F.HUB_BR_STAT_CLEAN n + 1) (s.get F.HUB_CFG_CLEAN_N)) n)
      else s) s

/-- A branch forwards again. -/
def State.reinstate (s : State) (n : Nat) : State :=
  if s.get F.HUB_BR_STAT_STATE n = 0 then s
  else ((s.set F.HUB_BR_STAT_STATE 0 n).set F.HUB_BR_STAT_CLEAN 0 n).irq 0x14 9

/-- A cut branch whose clean courses have reached CLEAN_N is reinstated at the boundary (R182). With LATCH set it stays cut. -/
def State.reinstateDue (s : State) (n : Nat) : State :=
  if s.get F.HUB_BR_STAT_STATE n = 1 && !(s.on F.HUB_BR_CFG n) && s.get F.HUB_CFG_CLEAN_N ≤ s.get F.HUB_BR_STAT_CLEAN n then s.reinstate n
  else s

/-- LATCH set on a branch that a violation has cut: it stays cut until REINSTATE, which STATE 2 shows (R182). -/
def State.latchFollow (s : State) (n : Nat) : State :=
  if s.on F.HUB_BR_CFG n && s.get F.HUB_BR_STAT_STATE n = 1 then s.set F.HUB_BR_STAT_STATE 2 n else s

/-- HUB_CMD.CUT and HUB_CMD.REINSTATE on the branch ports named (R182). DESIGN CHOICE: a port named in both is reinstated and
then cut, and CUT of a branch that a violation has cut is a cut of its own, counted and raised (log entry 86). -/
def State.hubCommand (s : State) (reinstate cut : Nat) : State :=
  let s := (List.range 8).foldl (fun s n => if bit reinstate n && s.isBranch n then s.reinstate n else s) s
  (List.range 8).foldl (fun s n =>
    if bit cut n && s.isBranch n then
      (if s.get F.HUB_BR_STAT_STATE n = 2 then s
       else ((s.set F.HUB_BR_STAT_STATE 2 n).inc F.HUB_BR_CUTS n).irq 0x14 8)
    else s) s

end Sys2Proof.Machine
end

