-- ==== Sys2Proof/Machine/Meter.lean ====
section
/-! DEFINITION. Energy metering and the Tally (chapter 13): accumulation, billing periods and what closes them, Tally
records, the queue and its copy to the Vault, snapshots, and what a twin carries over. -/

namespace Sys2Proof.Machine

/-! ### Channels and accumulation (R350 to R352) -/

/-- Metering channel `n`. -/
def State.mchan (s : State) (n : Nat) : MtrChan := s.mtr.chans.getD n MtrChan.zero

/-- Metering channel `n` replaced. -/
def State.setMchan (s : State) (n : Nat) (c : MtrChan) : State := { s with mtr := { s.mtr with chans := s.mtr.chans.set n c } }

/-- Every metering channel changed. -/
def State.mapMchan (s : State) (f : Nat → MtrChan → MtrChan) : State :=
  { s with mtr := { s.mtr with chans := (List.range 48).map (fun n => f n (s.mchan n)) } }

/-- MTR_EN of channel `n` (R352). -/
def State.mtrEn (s : State) (n : Nat) : Bool := if n < 32 then bit (s.get F.MTR_EN_LO) n else bit (s.get F.MTR_EN_HI) (n - 32)

/-- The metering island accumulates: it runs, and metering is not stopped. -/
def State.metering (s : State) : Bool := s.on F.MTR_STAT_RUNNING && s.islandServes 28

/-- 1 mJ in the units of a residue. -/
def mjUnit : Int := 2 ^ 31 * 10 ^ 27

/-- A contribution added to a channel: whole millijoules go to the counter, which never decreases, and the residue stops at
−1 mJ, which the second component reports (R350). -/
def MtrChan.addEnergy (c : MtrChan) (e : Int) : MtrChan × Bool :=
  let r := c.residue + e * 2 ^ 31
  if r ≥ mjUnit then ({ c with counter := min (c.counter + (r / mjUnit).toNat) (2 ^ 64 - 1), residue := r % mjUnit }, false)
  else if r < -mjUnit then ({ c with residue := -mjUnit }, true)
  else ({ c with residue := r }, false)

/-- A pair counted in the open period (R350, R351). -/
def State.countPair (s : State) (p : MtrPair) : State :=
  let (c, floor) := (s.mchan p.chan).addEnergy (p.v * p.i * p.len)
  let s := s.setMchan p.chan { c with cov := c.cov + p.len, flags := c.flags.lor p.flags }
  if floor then s.inc F.MTR_FLOOR else s

/-- The stamp of an event. -/
def MtrEvent.stamp : MtrEvent → Nat
  | .edge _ t _ => t
  | .set _ _ _ _ t _ => t
  | .stop _ _ t _ => t

/-- The event with its stamp moved with a step of line time. -/
def MtrEvent.moved (eps : Int) : MtrEvent → MtrEvent
  | .edge n t v => .edge n ((t : Int) + eps).toNat v
  | .set a b c d t v => .set a b c d ((t : Int) + eps).toNat v
  | .stop a b t v => .stop a b ((t : Int) + eps).toNat v

/-- Line time has stepped by `eps`: what was stamped before stays before what comes after (R356). -/
def State.meterStep (s : State) (eps : Int) : State :=
  { s with mtr := { s.mtr with events := s.mtr.events.map (MtrEvent.moved eps)
                               late := s.mtr.late.map (fun p => { p with stamp := ((p.stamp : Int) + eps).toNat })
                               edgeAt := s.mtr.edgeAt.map (fun t => ((t : Int) + eps).toNat) } }

/-- A pair belongs to the period open at its stamp: from the stamp of an undecided event on it waits for that event
(R356). -/
def State.meterPair (s : State) (p : MtrPair) : State :=
  if !s.metering && s.mtr.events.isEmpty || !(s.mtrEn p.chan) then s
  else match s.mtr.events with
    | e :: _ => if e.stamp ≤ p.stamp then { s with mtr := { s.mtr with late := s.mtr.late ++ [p] } } else s.countPair p
    | [] => s.countPair p

/-! ### Periods (R354, R355) -/

/-- P in minutes by its code. -/
def periodMin (code : Nat) : Nat :=
  match code with
  | 0 => 1 | 1 => 5 | 2 => 10 | 3 => 15 | 4 => 30 | _ => 60

/-- The code of P minutes. -/
def periodCode (m : Nat) : Nat :=
  match m with
  | 1 => 0 | 5 => 1 | 10 => 2 | 15 => 3 | 30 => 4 | _ => 5

/-- P in force, in minutes. -/
def State.pMin (s : State) : Nat := periodMin (s.get F.MTR_STAT_PERIOD)

/-- The nominal interval length in force, in seconds. -/
def State.pSec (s : State) : Nat := 60 * s.pMin

/-- The start of the nominal interval that holds `sec`. -/
def State.nomOf (s : State) (sec : Nat) : Nat := sec / s.pSec * s.pSec

/-- The nominal start of the open period. -/
def State.nominal (s : State) : Nat := s.get F.MTR_NOM_LO + 2 ^ 32 * s.get F.MTR_NOM_HI

/-- The actual start of the open period: seconds and subsecond. -/
def State.actual (s : State) : Nat × Nat :=
  (s.get F.MTR_ACT_LO + 2 ^ 32 * bits (s.get F.MTR_ACT_HI) 0 8, bits (s.get F.MTR_ACT_HI) 8 15)

/-- The open period's start set. -/
def State.setStart (s : State) (nom sec sub : Nat) : State :=
  (((s.set F.MTR_NOM_LO nom).set F.MTR_NOM_HI (nom / 2 ^ 32)).set F.MTR_ACT_LO sec).set F.MTR_ACT_HI
    (sec / 2 ^ 32 % 256 + 256 * sub)

/-- A node flag of the open period set. -/
def State.nodeFlag (s : State) (b : Nat) : State := s.orBit F.MTR_FLAGS b

/-- A channel flag of every channel of the open period set. -/
def State.chanFlag (s : State) (b : Nat) : State :=
  s.mapMchan (fun _ c => if c.joined then { c with flags := setBit c.flags b true } else c)

/-- A period opens; every channel enabled then belongs to it (R352). `node` and `chan` are the flags it opens with. -/
def State.openPeriod (s : State) (nom sec sub node chan : Nat) : State :=
  let s := (s.setStart nom sec sub).set F.MTR_FLAGS node
  let s := s.mapMchan (fun n c => { c with atOpen := c.counter, cov := 0, flags := if s.mtrEn n then chan else 0, joined := s.mtrEn n })
  { s.set F.MTR_STAT_RUNNING 1 with mtr := { s.mtr with isOpen := true, span := 1, edgeAt := none } }

/-- A new length takes effect (R355). -/
def State.periodChange (s : State) : State :=
  if s.on F.MTR_STAT_CHANGE_PENDING then
    ((s.set F.MTR_STAT_PERIOD (s.get F.MTR_CFG_PERIOD)).set F.MTR_STAT_CHANGE_PENDING 0).irq 0x30 10
  else s

/-- MTR_CFG.PERIOD written: held until it takes effect (R355). -/
def State.periodWritten (s : State) : State :=
  s.setB F.MTR_STAT_CHANGE_PENDING (s.get F.MTR_CFG_PERIOD != s.get F.MTR_STAT_PERIOD)

/-- MTR_EN written: a channel newly enabled joins the open period (R352). -/
def State.mtrEnWritten (s : State) : State :=
  if s.mtr.isOpen then
    s.mapMchan (fun n c => if s.mtrEn n && !c.joined then { c with atOpen := c.counter, cov := 0, flags := 0, joined := true } else c)
  else s

/-! ### Records and the queue (R358, R362 to R365) -/

/-- The bytes of a record before its flags are final: flags are put in when it is written. -/
structure TalyRec where
  chan  : Nat
  flags : Nat
  seq   : Nat
  nom   : Nat
  act   : Nat × Nat
  fin   : Nat × Nat
  energy  : Nat
  counter : Nat
  cov   : Nat
  span  : Nat
  pmin  : Nat
  deriving DecidableEq, Repr

/-- The 60 bytes of a record that its CRC covers. -/
def TalyRec.head (r : TalyRec) : List Nat :=
  [1, r.chan] ++ le 2 r.flags ++ le 4 r.seq ++ le 8 (r.nom % 2 ^ 40) ++ rtcBytes r.act.1 r.act.2 ++ rtcBytes r.fin.1 r.fin.2
    ++ le 8 r.energy ++ le 8 r.counter ++ le 4 r.cov ++ le 4 r.span ++ [r.pmin, 0, 0, 0]

/-- A record (R362). -/
def TalyRec.bytes (r : TalyRec) : List Nat := r.head ++ le 4 (crc32r r.head)

/-- Oldest index held in the queue: a record leaves once it is in the Vault or below TALY_ACK (R363). -/
def State.talyOld (s : State) : Nat := max (s.get F.TALY_VLT_IDX) (s.get F.TALY_ACK)

/-- Free places of the queue. -/
def State.talyRoom (s : State) : Nat := s.get F.TALY_Q_SIZE - (s.get F.TALY_WR_IDX - s.talyOld)

/-- Records cannot enter the Vault at once: TALY_STAT.VAULT_FULL or VAULT_RO (R364). -/
def State.talyHeld (s : State) : Bool := s.on F.TALY_STAT_VAULT_FULL || s.on F.TALY_STAT_VAULT_RO

/-- VAULT_FULL and VAULT_RO as the next copy finds them (R364). -/
def State.talyStat (s : State) : State :=
  let i := s.get F.TALY_VLT_IDX
  let s := s.setB F.TALY_STAT_VAULT_RO s.vaultRo
  s.setB F.TALY_STAT_VAULT_FULL (i < s.get F.TALY_WR_IDX && i % 64 == 0 && s.get F.TALY_ACK + 32640 < i + 64)

/-- One record written to the queue (R363), with HELD where it cannot enter the Vault at once (R364). -/
def State.putRecord (s : State) (r : TalyRec) : State :=
  let s := s.talyStat
  let i := s.get F.TALY_WR_IDX
  let held := s.talyHeld
  let r := if held then { r with flags := setBit r.flags 9 true } else r
  let s := (s.qWrite 11 (s.get F.TALY_Q_BASE * 64 + i % s.get F.TALY_Q_SIZE * 64) r.bytes).2
  let s := s.set F.TALY_WR_IDX (i + 1)
  if held then (s.inc F.TALY_HELD).irq 0x31 10 else s

/-- Records have entered the queue: RECORD, and Q_HIGH where it holds three quarters of its size or more. -/
def State.talyEvents (s : State) : State :=
  let s := s.irq 0x31 8
  if 3 * s.get F.TALY_Q_SIZE ≤ 4 * (s.get F.TALY_WR_IDX - s.talyOld) then s.irq 0x31 9 else s

/-- Records written to the queue, with their events. -/
def State.putRecords (s : State) (rs : List TalyRec) : State :=
  if rs.isEmpty then s else (rs.foldl State.putRecord s).talyEvents

/-- A sequence number is assigned (R358). -/
def State.takeSeq (s : State) : Nat × State := (s.get F.TALY_SEQ, s.set F.TALY_SEQ (s.get F.TALY_SEQ + 1))

/-- The channels of the open period. -/
def State.members (s : State) : List Nat := (List.range 48).filter (fun n => (s.mchan n).joined)

/-- The records of the open period, closed with actual end `fin` and the further flags `extra` (R358, R362). -/
def State.closeRecords (s : State) (fin : Nat × Nat) (extra : Nat) : List TalyRec × State :=
  let ms := s.members
  if ms.isEmpty then ([], s) else
    let (seq, s) := s.takeSeq
    (ms.map (fun n =>
      let c := s.mchan n
      let cov : Nat := min (c.cov / 1000) 0xFFFFFFFF
      let part := cov < s.pSec * 1000000 - 1000
      { chan := n, seq := seq, flags := setBit ((s.get F.MTR_FLAGS).lor (c.flags.lor extra)) 2 (part || bit (s.get F.MTR_FLAGS) 2 || bit extra 2), nom := s.nominal,
        act := s.actual, fin := fin, energy := c.counter - c.atOpen, counter := c.counter, cov := cov, span := s.mtr.span, pmin := s.pMin }), s)

/-- The GAP records of `k` skipped intervals from `first` (R359). -/
def State.gapRecords (s : State) (first k extra : Nat) : List TalyRec × State :=
  let ms := (List.range 48).filter s.mtrEn
  if k = 0 || ms.isEmpty then ([], s) else
    let (seq, s) := s.takeSeq
    (ms.map (fun n => { chan := n, seq := seq, flags := 6 + extra, nom := first, act := (first, 0), fin := (first + k * s.pSec, 0),
                        energy := 0, counter := (s.mchan n).counter, cov := 0, span := k, pmin := s.pMin }), s)

/-- The open period is over; CLOSED is raised. -/
def State.endPeriod (s : State) : State :=
  { (s.set F.TALY_STAT_Q_FULL 0).irq 0x30 8 with mtr := { s.mtr with isOpen := false, closed := true } }

/-- Room for `n` more records (R365); a standby writes none (R370). -/
def State.hasRoom (s : State) (n : Nat) : Bool := s.standby || (s.mtr.waiting.isEmpty && n ≤ s.talyRoom)

/-- Records written, which a standby does not do (R370). -/
def State.deliver (s : State) (rs : List TalyRec) : State := if s.standby then s else s.putRecords rs

/-- The open period runs on for want of room: SPAN grows by `k`, MERGED is set (R365). -/
def State.merge (s : State) (k : Nat) : State :=
  let s := (s.set F.TALY_STAT_Q_FULL 1).chanFlag 10
  { s with mtr := { s.mtr with span := min (s.mtr.span + k) 0xFFFFFFFF } }

/-! ### Deciding an event (R357 to R361) -/

/-- The pairs that waited for the first event now belong to the period open, or wait for the next event. -/
def State.countLate (s : State) : State :=
  let ps := s.mtr.late
  let s := { s with mtr := { s.mtr with late := [] } }
  if s.mtr.isOpen then ps.foldl State.meterPair s else s

/-- An edge is decided (R357, R358, R365). `slice`: a metering slice held the close. -/
def State.decideEdge (s : State) (nom stamp : Nat) (valid slice : Bool) : State :=
  let s := if slice then s.chanFlag 3 else s
  let tl := if valid then 0 else 16
  let top := nom % 3600 = 0
  if !(s.hasRoom s.members.length) then
    let s := ((s.merge 1).inc F.TALY_MERGED).irq 0x31 11
    if top then s.periodChange else s
  else
    let (rs, s) := s.closeRecords (nom, 0) tl
    let s := s.endPeriod.deliver rs
    let s := (if top then s.periodChange else s).openPeriod nom nom 0 tl 0
    { s with mtr := { s.mtr with edgeAt := some stamp } }

/-- A commit is decided by the table of R359, with R360 and R361. -/
def State.decideSet (s : State) (oldSec oldSub newSec newSub stamp : Nat) (valid slice : Bool) : State :=
  let s := if slice then s.chanFlag 3 else s
  let forwardHour := oldSec / 3600 < newSec / 3600
  let atEdge := s.mtr.edgeAt == some stamp
  let back := newSec < s.actual.1 || (newSec = s.actual.1 && newSub < s.actual.2)
  let oldNom := s.nomOf oldSec
  if !valid then
    if !atEdge && !(s.hasRoom s.members.length) then (s.merge 0).nodeFlag 5
    else
      let (rs, s) := if atEdge then ([], s) else s.closeRecords (oldSec, oldSub) 48
      let s := if atEdge then s else s.endPeriod.deliver rs
      let s := if forwardHour then s.periodChange else s
      s.openPeriod (s.nomOf newSec) newSec newSub 0 0
  else if !back && s.nomOf newSec = oldNom then s.nodeFlag 5
  else if atEdge then
    let gap := if back then 0 else (s.nomOf newSec - oldNom) / s.pSec
    let (gs, s) := s.gapRecords oldNom gap 0
    let s := s.deliver (if s.hasRoom gs.length then gs else [])
    let s := if forwardHour then s.periodChange else s
    s.openPeriod (s.nomOf newSec) newSec newSub (if back then 1 else 0) 0
  else
    let gap := if back then 0 else (s.nomOf newSec - oldNom) / s.pSec - 1
    let need := s.members.length + (if gap = 0 then 0 else ((List.range 48).filter s.mtrEn).length)
    if !(s.hasRoom need) then ((s.merge (if back then 0 else gap + 1)).nodeFlag 5)
    else
      let (rs, s) := s.closeRecords (oldSec, oldSub) 32
      let (gs, s) := s.gapRecords (oldNom + s.pSec) gap 0
      let s := s.endPeriod.deliver (rs ++ gs)
      let s := if forwardHour then s.periodChange else s
      s.openPeriod (s.nomOf newSec) newSec newSub (if back then 1 else 0) 0

/-- EN written 0 is decided: the period closes and none opens (R353). Without room its records wait. -/
def State.decideStop (s : State) (sec sub : Nat) (valid slice : Bool) : State :=
  let s := if slice then s.chanFlag 3 else s
  let (rs, s') := s.closeRecords (sec, sub) (if valid then 0 else 16)
  let s' := s'.endPeriod
  let s' := { s' with mtr := { s'.mtr with lastEnd := some sec } }
  if s.hasRoom rs.length then s'.deliver rs
  else { s'.set F.TALY_STAT_Q_FULL 1 with mtr := { s'.mtr with waiting := s'.mtr.waiting ++ [rs.map (fun r => (r.chan, r.bytes))] } }

/-- The length of a result of channel `n` (R318). -/
def State.resultNs (s : State) (n : Nat) : Nat :=
  if s.get F.LDS_CFG_KIND (32 * (n / 12) + n % 12) = 1 then 15625 else 15625 * 2 ^ s.get (F.ADC_RATE (n % 8)) (n / 8)

/-- 3T + 1 µs of the slowest enabled pair (R357). -/
def State.meterLatency (s : State) : Nat :=
  (List.range 48).foldl (fun m n => if s.mtrEn n then max m (3 * s.resultNs n + 1000) else m) 1000

/-- The first event is decided at its horizon (PERIOD_CLOSE). -/
def State.periodClose (s : State) (slice : Bool) : State :=
  match s.mtr.events with
  | [] => s
  | e :: rest =>
    let s := s.elapseLt (e.stamp + s.meterLatency)
    let s := match e with
      | .edge nom t v => s.decideEdge nom t v slice
      | .set a b c d t v => s.decideSet a b c d t v slice
      | .stop a b _ v => s.decideStop a b v slice
    ({ s with mtr := { s.mtr with events := rest } }).countLate

/-- Every event stamped so far is decided. -/
def State.decideAll (s : State) : State := s.mtr.events.foldl (fun s _ => s.periodClose false) s

/-- The RTC reaches the next nominal boundary (R354, R356). -/
def State.billingEdge (s : State) : State :=
  if !s.metering then s
  else
    let at_ := s.nomOf s.clk.sec + s.pSec
    let s := s.elapse (s.untilRtc at_)
    ({ s with mtr := { s.mtr with events := s.mtr.events ++ [MtrEvent.edge at_ s.clk.lt s.timeValid] } }).inc F.MTR_EDGES

/-! ### Stop and start (R353) -/

/-- EN is written 0. -/
def State.meteringStop (s : State) : State :=
  if s.on F.MTR_STAT_RUNNING then
    { s.set F.MTR_STAT_RUNNING 0 with
      mtr := { s.mtr with events := s.mtr.events ++ [MtrEvent.stop s.clk.sec s.clk.sub s.clk.lt s.timeValid] } }
  else s

/-- EN is written 1: the skipped intervals give GAP records, and a period opens. -/
def State.meteringStart (s : State) : State :=
  if s.on F.MTR_STAT_RUNNING || !(s.islandServes 28) then s
  else
    let s := s.decideAll
    let nom := s.nomOf s.clk.sec
    let first := match s.mtr.lastEnd with
      | some e => (e + s.pSec - 1) / s.pSec * s.pSec
      | none => nom
    let (gs, s) := s.gapRecords first ((nom - first) / s.pSec) 0
    let s := if s.hasRoom gs.length then s.deliver gs
      else { s with mtr := { s.mtr with waiting := s.mtr.waiting ++ [gs.map (fun r => (r.chan, r.bytes))] } }
    s.openPeriod nom s.clk.sec s.clk.sub (if s.timeValid then 0 else 16) 0

/-! ### To the Vault (R363, R364) -/

/-- Records that waited enter the queue where there is room. -/
def State.releaseWaiting (s : State) : State :=
  match s.mtr.waiting with
  | [] => s
  | b :: rest =>
    if s.talyRoom < b.length then s else
      let s := { s with mtr := { s.mtr with waiting := rest } }
      let s := b.foldl (fun s r =>
        let i := s.get F.TALY_WR_IDX
        ((s.qWrite 11 (s.get F.TALY_Q_BASE * 64 + i % s.get F.TALY_Q_SIZE * 64) r.2).2).set F.TALY_WR_IDX (i + 1)) s
      let s := if b.isEmpty then s else s.talyEvents
      if rest.isEmpty then s.set F.TALY_STAT_Q_FULL 0 else s

/-- The mover takes the next record (TALLY_VAULT_COPY): the sector is erased first where it is the first record of it. -/
def State.tallyCopy (s : State) : State :=
  let s := s.talyStat
  let i := s.get F.TALY_VLT_IDX
  let busy := s.vault.ops.any (fun o => o.purpose.cls == 4)
  if s.get F.TALY_WR_IDX ≤ i || s.talyHeld || busy || !(s.islandServes 31) then s
  else
    let (_, bs, s) := s.qRead 14 (s.get F.TALY_Q_BASE * 64 + i % s.get F.TALY_Q_SIZE * 64) 64
    let x := 0x0C0000 + i % 32640 * 64
    let s := if i % 64 = 0 then s.vPush ⟨.tallyErase, [], x / 4096, true, 0, false⟩ else s
    s.vPush ⟨.tally 1, vRows x (if bs.isEmpty then List.replicate 64 0 else bs), x / 4096, false, 0, false⟩

/-- TALY_ACK has risen: records leave the queue. -/
def State.talyAcked (s : State) : State := s.talyStat.releaseWaiting

/-! ### Snapshots (R366 to R369) -/

/-- Entry `n` of the metering section (R369). -/
def State.mtrEntry (s : State) (n : Nat) : List Nat :=
  let c := s.mchan n
  if !(s.mtrEn n) && !c.joined then List.replicate 32 0
  else le 8 c.counter ++ le 8 c.atOpen ++ le 4 (unsigned 32 (c.residue / 10 ^ 27)) ++ le 4 (s.get F.TALY_SEQ)
    ++ le 4 (min (c.cov / 1000) 0xFFFFFFFF) ++ le 2 (c.flags.land 0x0DC8) ++ le 2 0

/-- The snapshot (R366). -/
def State.snapshot (s : State) : List Nat :=
  let en := s.get F.MTR_EN_LO + 2 ^ 32 * s.get F.MTR_EN_HI
  let open' := s.mtr.isOpen
  let h := le 2 0x7A11 ++ [1, if open' then s.get F.MTR_FLAGS % 256 else 0] ++ le 4 s.mtr.snapCount ++ rtcBytes s.clk.sec s.clk.sub
    ++ (if open' then le 8 s.nominal ++ rtcBytes s.actual.1 s.actual.2 else List.replicate 16 0)
    ++ le 4 (s.get F.TALY_SEQ) ++ le 4 (s.get F.TALY_WR_IDX) ++ le 8 en ++ [s.pMin, if open' then 0 else 1] ++ List.replicate 14 0
  let b := h ++ ((List.range 48).map s.mtrEntry).flatten
  b ++ le 4 (crc32r b)

/-- A snapshot whose CRC passes. -/
def snapOk (b : List Nat) : Bool :=
  b.length == 0x644 && b.take 3 == [0x11, 0x7A, 1] && leVal (b.drop 0x640) == crc32r (b.take 0x640)

/-- Accumulation stops and the state goes to the retention store (R366, R432 step 3). -/
def State.freezeMeter (s : State) : State :=
  let s := { s with mtr := { s.mtr with snapCount := (s.mtr.snapCount + 1) % 2 ^ 32 } }
  let s := s.decideAll
  let b := s.snapshot
  { s.set F.MTR_STAT_RUNNING 0 with mtr := { s.mtr with retained := some b, events := [], late := [] } }

/-- The snapshot sector `l` (logical sector 702 or 703) is erased. -/
def State.saveBlank (s : State) (l : Nat) : Bool := (s.vBytes (4096 * l) 0x644).all (· == 0xFF)

/-- The logical sector that takes the next save: whichever of 510 and 511 is erased. -/
def State.saveSector (s : State) : Nat := if s.saveBlank 702 then 702 else 703

/-- The snapshot of the retention store is written to the Vault (R366). -/
def State.saveRetained (s : State) : State :=
  match s.mtr.retained with
  | none => s
  | some b =>
    let l := s.saveSector
    let s := (s.set F.TALY_STAT_SAVING 1).vPush ⟨.save, vRows (l * 4096) b, l, false, 0, false⟩
    { s with mtr := { s.mtr with saveAt := s.clk.now } }

/-- The save of R366 starts: retention store, then the Vault. -/
def State.startSave (s : State) : State := s.freezeMeter.saveRetained

/-- The save completes (SNAPSHOT_SAVE_DONE). -/
def State.saveDone (s : State) : State :=
  if !(s.on F.TALY_STAT_SAVING) then s
  else
    let s := match s.vault.ops.find? (fun o => o.purpose.cls == 1) with
      | some o => o.rows.foldl (fun (s : State) (r : Nat × List Nat) => s.vStore r.1 r.2) (s.vOps (s.vault.ops.erase o))
      | none => s
    let us : Nat := min 0xFFF ((s.clk.now - s.mtr.saveAt) / 1000)
    (((s.set F.TALY_STAT_SAVING 0).inc F.TALY_SAVES).set F.TALY_SAVE_US us).irq 0x31 12

/-- The newest Vault snapshot whose CRC passes, with its logical sector. -/
def State.vaultSnap (s : State) : Option (List Nat × Nat) :=
  let a := s.vBytes 0x2BE000 0x644
  let b := s.vBytes 0x2BF000 0x644
  let ca := leVal ((a.drop 4).take 4)
  let cb := leVal ((b.drop 4).take 4)
  if snapOk a && (!(snapOk b) || (ca + 2 ^ 32 - cb) % 2 ^ 32 < 2 ^ 31) then some (a, 702)
  else if snapOk b then some (b, 703) else none

/-- The highest SEQ of a record in the TALLY ring whose CRC passes and the index place after it; `none` where the ring is blank. -/
def State.ringHigh (s : State) : Option (Nat × Nat) :=
  (List.range 32640).foldl (fun o i =>
    if (s.vBytes (0x0C0000 + 64 * i) 1).headD 0xFF != 1 then o
    else
         let b := s.vBytes (0x0C0000 + 64 * i) 64
         if leVal (b.drop 60) != crc32r (b.take 60) then o else
         let q := leVal (b.drop 4)
         match o with
         | some (h, _) => if h ≤ q then some (q, i + 1) else o
         | none => some (q, i + 1)) none

/-- The state a snapshot holds taken over: its period is the open period again, at a start with its length in MTR_CFG too
and the SPAN of a merged period counted up to the freeze. -/
def State.loadSnap (s : State) (b : List Nat) (resume : Bool) : State :=
  let v (o n : Nat) : Nat := leVal ((b.drop o).take n)
  let s := ((s.set F.TALY_SEQ (v 0x20 4)).set F.TALY_WR_IDX (v 0x24 4)).set F.MTR_EN_LO (v 0x28 4)
  let s := (s.set F.MTR_EN_HI (v 0x2C 2)).set F.MTR_STAT_PERIOD (periodCode (v 0x30 1))
  let s := s.setStart (v 0x10 5) (v 0x18 4 + 2 ^ 32 * v 0x1C 1) (v 0x1D 2)
  let s := s.set F.MTR_FLAGS (v 0x03 1)
  let s := if resume then s else
    ((s.set F.TALY_VLT_IDX (v 0x24 4)).set F.MTR_CFG_PERIOD (periodCode (v 0x30 1))).set F.MTR_STAT_CHANGE_PENDING 0
  let ch (n : Nat) : MtrChan :=
    let o := 0x40 + 32 * n
    { counter := v o 8, atOpen := v (o + 8) 8, residue := signed 32 (v (o + 16) 4) * 10 ^ 27, cov := 1000 * v (o + 24) 4,
      flags := v (o + 28) 2, joined := (b.drop o).take 32 != List.replicate 32 0 || s.mtrEn n }
  let chans := (List.range 48).map ch
  let merged := chans.any (fun c => bit c.flags 10)
  let span := if resume then s.mtr.span
    else if merged then (v 8 4 + 2 ^ 32 * v 12 1 - s.nominal) / s.pSec + 1 else 1
  { s with mtr := { s.mtr with chans := chans, snapCount := v 4 4, isOpen := !(bit (v 0x31 1) 0), span := span } }

/-- What the return of the metering island does with the period of the snapshot (R367, R368): `lost` where the RTC
restarted; `fsec`, `fsub` the RTC at the freeze. -/
def State.resumePeriod (s : State) (lost : Bool) (fsec fsub : Nat) : State :=
  let s := s.set F.MTR_STAT_RUNNING 1
  let now := s.clk.sec
  if lost then
    let (rs, s) := (s.chanFlag 11).closeRecords (fsec, fsub) 20
    (s.endPeriod.deliver rs).openPeriod (s.nomOf now) now s.clk.sub 16 0
  else if now < s.actual.1 || (now = s.actual.1 && s.clk.sub < s.actual.2) then
    let (rs, s) := s.closeRecords (fsec, fsub) 32
    (s.endPeriod.deliver rs).openPeriod (s.nomOf now) now s.clk.sub (if s.timeValid then 1 else 17) 0
  else if s.nomOf now ≤ s.nominal + (s.mtr.span - 1) * s.pSec then s.chanFlag 11
  else
    let fin := s.nominal + s.mtr.span * s.pSec
    let (rs, s) := (s.chanFlag 11).closeRecords (fin, 0) 4
    let (gs, s) := s.gapRecords fin ((s.nomOf now - fin) / s.pSec) 2048
    (s.endPeriod.deliver (rs ++ gs)).openPeriod (s.nomOf now) (s.nomOf now) 0 (if s.timeValid then 0 else 16) 2048

/-- A snapshot restored, or its loss (R353, R367, R368). `resume` tells a return of the island from a start, `lost` that the
verdict of this start restarted the RTC. -/
def State.restoreFrom (s : State) (snap : Option (List Nat)) (resume lost : Bool) : State :=
  match snap with
  | none =>
    let (seq, idx) := match s.ringHigh with
      | some (h, i) => ((h + 2) % 2 ^ 32, i)
      | none => (0, 0)
    let s := ((s.set F.TALY_SEQ seq).set F.TALY_WR_IDX idx).set F.TALY_VLT_IDX idx
    let s := s.mapMchan (fun _ _ => MtrChan.zero)
    s.openPeriod (s.nomOf s.clk.sec) s.clk.sec s.clk.sub (4 + (if s.timeValid then 0 else 16)) 2048
  | some b =>
    let v (o n : Nat) : Nat := leVal ((b.drop o).take n)
    let s := s.loadSnap b resume
    if bit (v 0x31 1) 0 then (s.set F.MTR_CFG_EN 0).set F.MTR_STAT_RUNNING 0
    else s.resumePeriod lost (v 8 4 + 2 ^ 32 * v 12 1) (v 13 2)

/-- The metering state at a return of the island from NAP or deeper: from the retention store (R367). -/
def State.returnMeter (s : State) : State :=
  if s.on F.MTR_STAT_RUNNING || s.mtr.retained.isNone then s else s.restoreFrom s.mtr.retained true false

/-- The metering state at a start after a loss of main (R366, R367, R368): the retention store where the verdict is
INTACT, else the Vault; the other snapshot sector is erased, where it is not. TALY_STAT.SNAP_SRC says which. -/
def State.startMeter (s : State) (intact : Bool) : State :=
  let ret := if intact then s.mtr.retained.filter snapOk else none
  let vs := s.vaultSnap
  let src := if ret.isSome then 1 else if vs.isSome then 2 else if s.ringHigh.isSome then 0 else 3
  let s := s.set F.TALY_STAT_SNAP_SRC src
  let stale := match vs with
    | some (_, l) => !(s.saveBlank (1405 - l))
    | none => !(s.saveBlank 702) && !(s.saveBlank 703)
  let l := match vs with | some (_, l) => 1405 - l | none => 702
  let torn := stale && !(snapOk (s.vBytes (4096 * l) 0x644)) && !((s.physInfo (s.phys l)).incomplete)
  let s := if torn then s.trigger l 1 else s
  let s := if stale && !s.vaultRo then s.vPush ⟨.tallyErase, [], l, true, 0, false⟩ else s
  if s.on F.MTR_CFG_EN then s.restoreFrom (ret.or (vs.map (·.1))) false (!intact) else s

/-! ### Twins (R370, R371) -/

/-- A standby freezes its metering entries at each boundary (R248). -/
def State.meterBoundary (s : State) : State :=
  { s with mtr := { s.mtr with boundary := s.mtr.chans, seqThen := s.get F.TALY_SEQ, closed := false } }

/-- Entry `n` of a valid record is carried (R370). -/
def State.carryMeter (s : State) (n : Nat) (e : List Nat) : State :=
  if e == List.replicate 32 0 then s else
    let v (o k : Nat) : Nat := leVal ((e.drop o).take k)
    let c := s.mchan n
    let b := s.mtr.boundary.getD n MtrChan.zero
    let counter := (v 0 8 + (c.counter + 2 ^ 64 - b.counter)) % 2 ^ 64
    let residue := signed 32 (v 16 4) * 10 ^ 27 + (c.residue - b.residue)
    let c' := { c with counter := counter, residue := 0, cov := 1000 * v 24 4 + c.cov - b.cov, flags := c.flags.lor (v 28 2),
                       atOpen := if s.mtr.closed then counter - (c.counter - c.atOpen) else v 8 8 }
    s.setMchan n { (c'.addEnergy 0).1 with residue := residue }

/-- The sequence number of a valid record is carried. -/
def State.carrySeq (s : State) (seq : Nat) : State := s.set F.TALY_SEQ ((seq + (s.get F.TALY_SEQ + 2 ^ 32 - s.mtr.seqThen)) % 2 ^ 32)

/-- A changeover takes effect in the open period (R371). -/
def State.meterTakeover (s : State) : State := s.chanFlag 8

end Sys2Proof.Machine
end

