-- ==== Sys2Proof/Machine/LineTime.lean ====
section
/-! DEFINITION. Line time (chapter 05): the path model, hop delay and offset, TIMING frames, the correction of a course,
steps and adoption, LINE_CMD. -/

namespace Sys2Proof.Machine

/-! ### The path model (R154) -/

/-- The model of a UID: D0, L1, K. -/
def State.model (s : State) (uid : Nat) : Option (Nat × Nat × Option Nat) :=
  (s.pace.models.find? (fun m => m.1 == uid)).map (·.2)

/-- A model replaced. -/
def State.setModel (s : State) (uid d0 l1 : Nat) (k : Option Nat) : State :=
  let s := { s with pace := { s.pace with models := put uid (d0, l1, k) s.pace.models } }
  if s.get F.SETO_DATUM_LO + 2 ^ 32 * s.get F.SETO_DATUM_HI = uid then s.set F.LINE_DATUM_D d0 else s

/-- `x / 8` of a signed difference, the quotient rounded towards zero. -/
def eighth (x : Int) : Int := x.tdiv 8

/-- D(q, L), where it is established: D0 set, and K set or L equal to L1. -/
def State.pathD (s : State) (uid len : Nat) : Option Nat :=
  match s.model uid with
  | some (d0, l1, k) => match k with
    | some k => some (d0 + len * k)
    | none => if len = l1 then some d0 else none
  | none => none

/-- An observation of a frame from a UID (R154). DESIGN CHOICE: an observation or a K below 0 is held as 0 (log entry 94). -/
def State.observe (s : State) (uid len : Nat) (obs : Int) : State :=
  match s.model uid with
  | none => s.setModel uid obs.toNat len none
  | some (d0, l1, none) =>
    if len = l1 then s.setModel uid ((d0 : Int) + eighth (obs - d0)).toNat l1 none
    else if 8 ≤ ((len : Int) - l1).natAbs then
      let q := (obs - d0) * (if len < l1 then -1 else 1)
      let k := (8 * roundDiv q (8 * ((len : Int) - l1).natAbs)).toNat
      s.setModel uid ((d0 : Int) - l1 * k).toNat l1 (some k)
    else s
  | some (d0, l1, some k) => s.setModel uid ((d0 : Int) + eighth (obs - (d0 + len * k : Nat))).toNat l1 (some k)

/-! ### The window of R84 -/

/-- A frame from position `src` in slot entry `e` passes the window check: `stamp` of W0, `stop` of its last word. -/
def State.inWindow (s : State) (src : Nat) (e : Slot) (stamp stop len : Nat) : Bool :=
  let ss := s.base + e.start
  let d := if src = 0 then none
    else if s.standby && src == s.pos then some (s.get F.TWIN_CPL_CPL_D) else s.pathD (s.tabUid src) len
  match d with
  | some d => ss + d ≤ stamp + s.g && stamp < ss + d + s.g && stop < ss + d + e.len + s.g
  | none => ss ≤ stamp + s.g && stamp < s.base + s.gapAt

/-! ### Hop delay and offset (R146, R149) -/

/-- LINE_P_JUMP in force at port `n`. -/
def State.jump (s : State) (n : Nat) : Nat :=
  let j := s.get F.LINE_P_JUMP n
  if j != 0 then j else match s.portGen n with | 3 => 8 | 2 => 20 | _ => 200

/-- A measured delay of port `n` enters the held δ (R149). -/
def State.measured (s : State) (n : Nat) (md : Int) : State :=
  if md ≤ 0 ∨ 10000000 ≤ md then s
  else if !(s.on F.LINE_P_DLY_VALID n) then (s.set F.LINE_P_DLY_DELAY md.toNat n).set F.LINE_P_DLY_VALID 1 n
  else
    let held : Int := s.get F.LINE_P_DLY_DELAY n
    let l := s.line n
    if s.jump n ≤ (md - held).natAbs then
      let s := s.inc F.LINE_DLY_OUTLIER
      if l.outliers + 1 = 3 then
        ((s.set F.LINE_P_DLY_DELAY md.toNat n).setLine n { l with outliers := 0 }).irq 0x10 11
      else s.setLine n { l with outliers := l.outliers + 1 }
    else (s.set F.LINE_P_DLY_DELAY (held + eighth (md - held)).toNat n).setLine n { l with outliers := 0 }

/-- The signed asymmetry of port `n`. -/
def State.asym (s : State) (n : Nat) : Int := signed 16 (s.get F.LINE_P_ASYM n)

/-- Θ. -/
def State.bigTheta (s : State) : Int := signed 64 (s.get F.LINE_THETA_LO + 2 ^ 32 * s.get F.LINE_THETA_HI)

/-- Θ held. -/
def State.setTheta (s : State) (t : Int) : State :=
  let v := unsigned 64 t
  ((s.set F.LINE_THETA_LO (v % 2 ^ 32)).set F.LINE_THETA_HI (v / 2 ^ 32)).set F.LINE_STAT_THETA_VALID 1

/-- The value a field carries for "none". -/
def noneD : Nat := 0x80000000

/-- A signed 32-bit field, `noneD` where it is absent or out of range (R116, R147). -/
def d32 (x : Option Int) : Nat :=
  match x with
  | some v => if -2147483647 ≤ v ∧ v ≤ 2147483647 then unsigned 32 v else noneD
  | none => noneD

/-- The value of such a field. -/
def d32Val (v : Nat) : Option Int := if v = noneD then none else some (signed 32 v)

/-! ### TIMING frames (R147 to R149) -/

/-- m of the last TIMING frame of the partner at position `dst` on port `n` (R147); one partner alone on Spaka-B and C. -/
def State.partnerM (s : State) (n dst : Nat) : Option Int :=
  let l := (s.line n).rxTiming
  (if s.portGen n = 1 then l.find? (fun x => (s.posOf (s.pairUid x.1)).getD 0 == dst) else l.head?).map (·.2.1)

/-- The payload of a TIMING frame on port `n` to position `dst` whose W0 is stamped `t1`. -/
def State.timingPayload (s : State) (n dst t1 : Nat) : List Nat :=
  uidWords s.lineUid ++ [n + 8 * s.get F.LINE_STAT_LOCK + 16 * s.isDatum.toNat + 32 * s.get F.LINE_STAT_THETA_VALID]
    ++ wordsOf 4 t1 ++ wordsOf 2 (d32 (s.partnerM n dst))
    ++ wordsOf 4 (if s.on F.LINE_STAT_THETA_VALID then unsigned 64 s.bigTheta else 0)

/-- A TIMING frame goes out on port `n` at line time `start`, to position `dst` (R148). A standby builds it and hands it to no
Lintel (R237). -/
def State.sendTiming (s : State) (n start dst : Nat) : State :=
  let gen := s.portGen n
  let (q, s) := s.takeCtl
  let f := s.frame 3 0 0x3FF s.course s.pos dst s.gen q
    (s.timingPayload n dst (start + tPre gen + tWord gen))
  if s.standby then s else s.originate n start f

/-- Ports that hold a TIMING exchange: up and admitted or under probe (R148). -/
def State.timingPorts (s : State) : List Nat :=
  s.serving.filter (fun n => (n < 2 || s.get F.HUB_BR_STAT_ROLE n != 0) && !(s.so.excluded.contains n) && s.get F.SPK_TEST n == 0 && s.portGen n != 1)

/-- The position of the partner on port `n`, 0 where it is not a member (R147). -/
def State.neighbour (s : State) (n : Nat) : Nat :=
  if s.so.probes.any (fun p => p.port == n) then 0
  else match (s.line n).peer.bind (fun u => s.posOf (s.pairUid u)) with
  | some p => p
  | none =>
  if s.so.facing = some n then s.pos - 1
  else if s.isBranch n then (s.line n).behind.headD 0
  else if s.pos < s.count then s.pos + 1 else 0

/-- The exchange at G: a TIMING frame on every Spaka-B and Spaka-C port (R148). -/
def State.timingStart (s : State) : State :=
  let s := s.elapseLt (s.base + s.gapAt)
  s.timingPorts.foldl (fun s n => s.sendTiming n s.clk.lt (s.neighbour n)) s

/-- The exchange on a Spaka-A segment: X's frame at G names `dst`; the member named replies at G + 232 µs (R148). `coll` tells
that read-back finds a mismatch (R69). -/
def State.timingA (s : State) (n dst : Nat) (reply coll : Bool) : State :=
  let s := s.elapseLt (s.base + s.gapAt + (if reply then 232000 else 0))
  if s.portGen n != 1 || !(s.up n) || s.so.excluded.contains n then s
  else
    let before := (s.line n).sending
    let s := s.sendTiming n s.clk.lt dst
    if coll && (s.line n).sending != before then s.collide n 0x3FF else s

/-- θ of an exchange: the partner's e of the last course, the node's own m of it and the asymmetry (R149). DESIGN CHOICE: the
half is truncated towards zero, as half the measured delay is (log entry 93). -/
def hopOffset (e m asym : Int) : Int := (e - m - asym).tdiv 2

/-- What θ of port `n` gives a joiner towards the survivor's line time (R155): the node at the coupling takes it from the
coupling port alone, every other member from a neighbour of its own composition that has Θ, `nb`. -/
def State.joinerTheta (s : State) (n : Nat) (theta : Int) (nb : Option Int) : State :=
  let probing := s.so.probes.any (fun x => x.port == n)
  if s.soState = 6 && !s.so.probes.isEmpty then (if probing then s.setTheta theta else s)
  else match nb with
    | some t => if probing || s.neighbour n = 0 then s else s.setTheta (t + theta)
    | none => s

/-- What a TIMING frame received on port `n` with stamp `stamp` gives (R149, R155). DESIGN CHOICE: half of m + e is truncated
towards zero (log entry 93). -/
def State.timingRx (s : State) (n stamp stop : Nat) (p : List Nat) : State :=
  let probing := s.so.probes.any (fun x => x.port == n)
  if !probing && s.base + s.gapAt + s.drift ≤ stop then s.inc F.LINE_DRIFT_LATE
  else
    let l := s.line n
    let t1 := wordsVal ((p.drop 4).take 4)
    let m : Int := (stamp : Int) - t1
    let e := d32Val (wordsVal ((p.drop 8).take 2))
    let uid := wordsVal (p.take 3)
    let old := l.rxTiming.find? (fun x => x.1 == uid)
    let fresh := match old with
      | some (_, _, at_) => if probing then decide (stamp ≤ at_ + 2 * s.courseNs) else decide (s.base ≤ at_ + s.courseNs) && decide (at_ < s.base)
      | none => false
    let others := if s.portGen n = 1 then l.rxTiming.filter (fun x => x.1 != uid) else []
    let s := s.setLine n { l with rxTiming := (uid, m, stamp) :: others, peer := some uid }
    match old, e with
    | some (_, m0, _), some e =>
      if !fresh then s else
        let theta := hopOffset e m0 (s.asym n)
        let s := (s.measured n ((m0 + e).tdiv 2)).inc F.LINE_P_EXCH n
        let s := s.set F.LINE_P_THETA (satSigned 32 theta) n
        let s := if s.so.facing = some n then { s with pace := { s.pace with theta := some theta } } else s
        s.joinerTheta n theta (if bit (p.getD 3 0) 5 then some (signed 64 (wordsVal ((p.drop 10).take 4))) else none)
    | _, _ => s

/-! ### Steps (R143, R152, R527) -/

/-- Line time changed other than by counting: counted, raised, marked, and the Lintels re-arm (R143, R168). -/
def State.stepped (s : State) (eps : Int) (adoption : Bool) : State :=
  let s := (s.inc F.LINE_STEPS).irq 0x10 9
  let s := { s with clk := { s.clk with slewRate := 0, slewLeft := 0 }, pace := { s.pace with slew := 0 } }
  (s.mark 0x020 (le 8 (unsigned 64 eps) ++ [adoption.toNat, 0])).rearm

/-- Line time loaded with a value. -/
def State.loadLt (s : State) (t : Nat) : State := { s with clk := { s.clk with lt := t % 2 ^ 64, ltFrac := 0 } }

/-- LINE_STAT.LOCK written; a change is raised (bit 8), and a rise re-arms the Lintels (R168). -/
def State.setLock (s : State) (b : Bool) : State :=
  if s.on F.LINE_STAT_LOCK == b then s
  else
    let s := (s.setB F.LINE_STAT_LOCK b).irq 0x10 8
    if b then s.rearm else s

/-- IS_SOURCE and HOLDOVER follow the node's part (R150); a source has LOCK (R153, R527). -/
def State.sourceRegs (s : State) : State :=
  let s := s.setB F.LINE_STAT_IS_SOURCE s.isSource
  if s.isSource then (s.set F.LINE_STAT_HOLDOVER 0).setLock true else s

/-- ε for the course that closes (R150): the exchange's θ, else the SYNC's; `none` where neither is available. A standby
takes no correction until its first valid record (R240). -/
def State.epsilon (s : State) : Option Int :=
  if s.isSource then none else if s.standby then (if s.twin.recAt.isSome then s.pace.syncEps else none) else s.pace.theta.or s.pace.syncEps

/-- A slew is begun (R151): ε is spread over the next course at no more than 100 ppm, and the trim moves. -/
def State.slew (s : State) (eps : Int) : State :=
  let c := s.courseNs
  let total := eps * (ltUnit : Int)
  let cap : Int := 25600000
  let per := if 0 ≤ total then (total + c - 1) / c else -((-total + c - 1) / c)
  let rate := max (-cap) (min cap per)
  let d := roundDiv (eps * (ltUnit : Int)) (2 ^ s.get F.LINE_CFG * c)
  let trim := max (-51200000) (min 51200000 (s.trim + d))
  let s := s.set F.LINE_TRIM (unsigned 32 trim)
  { s with clk := { s.clk with slewRate := rate, slewLeft := total }, pace := { s.pace with slew := total } }

/-- The correction at the boundary the node's line time has reached. Answers whether the boundary is to be taken now:
a backward step leaves it to be reached again (R151, R152). -/
def State.correct (s : State) : Bool × State :=
  if s.isSource then
    (true, { s.set F.LINE_STAT_HOLDOVER 0 with pace := { s.pace with theta := none, syncEps := none, slew := 0 },
                                               clk := { s.clk with slewRate := 0, slewLeft := 0 } })
  else if s.pace.stepped then (true, { s with pace := { s.pace with stepped := false, theta := none, syncEps := none } })
  else match s.epsilon with
  | none =>
    (true, { s.set F.LINE_STAT_HOLDOVER 1 with pace := { s.pace with slew := 0 }, clk := { s.clk with slewRate := 0, slewLeft := 0 } })
  | some eps =>
    let s := (s.set F.LINE_STAT_HOLDOVER 0).set F.LINE_EPS (satSigned 32 eps)
    let s := { s with pace := { s.pace with theta := none, syncEps := none } }
    if eps.natAbs < s.g then (true, s.slew eps)
    else
      let b := s.base + s.courseNs
      let s := (s.loadLt ((b : Int) + eps).toNat).stepped eps false
      if 0 ≤ eps then (true, s) else (false, { s with pace := { s.pace with stepped := true } })

/-- The correction at the boundary is a step of line time (R152). -/
def State.stepsNow (s : State) : Bool :=
  !s.isSource && !s.pace.stepped && (match s.epsilon with | some eps => decide (s.g ≤ eps.natAbs) | none => false)

/-- A node with LOCK 0 re-acquires line time from a SYNC whose payload is `t`, stamped `r`, with LEN `len` (R527). -/
def State.reacquire (s : State) (t r len course : Nat) : State :=
  let du := s.get F.SETO_DATUM_LO + 2 ^ 32 * s.get F.SETO_DATUM_HI
  match s.pathD du len with
  | none => s
  | some d =>
    let now := s.clk.lt
    let new := t + d + (now - r)
    let s := (s.loadLt new).stepped ((new : Int) - now) false
    let s := { s with course := course, base := t, pace := { s.pace with theta := none, syncEps := none } }
    s.setLock true

/-! ### LINE_CMD -/

/-- LINE_CMD.SET in ALONE: LINE_SET is loaded as line time (R141). Course numbering goes on, and the present course
counts from the new line time minus the time already spent in it. -/
def State.lineSet (s : State) : State :=
  let v := s.get F.LINE_SET_LO + 2 ^ 32 * s.get F.LINE_SET_HI
  let into := s.into
  { s.loadLt v with base := v - into }

/-- LINE_CMD.SNAP: line time and the RTC captured at one instant (R142). -/
def State.lineSnap (s : State) : State :=
  let s := (s.set F.LINE_SNAP_LT_LO (s.clk.lt % 2 ^ 32)).set F.LINE_SNAP_LT_HI (s.clk.lt / 2 ^ 32)
  let s := (s.set F.LINE_SNAP_RTC_LO (s.clk.sec % 2 ^ 32)).set F.LINE_SNAP_RTC_HI_SECONDS (s.clk.sec / 2 ^ 32)
  s.set F.LINE_SNAP_RTC_HI_SUBSEC s.clk.sub

end Sys2Proof.Machine
end

