-- ==== Sys2Proof/Machine/SetOut.lean ====
section
/-! DEFINITION. Setting-out and admission (chapter 04): preferences, PROBE, REPORT, PLAN, ABORT and ROLL, the states of
R140, the commit, strangers and keys. -/

namespace Sys2Proof.Machine

/-! ### Preference and ends (R126 to R129) -/

/-- The DATUM_PREF strap in force; a pair's is its active twin's (R472). -/
def State.prefStrap (s : State) : Bool :=
  if s.standby && s.twin.prefDiff then s.twin.activePref else bit s.boot.straps 3
/-- Strapped arbiter. -/
def State.arbiter (s : State) : Bool := s.boot.role == 3
/-- The profile is wayside. -/
def State.wayside (s : State) : Bool := bit s.boot.straps 0

/-- This node holds the preference of its profile; an arbiter never does (R126, R127, R39's role table). -/
def State.ownPref (s : State) : Bool := !s.arbiter && (if s.wayside then s.prefStrap else s.so.cab)

/-- The member at position `p` is an arbiter, as far as PROBE and ROLL have shown (R128). -/
def State.isArb (s : State) (p : Nat) : Bool := if p = s.pos then s.arbiter else s.so.arbs.contains (s.tabUid p)

/-- What a PROBE or ROLL says of its sender being an arbiter is kept (R116). -/
def State.noteArb (s : State) (uid : Nat) (arb : Bool) : State :=
  let rest := s.so.arbs.filter (· != uid)
  { s with so := { s.so with arbs := if arb then uid :: rest else rest } }

/-- Position `p` holds the preference, as the table knows; an arbiter's is not counted (R128). -/
def State.tabPref (s : State) (p : Nat) : Bool :=
  if p = s.pos then s.ownPref else s.on F.SETO_TAB_HI_PREF (p - 1) && !(s.isArb p)

/-- DATUM_CONFLICT and PREF_NOT_END of the composition as the table now knows it (R126, R127). -/
def State.prefFlags (s : State) : State :=
  (s.setB F.SETO_STAT_DATUM_CONFLICT (1 < s.count && s.tabPref 1 && s.tabPref s.count)).setB
    F.SETO_STAT_PREF_NOT_END (s.wayside && s.ownPref && s.pos != 1 && s.pos != s.count)

/-- The UID of the outer end of this composition as seen from port `n`: the end farthest from it (R116), arbiters skipped
(R128). -/
def State.outerUid (s : State) (n : Nat) : Nat :=
  let walk := (List.range s.count).map (· + 1)
  let walk := if s.so.facing.isSome && s.so.facing != some n then walk else walk.reverse
  if s.count = 1 then s.pairUid s.uid else s.tabUid ((walk.find? (fun p => !(s.isArb p))).getD (walk.headD 1))

/-- A table entry as this node's composition table keeps it. -/
structure Entry where
  uid     : Nat
  pending : Bool
  orient  : Bool
  twin    : Bool
  pref    : Bool
  deriving DecidableEq, Repr

/-- Entry `p` of the composition table. -/
def State.entry (s : State) (p : Nat) : Entry :=
  ⟨s.tabUid p, s.on F.SETO_TAB_HI_PENDING (p - 1), s.on F.SETO_TAB_HI_ORIENT (p - 1), s.on F.SETO_TAB_HI_TWIN (p - 1),
   s.on F.SETO_TAB_HI_PREF (p - 1)⟩

/-- Entry `p` written. -/
def State.setEntry (s : State) (p : Nat) (e : Entry) : State :=
  let s := (s.set F.SETO_TAB_LO (e.uid % 2 ^ 32) (p - 1)).set F.SETO_TAB_HI_UID (e.uid / 2 ^ 32) (p - 1)
  (((s.setB F.SETO_TAB_HI_PENDING e.pending (p - 1)).setB F.SETO_TAB_HI_ORIENT e.orient (p - 1)).setB F.SETO_TAB_HI_TWIN
    e.twin (p - 1)).setB F.SETO_TAB_HI_PREF e.pref (p - 1)

/-- The whole table written; entries beyond it read 0. -/
def State.setTable (s : State) (l : List Entry) : State :=
  (List.range l.length).foldl (fun s i => match l[i]? with | some e => s.setEntry (i + 1) e | none => s)
    (s.eraseRegs 0x11200 0x113F0)

/-- The node's own entry. -/
def State.ownEntry (s : State) : Entry :=
  ⟨s.pairUid s.uid, false, s.on F.SETO_STAT_ORIENT, s.boot.twin, s.ownPref⟩

/-- The UID of the datum recorded. -/
def State.setDatum (s : State) (uid : Nat) : State :=
  let old := s.get F.SETO_DATUM_LO + 2 ^ 32 * s.get F.SETO_DATUM_HI
  let s := (s.set F.SETO_DATUM_LO (uid % 2 ^ 32)).set F.SETO_DATUM_HI (uid / 2 ^ 32)
  let s := s.set F.LINE_DATUM_D (match s.model uid with | some (d, _, _) => d | none => 0)
  if old = uid then s else s.irq 0x11 13

/-! ### States (R140) -/

/-- SETO_STAT.STATE written, and what follows it. -/
def State.toState (s : State) (n : Nat) : State := (s.set F.SETO_STAT_STATE n).sourceRegs

/-- A trigger (R140). -/
def State.triggered (s : State) : State := { s.irq 0x11 8 with so := { s.so with trigger := s.course } }

/-- Ports under probe make a node in ALONE or MEMBER probe. -/
def State.resumeProbing (s : State) : State :=
  if (s.soState = 0 || s.soState = 2) && !s.so.probes.isEmpty then
    { s with so := { s.so with back := s.soState } }.toState 1
  else s

/-- GA_JOIN as setting-out drives it: low with A_SPLIT, and while a Spaka-A port is excluded (R70, R133). -/
def State.joinPin (s : State) : State :=
  let low := s.on F.SETO_CFG_A_SPLIT || s.so.excluded.any (fun n => s.get F.SPK_CFG_GEN n == 1)
  let s := (s.setB F.SPK_LINK_JOINED (!low)).setB F.SPK_LINK_JOINED (!low) 1
  { s with pins := { s.pins with join := s.pins.join.map (fun _ => !low) } }

/-- A new link or coupling at port `n`: probing starts (R140). -/
def State.startProbe (s : State) (n : Nat) : State :=
  let p : Probe := ⟨n, 0, false, 0, 0, 0, false, false, false, 0, 0, false⟩
  let s := { s with so := { s.so with probes := s.so.probes.filter (fun (q : Probe) => q.port != n) ++ [p],
                                      excluded := s.so.excluded.filter (· != n) } }
  let s := if s.soState = 7 && s.so.excluded.isEmpty then s.toState (if s.count = 1 then 0 else 2) else s
  s.joinPin.triggered.resumeProbing

/-- Port `n` is no longer under probe; without any left, PROBING goes back. -/
def State.endProbe (s : State) (n : Nat) : State :=
  let s := { s with so := { s.so with probes := s.so.probes.filter (fun q => q.port != n) } }
  if s.soState = 1 && s.so.probes.isEmpty then s.toState s.so.back else s

/-- The node becomes a composition of one; its generation is kept. The others leave: their path models (R154) and quoins (R90)
go, and an arbiter alone has no datum (R128). -/
def State.becomeAlone (s : State) : State :=
  let s := ((s.set F.SETO_STAT_POSITION 1).set F.SETO_STAT_COUNT 1).setB F.SETO_STAT_IS_DATUM (!s.arbiter)
  let s := { s with so := { s.so with plan := none, event := none, held := [], limbs := [], answers := [], sending := [], provis := false, silent := false
                                      orphanAt := none, alt := 0, facing := none, stored := [], syncs := [], planFor := none } }
  let s := (s.setTable [s.ownEntry]).setDatum (s.pairUid s.uid)
  let s := ((s.set F.SETO_GEN_PENDING 0).set F.SETO_COMMIT 0).set F.LINE_STAT_THETA_VALID 0
  let s := { s with pace := { s.pace with models := s.pace.models.filter (fun m => m.1 == s.pairUid s.uid) } }
  let s := s.keepQuoins (fun u => s.pairUid u == s.pairUid s.uid)
  (s.toState 0).prefFlags.resumeProbing

/-! ### REPORTs (R116, R117) -/

/-- A REPORT payload of this node. -/
def State.reportPayload (s : State) (event port w4 uid joinGen : Nat) : List Nat :=
  uidWords s.lineUid ++ [event + 4 * port, w4] ++ uidWords uid ++ [joinGen, s.gen]

/-- A REPORT payload tells of a loss. -/
def lossReport (payload : List Nat) : Bool := payload.getD 3 0 % 4 == 1 || payload.getD 3 0 % 4 == 2

/-- An event is to be reported from course `from_` on. A loss is reported at once, and puts back an event that still waits for
its answer; any other event is held while one waits, and in PLANNED until the commit (R140). -/
def State.raiseEvent (s : State) (payload : List Nat) (dst from_ : Nat) : State :=
  let open_ := match s.so.event with | some e => [(e, s.so.eventDst)] | none => []
  if lossReport payload || (open_.isEmpty && s.soState != 4) then
    let s := { s with so := { s.so with event := some payload, eventDst := dst, eventFrom := from_, sentAt := none,
                                        held := open_ ++ s.so.held } }
    let w := payload.getD 3 0
    (s.set F.SETO_LAST_EVENT (w % 4)).set F.SETO_LAST_PORT (bits w 2 3)
  else { s with so := { s.so with held := s.so.held ++ [(payload, dst)] } }

/-- An event is raised, and MEMBER and PROBING become REPORTED where it is now to be sent. -/
def State.report (s : State) (payload : List Nat) (dst from_ : Nat) : State :=
  let s := s.raiseEvent payload dst from_
  if (s.soState = 2 || s.soState = 1) && s.so.event.isSome then s.toState 3 else s

/-- The event held first is raised where none waits any more and the state allows it (R140). -/
def State.releaseHeld (s : State) : State :=
  match s.so.held with
  | [] => s
  | (p, dst) :: t =>
    if s.so.event.isSome || !([1, 2, 3].contains s.soState) then s
    else ({ s with so := { s.so with held := t } }).report p dst s.course

/-- A loss on port `n` (R140): a port under probe fails its probe; otherwise LOST, or ORPHAN and provisional datum where the
port faced the datum (R132). DEDUCED: an arbiter beyond the break is an orphan only, since it is never datum (R128): the next
node takes the part after three missing SYNCs (log entry 72). -/
def State.loss (s : State) (n : Nat) : State :=
  let probing := s.so.probes.any (fun q => q.port == n)
  let s := s.endProbe n
  if s.count = 1 || probing || s.so.excluded.contains n then s
  else
    let s := s.triggered
    if s.so.facing = some n then
      (if s.arbiter then { s with so := { s.so with orphanAt := some s.course } }.toState 5
       else
        let s := { s with so := { s.so with provis := true, provisAt := s.course + 2, orphanAt := some s.course, plan := none, facing := none } }
        (s.raiseEvent (s.reportPayload 2 n 0 s.lineUid 0) 63 (s.course + 1)).toState 5)
    else s.report (s.reportPayload 1 n 0 0 0) 1 (s.course + 1)

/-- Sync lost for three courses (R132): ORPHAN, and provisional datum where the break lies next to this node. -/
def State.syncLoss (s : State) (beyond : Bool) : State :=
  if s.isSource || s.get F.LINE_STAT_SYNC_MISS < 3 || !([1, 2, 3, 4, 5].contains s.soState) || s.inFlight s.base then s
  else
    let s := s.triggered
    let s := { s with so := { s.so with orphanAt := some s.course } }
    if beyond && !s.standby && !s.arbiter then
      let port := s.so.facing.getD 0
      let s := { s with so := { s.so with provis := true, provisAt := s.course + 1, plan := none, facing := none } }
      (s.raiseEvent (s.reportPayload 2 port 0 s.lineUid 0) 63 s.course).toState 5
    else s.toState 5

/-- A reporter without an answer within 3 courses repeats its REPORT (R117, R121). -/
def State.reportRepeat (s : State) : State :=
  match s.so.event, s.so.sentAt with
  | some _, some c => if c + 3 ≤ s.course && !(s.inFlight s.base) then { s with so := { s.so with sentAt := none, eventFrom := s.course } } else s
  | _, _ => s

/-- An ORPHAN without a REPORT or a PLAN within 3 courses becomes a composition of one (R140). -/
def State.orphanTimeout (s : State) : State :=
  match s.so.orphanAt with
  | some c => if s.soState = 5 && c + 3 ≤ s.course && s.so.plan.isNone && s.so.alt = 0 && !s.so.provis && !(s.inFlight s.base) then s.becomeAlone else s
  | none => s

/-- CAB_ACTIVE after its debounce (R126, R130). -/
def State.cabChange (s : State) (level : Bool) : State :=
  if s.so.cab == level then s
  else
    let s := { s with so := { s.so with cab := level } }
    let s := if s.wayside then s else (s.setEntry s.pos { s.entry s.pos with pref := s.ownPref }).prefFlags
    if s.wayside || s.count = 1 then s
    else if s.pos = 1 || s.pos = s.count then
      if s.arbiter then s else
      s.triggered.report (s.reportPayload 3 0 0 0 0) 1 (s.course + 1)
    else if level then s.inc F.SETO_CAB_IGN else s

/-- A coupling sense input after its debounce (R140). -/
def State.couplingChange (s : State) (n : Nat) (level : Bool) : State :=
  if bit s.so.cpl n == level then s
  else
    let s := { s with so := { s.so with cpl := setBit s.so.cpl n level } }
    if level then s.startProbe n else s.loss n

/-! ### PROBE (R115, R116, R129, R146) -/

/-- The payload of a PROBE on port `n`; `d` as it is sent. -/
def State.probePayload (s : State) (n : Nat) (d : Option Int) : List Nat :=
  let datum := s.isDatum || (s.standby && s.pos == 1)
  uidWords s.lineUid ++ [s.pos + 64 * s.count + 4096 * (s.tabPref 1).toNat + 8192 * s.arbiter.toNat + 16384 * datum.toNat
    + 32768 * (n == 1).toNat, s.gen] ++ wordsOf 2 (d32 d) ++ uidWords (s.outerUid n)

/-- d as the node sends it on port `n`: receive stamp of the partner's previous PROBE minus transmit stamp of its own. -/
def Line.probeD (l : Line) : Option Int :=
  match l.probeRx, l.probeTx with
  | some r, some t => some ((r : Int) - t)
  | _, _ => none

/-- This side survives (R129): preference first, then the lower UID of the outer ends; an arbiter alone is no candidate. -/
def State.survives (s : State) (p : Probe) : Bool :=
  let mine := s.tabPref 1
  if p.arb && p.count == 1 then true
  else if s.arbiter && s.count == 1 then false
  else if mine != p.pref then mine
  else s.outerUid p.port < p.outer

/-- SETTLE probes have passed on a port (R140). Two arbiters alone stay apart (R128). -/
def State.settled (s : State) (p : Probe) : State :=
  if p.arb && p.count == 1 && s.arbiter && s.count == 1 then s.endProbe p.port
  else if p.gen == s.gen && p.count == s.count && (s.posOf (s.pairUid p.uid)).isSome then
    let s := s.endProbe p.port
    if s.soState = 1 then s else if s.so.probes.isEmpty && s.count != 1 && s.soState = 0 then s.toState 2 else s
  else if s.survives p then
    let w4 := p.count + 64 * p.pos + 4096 * p.pref.toNat + 8192 * (p.pos == p.count).toNat
    s.report (s.reportPayload 0 p.port w4 p.outer p.gen) 1 (if s.get F.SETO_CFG_SETTLE = 0 then s.course else s.course + 1)
  else s.toState 6

/-- A PROBE received on port `n` with stamp `stamp`; `inst` where only an installer key passed it. DESIGN CHOICE: the halves of
R146 are truncated towards zero (log entry 93). -/
def State.probeRx (s : State) (n stamp : Nat) (p : List Nat) (inst : Bool) : State :=
  let uid := wordsVal (p.take 3)
  let w3 := p.getD 3 0
  let gen := p.getD 4 0
  let l := s.line n
  let dOwn := l.dSent
  let dPart := d32Val (wordsVal ((p.drop 5).take 2))
  let s := match dOwn, dPart with
    | some a, some b =>
      let s := s.measured n ((a + b).tdiv 2)
      if (s.posOf (s.pairUid uid)).isSome && gen == s.gen then s.set F.LINE_P_THETA (satSigned 32 ((b - a).tdiv 2)) n else s
    | _, _ => s
  let s := (s.setLine n { s.line n with probeRx := some stamp, peer := some uid }).noteArb uid (bit w3 13)
  match s.so.probes.find? (fun q => q.port == n) with
  | none => s
  | some q =>
    let count := bits w3 6 6
    let q' : Probe := { q with uid := uid, pos := w3 % 64, count := count, pref := bit w3 12, arb := bit w3 13, datum := bit w3 14
                               gen := gen, outer := wordsVal ((p.drop 7).take 3), seen := true, inst := inst
                               passed := if q.seen then q.passed else q.passed + 1 }
    let s := { s with so := { s.so with probes := s.so.probes.map (fun x => if x.port == n then q' else x) } }
    if s.get F.SETO_CFG_SETTLE ≤ q'.passed then
      (if s.soState = 1 then s.settled q' else if s.soState = 8 then s.toState 6 else s)
    else s

/-- Probes at a boundary: a course without one restarts the count (R115). -/
def State.probeBoundary (s : State) : State :=
  { s with so := { s.so with probes := s.so.probes.map (fun p => { p with seen := false, passed := if p.seen then p.passed else 0 }) } }

/-! ### ROLL (R116, R134) -/

/-- The payload of a ROLL; a standby builds its active twin's (R116, R237). -/
def State.rollPayload (s : State) : List Nat :=
  let partner := if !s.boot.twin then 0 else if s.lineUid = s.uid then s.partnerUid else s.uid
  let datum := s.isDatum || (s.standby && s.pos == 1)
  uidWords s.lineUid ++ [s.pos + 64 * s.count + 4096 * (s.tabPref 1).toNat + 8192 * s.arbiter.toNat + 16384 * datum.toNat, s.gen]
    ++ uidWords partner ++ [(s.on F.SETO_STAT_ORIENT).toNat + 2 * s.prefStrap.toNat + 4 * s.so.cab.toNat, 0]

/-- A ROLL received: the entry of its position is filled in; a pair is kept under its lower UID (R134, R241). -/
def State.rollRx (s : State) (p : List Nat) : State :=
  let uid := wordsVal (p.take 3)
  let w3 := p.getD 3 0
  let pos := w3 % 64
  let partner := wordsVal ((p.drop 5).take 3)
  let w8 := p.getD 8 0
  if pos = 0 || s.count < pos then s
  else
    let s := if partner = 0 then s else { s with so := { s.so with partner := put (min uid partner) (max uid partner) s.so.partner } }
    let s := s.noteArb (s.pairUid uid) (bit w3 13)
    let pref := if s.wayside then bit w8 1 else bit w8 2
    let s := if (s.entry pos).pref == pref then s else
      { s with so := { s.so with prefMoved := put (s.pairUid uid) s.course s.so.prefMoved } }
    (s.setEntry pos ⟨s.pairUid uid, false, bit w8 0, partner != 0, pref⟩).prefFlags

/-! ### Plans (R119 to R123) -/

/-- A segment word. -/
def segWord (source : Nat) (rev : Bool) (a b : Nat) : Nat := source * 16384 + rev.toNat * 8192 + a * 64 + b

/-- The (source, old position) pairs of a segment, in new order (R119). -/
def segList (w : Nat) : List (Nat × Nat) :=
  let a := bits w 6 6
  let b := w % 64
  if bits w 14 2 = 0 ∨ bits w 14 2 = 3 then []
  else if bit w 13 then (List.range (a + 1 - b)).map (fun i => (bits w 14 2, a - i))
  else (List.range (b + 1 - a)).map (fun i => (bits w 14 2, a + i))

/-- The new line order of a plan. -/
def Plan.order (p : Plan) : List (Nat × Nat) := (p.segs.map segList).flatten

/-- The segment word that holds an old position of a source. -/
def Plan.segOf (p : Plan) (source pos : Nat) : Option Nat := p.segs.find? (fun w => (segList w).contains (source, pos))

/-- A PLAN payload (R116). -/
def Plan.payload (p : Plan) : List Nat :=
  wordsOf 2 p.commit ++ [p.gen, p.count + 64 * p.keySwitch.toNat + 128 * p.handover.toNat] ++ wordsOf 2 p.sched
    ++ (p.segs ++ [0, 0, 0]).take 3 ++ [p.joinGen]

/-- The generation after `g` (R111). -/
def genAfter (g : Nat) : Nat := if g = 0xFFFF then 1 else g + 1

/-- An ABORT payload. -/
def abortPayload (commit cause uid : Nat) : List Nat := wordsOf 2 commit ++ [cause] ++ uidWords uid ++ [0, 0, 0, 0]

/-- A plan of this datum with the segments given. -/
def State.makePlan (s : State) (commit : Nat) (segs : List Nat) (handover : Bool) (joinGen : Nat) : Plan :=
  { commit := commit, gen := genAfter s.gen, count := ((segs.map segList).flatten).length
    keySwitch := s.on F.ADM_KEYSTAT_ROLL_PENDING, handover := handover
    sched := match s.pendSched with | some sc => sc.id | none => s.sched.id
    segs := segs, joinGen := joinGen, mine := true, joining := false
    refused := s.on F.ADM_KEYSTAT_ROLL_PENDING && (s.key 1).isNone }

/-- Of the members at old positions `a` and `b`, `b` is the better datum (R126 to R128). -/
def State.better (s : State) (a b : Nat) : Bool :=
  if s.isArb b then false
  else if s.isArb a then true
  else if s.tabPref a != s.tabPref b then s.tabPref b else s.tabUid b < s.tabUid a

/-- The end port away from the datum. -/
def State.farPort (s : State) : Nat :=
  match s.so.facing with
  | some 0 => 1
  | some 1 => 0
  | _ => if s.on F.SETO_STAT_ORIENT then 1 else 0

/-- Branch ports in the line order of R113: SP2 to SP7, then end ports used as branches. -/
def branchRank (n : Nat) : Nat := if n < 2 then n + 8 else n

/-- The branches and arms this node knows of: its own branches, and those the plans have shown. -/
def State.limbsAll (s : State) : List Limb :=
  ((List.range 8).filter (fun n => s.isBranch n && !(s.line n).behind.isEmpty)).map (fun n =>
    let b := (s.line n).behind
    (⟨s.pos, n, b.foldl min s.count, b.foldl max 0, false⟩ : Limb)) ++ s.so.limbs

/-- Position `p` lies in the limb. -/
def Limb.has (l : Limb) (p : Nat) : Bool := decide (l.first ≤ p) && decide (p ≤ l.last)

/-- The innermost of the limbs that hold position `p`. -/
def State.limbOf (s : State) (p : Nat) : Option Limb :=
  (s.limbsAll.filter (·.has p)).foldl (fun o l => match o with
    | some m => if l.last - l.first < m.last - m.first then some l else o
    | none => some l) none

/-- The last position of the walk that goes on from position `p`: the end of its branch or arm, or of the line. -/
def State.walkEnd (s : State) (p : Nat) : Nat := match s.limbOf p with | some l => l.last | none => s.count

/-- The positions reached through port `n` (R113): through the datum-facing port those before this node and those beyond the end
of its walk, behind a branch or an arm those it holds, and the rest of the walk at the other end port. -/
def State.through (s : State) (n : Nat) : List Nat :=
  let all := (List.range s.count).map (· + 1)
  let mine := s.limbsAll.filter (fun l => l.hub == s.pos)
  if s.so.facing = some n then all.filter (fun p => decide (p < s.pos) || decide (s.walkEnd s.pos < p))
  else if s.isBranch n then (s.line n).behind
  else match mine.find? (fun l => l.mid && l.port == n) with
  | some l => all.filter l.has
  | none =>
    if n = s.farPort || (n < 2 && mine.any (fun l => l.mid && l.port == s.farPort)) then
      all.filter (fun p => decide (s.pos < p) && decide (p ≤ s.walkEnd s.pos) && !(mine.any (·.has p)))
    else []

/-- The port through which position `p` is reached. -/
def State.via (s : State) (p : Nat) : Option Nat := (List.range 8).find? (fun n => (s.through n).contains p)

/-- The position after which the members of a joiner on port `port` of the node at `p` are placed (R113): after what lies behind
the ports of that node which come before, and on a Spaka-A trunk of this node in ascending UID order. -/
def State.joinAfter (s : State) (p port uid : Nat) : Nat :=
  if p = s.pos && s.portGen port = 1 && !(s.isBranch port) then
    ((s.through port).takeWhile (fun q => s.tabUid q < uid)).foldl max p
  else ((s.limbsAll.filter (fun l => l.hub == p && branchRank l.port ≤ branchRank port)).map (·.last)).foldl max p

/-- The positions that the node at `p` loses with port `port`, as this node knows them. -/
def State.beyond (s : State) (p port : Nat) : List Nat :=
  let all := (List.range s.count).map (· + 1)
  if p = s.pos then s.through port
  else match s.limbsAll.find? (fun l => l.hub == p && l.port == port) with
  | some l => all.filter l.has
  | none => all.filter (fun q => decide (p < q) && decide (q ≤ s.walkEnd p) && !(s.limbsAll.any (fun l => l.hub == p && l.has q)))

/-- The members left when the positions `lost` go: at most two segments. -/
def State.segsWithout (s : State) (lost : List Nat) : List Nat :=
  match lost with
  | [] => [segWord 1 false 1 s.count]
  | a :: t =>
    let b := t.foldl max a
    (if 1 < a then [segWord 1 false 1 (a - 1)] else []) ++ (if b < s.count then [segWord 1 false (b + 1) s.count] else [])

/-- The datum among the members at old positions `a` to `b`, whose ends are `x` and `y` (R126 to R128): the better end, or where
no end is eligible the eligible member with the lowest UID; where none is, `a`. -/
def State.bestDatum (s : State) (a b x y : Nat) : Nat :=
  let e := if x != y && s.better x y then y else x
  if !(s.isArb e) then e
  else ((List.range (b + 1 - a)).map (· + a)).foldl (fun m p => if s.isArb p then m else if s.isArb m || s.tabUid p < s.tabUid m then p else m) a

/-- The plan for the members at old positions `a` to `b` that puts their datum first (R126 to R128, R130, R132): forward, with a
reversed segment, or as two arms where the datum is at no end. -/
def State.planFrom (s : State) (commit a b : Nat) : Plan :=
  let arm := ((s.limbsAll.find? (fun l => l.mid)).map (·.last)).getD 0
  if a = 1 && 1 < arm && arm < b then
    let d := s.bestDatum a b arm b
    if d = arm then s.makePlan commit [segWord 1 true arm 1, segWord 1 false (arm + 1) b] true 0
    else if d = b then s.makePlan commit [segWord 1 true b (arm + 1), segWord 1 false 1 arm] true 0
    else s.makePlan commit [segWord 1 false a b] false 0
  else
    let d := s.bestDatum a b a b
    if d = a then s.makePlan commit [segWord 1 false a b] (a != s.pos) 0
    else if d = b then s.makePlan commit [segWord 1 true b a] true 0
    else s.makePlan commit [segWord 1 false d b, segWord 1 true (d - 1) a] (d != s.pos) 0

/-- How the datum answers a REPORT in course `c` (R120, R121, R126 to R133): an ABORT payload, a plan, or nothing. -/
inductive Answer where
  | abort (payload : List Nat) | plan (p : Plan) | none
  deriving DecidableEq, Repr

/-- The position of a reporter: its own, where the report is the node's own. -/
def State.reporterPos (s : State) (uid : Nat) : Option Nat := if uid = s.lineUid then some s.pos else s.posOf (s.pairUid uid)

/-- The table as a CONFLICT received in course `c` makes it: in the consist profile the reporter's CAB_ACTIVE has changed,
which its ROLL may not have shown yet (R130). -/
def State.conflictSeen (s : State) (c : Nat) (r : List Nat) : State :=
  let uid := s.pairUid (wordsVal (r.take 3))
  match s.posOf uid with
  | some p =>
    let shown := s.so.prefMoved.any (fun x => x.1 == uid && decide (c ≤ x.2 + 1))
    if r.getD 3 0 % 4 != 3 || s.wayside || p = s.pos || !(p = 1 || p = s.count) || shown then s
    else { s.setEntry p { s.entry p with pref := !(s.entry p).pref } with so := { s.so with prefMoved := put uid s.course s.so.prefMoved } }
  | none => s

/-- The datum's answer to a REPORT, the plan committing in course `commit`. -/
def State.planAnswer (s : State) (commit : Nat) (r : List Nat) : Answer :=
  let reporter := wordsVal (r.take 3)
  let w3 := r.getD 3 0
  let w4 := r.getD 4 0
  let event := w3 % 4
  let port := bits w3 2 3
  let uid := wordsVal ((r.drop 5).take 3)
  let n := s.count
  if s.on F.SCHD_RESULT_BUSY then .abort (abortPayload 0 4 reporter)
  else match s.reporterPos reporter with
  | none => .none
  | some p => match event with
    | 0 =>
      let jc := w4 % 64
      let jp := bits w4 6 6
      let seg2 := if jp = jc && jc != 1 then segWord 2 true jc 1 else segWord 2 false 1 jc
      let joinGen := r.getD 8 0
      let inst := s.so.probes.any (fun q => q.inst && (q.outer == uid || q.uid == uid))
        || (List.range 16).any (fun e => s.get F.ADM_STR_ID_REASON e == 3 && e < s.get F.ADM_STR_USED
          && s.get F.ADM_STR_UID_LO e + 2 ^ 32 * s.get F.ADM_STR_ID_UID e == uid)
      let after := s.joinAfter p port uid
      let outside := p = 1 && port < 2 && !(p = s.pos && s.isBranch port) && (s.through port).isEmpty
      if (s.posOf (s.pairUid uid)).isSome then .abort (abortPayload 0 1 uid)
      else if 62 < n + jc then .abort (abortPayload 0 2 uid)
      else if inst && !(s.on F.ADM_CFG_INST_ADMIT) then .none
      else if outside && n != 1 && !(bit s.so.hub 0 && port = s.farPort) then
        (if s.isArb n then .plan (s.makePlan commit [segWord 1 false 1 n, seg2] false joinGen)
         else .plan (s.makePlan commit [segWord 1 true n 1, seg2] true joinGen))
      else if after < n && !outside then
        .plan (s.makePlan commit [segWord 1 false 1 after, seg2, segWord 1 false (after + 1) n] false joinGen)
      else .plan (s.makePlan commit [segWord 1 false 1 n, seg2] false joinGen)
    | 1 =>
      let lost := s.beyond p port
      match lost.head? with
      | some a => if port < 2 && a != 1 && lost.contains n then .plan (s.planFrom commit 1 (a - 1))
                  else .plan (s.makePlan commit (s.segsWithout lost) false 0)
      | none => .plan (s.makePlan commit [segWord 1 false 1 n] false 0)
    | 2 => .plan (s.planFrom commit s.pos (s.walkEnd s.pos))
    | _ => .plan (s.planFrom commit 1 n)

/-- This node holds a plan (R140): PLANNED; a member of a joining composition is JOINER until its adoption. A plan answers the
event sent; one not sent yet is held, or, where it tells of a loss, still sent. DEDUCED: the ABORT KEY with which a node whose
next slot is invalid refuses a key switch is its own and is counted there, since only a datum transmits in slot 3 (R139, R169,
log entry 92). -/
def State.holdPlan (s : State) (p : Plan) : State :=
  let again := (s.so.plan.map (fun q => (q.commit, q.gen))) = some (p.commit, p.gen)
  let open_ := match s.so.event, s.so.sentAt with | some e, none => [(e, s.so.eventDst)] | _, _ => []
  let s := { s with so := { s.so with plan := some p, orphanAt := none } }
  let s := if again || open_.any (fun e => lossReport e.1) then s
    else { s with so := { s.so with event := none, sentAt := none, held := open_ ++ s.so.held } }
  let s := if p.refused && !again then (s.inc F.SETO_ABORTS).irq 0x11 11 else s
  let s := ((s.set F.SETO_COMMIT p.commit).set F.SETO_GEN_PENDING p.gen).irq 0x11 9
  if p.joining then s.toState 6 else s.toState 4

/-- The reporter's side of an ABORT that refuses its JOIN (R133, R140): FULL excludes the port, SUPERSEDED ends the event. -/
def State.refusedReport (s : State) (cause uid : Nat) : State :=
  if cause = 2 then
    match s.so.probes.find? (fun q => q.outer == uid || q.uid == uid) with
    | some q =>
      let s := { s with so := { s.so with event := none, sentAt := none, excluded := q.port :: s.so.excluded } }
      s.joinPin.toState 7
    | none => s
  else if (s.so.event.map (fun e => wordsVal ((e.drop 5).take 3))) = some uid then
    { s with so := { s.so with event := none, sentAt := none } }.releaseHeld
  else s

/-- The datum takes up the next REPORT to answer, for slot 3 of the present course (R120): of a pending plan of its own
only a loss makes it withdraw that, once, and the REPORT which that plan answered is held again behind the loss. -/
def State.planWork (s : State) : State :=
  let drop (s : State) : State := { s with so := { s.so with answers := s.so.answers.drop 1 } }
  match s.so.answers with
  | [] =>
    if s.actsDatum && s.on F.ADM_KEYSTAT_ROLL_PENDING && s.so.plan.isNone && s.so.sending.isEmpty then
      let p := s.makePlan (s.course + 2) [segWord 1 false 1 s.count] false 0
      { s.holdPlan p with so := { (s.holdPlan p).so with planFor := none, sending := [(s.course, 2, p.payload), (s.course + 1, 2, p.payload)] } }
    else s
  | (c, r) :: rest =>
    if s.course ≤ c || !s.actsDatum then s
    else if (s.so.plan.map (·.mine)).getD false then
      let w := r.getD 3 0 % 4
      if !s.so.aborted && (w = 1 || w = 2) then
        let commit := (s.so.plan.map (·.commit)).getD 0
        let held := match s.so.planFor with | some o => [(c, o)] | none => []
        let s := { s with so := { s.so with plan := none, aborted := true, planFor := none, answers := (c, r) :: held ++ rest
                                            sending := [(s.course, 3, abortPayload commit 1 0)] } }
        ((s.set F.SETO_COMMIT 0).set F.SETO_GEN_PENDING 0).toState 3
      else s
    else if s.so.plan.isSome || s.so.sending.any (fun x => x.1 == s.course) then s
    else
      let seen := s.conflictSeen c r
      match seen.planAnswer (s.course + 2) r with
      | .abort p => let s := drop s
                    let s := { s with so := { s.so with sending := [(s.course, 3, p)] } }
                    if wordsVal (r.take 3) = s.lineUid then
                      (match p.getD 2 0 with
                       | 4 => { s with so := { s.so with sentAt := some c, event := some r } }
                       | cause => s.refusedReport cause (wordsVal ((p.drop 3).take 3)))
                    else s
      | .plan p => let s := (drop seen).holdPlan p
                   { s with so := { s.so with planFor := some r, sending := [(s.course, 2, p.payload), (s.course + 1, 2, p.payload)] } }
      | .none => drop s

/-- A PLAN frame on port `n` makes this node a joiner (R131): it names the node's generation in word 9 and has a segment of
joiners, and it does not come from the node's own datum. -/
def State.joinsBy (s : State) (n : Nat) (f : List Nat) : Bool :=
  let p := fPayload f
  let segs := (p.drop 6).take 3
  let size (k : Nat) : Nat := ((segs.map segList).flatten.filter (fun x => x.1 == k)).length
  let ownPair := s.standby && s.pos == 1
  fKind f == 3 && fSlot f == 3 && fFlags f == 2 && p.getD 9 0 == s.gen && segs.any (fun w => bits w 14 2 == 2) && s.soState != 8 &&
    (s.soState == 6 || s.so.probes.any (fun q => q.port == n) || fGen f != s.gen || fCourse f != s.course % 2 ^ 32
      || (!ownPair && (s.pos == 1 || s.so.facing.isSome && s.so.facing != some n)) || (size 1 != s.count && size 2 == s.count))

/-- A PLAN received in a frame of generation `gen`; `joining` tells that it makes this node a joiner (R131, R139, R140). -/
def State.planRx (s : State) (gen : Nat) (joining : Bool) (p : List Nat) : State :=
  let w3 := p.getD 3 0
  if !joining && gen != s.gen then s
  else
    let ks := bit w3 6
    s.holdPlan { commit := wordsVal (p.take 2), gen := p.getD 2 0, count := w3 % 64, keySwitch := ks, handover := bit w3 7
                 sched := wordsVal ((p.drop 4).take 2), segs := (p.drop 6).take 3, joinGen := p.getD 9 0, mine := false
                 joining := joining, refused := ks && (s.key 1).isNone }

/-- An ABORT received (R133, R140). After one with cause SCHED the REPORT is repeated three courses after it was sent, as
without an answer (R121). -/
def State.abortRx (s : State) (p : List Nat) : State :=
  let commit := wordsVal (p.take 2)
  let cause := p.getD 2 0
  let uid := wordsVal ((p.drop 3).take 3)
  let s := (s.inc F.SETO_ABORTS).irq 0x11 11
  match cause with
  | 1 =>
    if s.soState = 6 && uid != 0 && (uid == s.uid || (s.posOf (s.pairUid uid)).isSome) then
      { s with so := { s.so with silent := false, plan := none, probes := [] } }.toState (if s.count = 1 then 0 else 2)
    else if commit = 0 then
      s.refusedReport 1 uid
    else match s.so.plan with
    | some pl => if pl.commit = commit then
        let s := { s with so := { s.so with plan := none } }
        let s := (s.set F.SETO_COMMIT 0).set F.SETO_GEN_PENDING 0
        if s.soState = 4 then s.toState 3 else s
      else s
    | none => s
  | 2 =>
    if s.soState = 3 then s.refusedReport 2 uid
    else if s.soState = 6 && (uid == s.uid || (s.posOf (s.pairUid uid)).isSome) then
      { s with so := { s.so with silent := false, plan := none } }.toState (if s.count = 1 then 0 else 2)
    else s
  | _ => s

/-! ### The commit (R114, R119, R122, R123, R134, R139) -/

/-- The other end port. -/
def otherEnd (n : Nat) : Nat := if n = 0 then 1 else if n = 1 then 0 else n

/-- The plan puts the positions of its two sources side by side at this node's: it lies at the coupling. -/
def Plan.atCoupling (p : Plan) (source pos : Nat) : Bool :=
  (p.order.zip (p.order.drop 1)).any (fun x => (x.1 == (source, pos) && x.2.1 != source) || (x.2 == (source, pos) && x.1.1 != source))

/-- The probe towards the other composition of a plan at the coupling: the survivor's generation is the one before the
plan's, the joiner's is named in it. -/
def State.joinProbe (s : State) (p : Plan) : Option Probe :=
  let other := (p.order.filter (fun x => x.1 == 2)).length
  if p.joining then (s.so.probes.find? (fun q => genAfter q.gen == p.gen)).or s.so.probes.head?
  else s.so.probes.find? (fun q => q.gen == p.joinGen && q.count == other && (p.atCoupling 1 s.pos || bit s.so.hub 0))

/-- The datum-facing port after a plan puts this node from segment word `w` at `new` (R114): the port through which the
new datum, or the coupling beyond which it lies, is reached. -/
def State.newFacing (s : State) (p : Plan) (source w new : Nat) : Option Nat :=
  if new = 1 then none
  else if s.get F.SPK_CFG_GEN 0 = 1 && s.get F.SPK_CFG_GEN 1 = 1 && s.on F.SPK_LINK_JOINED then some 0
  else
    let port := match p.order.head? with
      | some (a, d) =>
        if a = source then s.via d
        else if s.pos = bits w 6 6 then (s.joinProbe p).map Probe.port else s.via (bits w 6 6)
      | none => none
    port.or s.so.facing

/-- ORIENT after a commit (R114): from the datum-facing port, for a datum from the port its composition lies beyond, for
a node on a joined Spaka-A trunk from the hint. -/
def State.newOrient (s : State) (p : Plan) (w new : Nat) (facing : Option Nat) : Bool × Bool :=
  if s.get F.SPK_CFG_GEN 0 = 1 && s.get F.SPK_CFG_GEN 1 = 1 && s.on F.SPK_LINK_JOINED then (s.on F.SETO_CFG_ORIENT_HINT, true)
  else if new = 1 then
    (match s.so.facing with
     | some x => ((if bit w 13 then x else otherEnd x) == 1, false)
     | none => if s.count = 1 then (match s.joinProbe p with | some q => (q.port == 1, false) | none => (s.on F.SETO_STAT_ORIENT, false))
               else (s.on F.SETO_STAT_ORIENT, false))
  else match facing with
    | some x => (x == 0, false)
    | none => (s.on F.SETO_STAT_ORIENT, false)

/-- The key of slot 1 becomes the current key (R139). -/
def State.keySwitch (s : State) : State :=
  let s := match s.key 1 with
    | some k => { s with keys := put 0 k (del 1 s.keys) }
    | none => s
  let v := s.get F.ADM_KEYSTAT_VALID
  let s := s.set F.ADM_KEYSTAT_VALID (setBit (setBit v 0 (bit v 1)) 1 false)
  let s := if s.get F.ADM_CFG_TX_SLOT = 1 then s.set F.ADM_CFG_TX_SLOT 0 else s
  (s.set F.ADM_KEYSTAT_ROLL_PENDING 0).irq 0x15 9

/-- The schedule a plan names takes effect (R107, R134). -/
def State.planSchedule (s : State) (id : Nat) : State :=
  let other (s : State) : State :=
    if id = s.sched.id then s.set F.SETO_STAT_SCHED_MISMATCH 0
    else if id = 0 then (s.activate builtIn).set F.SETO_STAT_SCHED_MISMATCH 0 else s.set F.SETO_STAT_SCHED_MISMATCH 1
  match s.pendSched with
  | some sc => if sc.id = id then ((s.setPending none).activate sc).set F.SETO_STAT_SCHED_MISMATCH 0 else other s
  | none => other s

/-- The contexts that serve partial messages: their serving numbers lie in [0x10000000, 0x20000000). -/
def Ctx.partial_ (c : Ctx) : Bool := decide (0x10000000 ≤ c.slot) && decide (c.slot < 0x20000000)

/-- Every partial message is discarded and its context freed (R100). -/
def State.discardPartials (s : State) : State :=
  let mine := s.trw.ctxs.filter (·.partial_)
  let s := mine.foldl (fun s c =>
    (s.set F.TRW_CTX_INUSE (s.get F.TRW_CTX_INUSE c.chan - 1) c.chan).set F.TRW_CTX_USED_USED (s.get F.TRW_CTX_USED_USED - 1)) s
  ({ s with trw := { s.trw with rx := [], ctxs := s.trw.ctxs.filter (fun c => !c.partial_)
                                broken := s.trw.rx.map (fun (m : RxMsg) => (m.uid, m.stream, m.id)) ++ s.trw.broken } }).add
    F.TRW_MSG_DISCARD s.trw.rx.length

/-- The node enters REJOIN (R124, R139): it probes, and transmits in slot 1 only. -/
def State.rejoin (s : State) : State :=
  let s := { s with so := { s.so with plan := none, event := none, held := [], provis := false, foreigns := 0 } }
  let ports := s.serving
  let s := ports.foldl (fun s n =>
    if s.so.probes.any (fun p => p.port == n) then s else
      { s with so := { s.so with probes := s.so.probes ++ [Probe.mk n 0 false 0 0 0 false false false 0 0 false] } }) s
  ((s.inc F.SETO_REJOINS).irq 0x11 14).toState 8

/-- The limbs after a plan, `at_` giving new positions (R113): those that stay, grown where a joiner joined inside one, and a
new one for joiners that hang off the walk, or for the arms of a datum at no end. -/
def State.limbsAfter (s : State) (p : Plan) (source : Nat) (at_ : Nat × Nat → Nat) : List Limb :=
  let order := p.order
  let news := (order.filter (fun x => x.1 != source)).map at_
  let lo := news.foldl min 63
  let hi := news.foldl max 0
  let said := if p.mine then s.so.planFor.bind (fun r =>
      if r.getD 3 0 % 4 = 0 then (s.reporterPos (wordsVal (r.take 3))).map (fun q => (q, bits (r.getD 3 0) 2 3)) else none) else none
  let kept := s.so.limbs.filterMap (fun l =>
    let m := ((List.range (l.last + 1 - l.first)).map (fun i => (source, l.first + i))).filter (fun x => order.contains x) |>.map at_
    let m := if said.any (fun q => l.has q.1) then m ++ news else m
    if m.isEmpty || (l.hub != 0 && !(order.contains (source, l.hub))) || (l.mid && order.head? != some (source, 1)) then none
    else some (⟨if l.hub = 0 then 0 else at_ (source, l.hub), l.port, m.foldl min 63, m.foldl max 0, l.mid⟩ : Limb))
  let inside := decide (hi < order.length) && decide (lo ≤ hi)
  let fresh : List Limb := match said with
    | some (q, port) =>
      if s.limbOf q != none || (q = s.pos && s.isBranch port) || !(inside || 2 ≤ port) then []
      else [⟨at_ (source, q), port, lo, hi, false⟩]
    | none => if inside then [⟨0, 0xFF, lo, hi, false⟩] else []
  let arms : List Limb := match p.segs with
    | [a, b] =>
      if bits a 14 2 = 1 && bits b 14 2 = 1 && bit b 13 && !(bit a 13) && bits b 6 6 + 1 = bits a 6 6 && bits a 6 6 < a % 64 then
        [⟨1, (s.via (bits a 6 6 + 1)).getD s.farPort, 2, a % 64 + 1 - bits a 6 6, true⟩]
      else []
    | _ => []
  let beside : List Limb := match said with
    | some (1, port) => if p.segs.head? = some (segWord 1 false 1 s.count) && 1 < s.count && port < 2 && port != s.farPort
        && !(s.isBranch port) && s.limbOf s.count = none then [⟨1, s.farPort, 2, s.count, true⟩] else []
    | _ => []
  kept ++ fresh ++ arms ++ beside

/-- The plan held commits at this boundary (R122). DESIGN CHOICE: Θ, which a commit has used or outdated, is no longer valid
after it (log entry 95). -/
def State.commitPlan (s : State) (p : Plan) : State :=
  let source := if p.joining then 2 else 1
  if p.refused || (p.keySwitch && (s.key 1).isNone) then s.rejoin
  else match p.segOf source s.pos with
  | none => s.becomeAlone.set F.SETO_GEN_GEN p.gen
  | some w =>
    let order := p.order
    let new := (order.findIdx (fun x => x == (source, s.pos))) + 1
    let facing := s.newFacing p source w new
    let (orient, hint) := s.newOrient p w new facing
    let far := s.joinProbe p
    let entries := order.map (fun x =>
      if x.1 = source then s.entry x.2
      else match far with
        | some q => if q.pos = x.2 then Entry.mk (s.pairUid q.uid) true false false false else Entry.mk 0 true false false false
        | none => Entry.mk 0 true false false false)
    let old := s
    let at_ (a : Nat × Nat) : Nat := order.findIdx (· == a) + 1
    let behind (n : Nat) : List Nat :=
      let own := (old.through n).filter (fun q => order.contains (source, q)) |>.map (fun q => at_ (source, q))
      let more := if (far.map Probe.port) = some n then (order.filter (fun x => x.1 != source)).map at_ else []
      (List.range (order.length + 1)).filter (fun q => own.contains q || more.contains q)
    let s := ((s.set F.SETO_GEN_GEN p.gen).set F.SETO_GEN_PENDING 0).set F.SETO_COMMIT 0
    let s := (s.set F.SETO_STAT_POSITION new).set F.SETO_STAT_COUNT order.length
    let s := s.setB F.SETO_STAT_IS_DATUM (new == 1 && s.drives && !s.arbiter)
    let s := { s with so := { s.so with
        facing := facing, limbs := old.limbsAfter p source at_, plan := none, provis := false, silent := false, aborted := false, alt := 0, orphanAt := none, planFor := none
        probes := s.so.probes.filter (fun q => !((far.map Probe.port) == some q.port || p.joining && genAfter q.gen == p.gen)), syncs := [], foreigns := 0, foreign := false } }
    let s := s.setTable entries
    let s := s.setEntry new { s.entry new with uid := s.pairUid s.uid, pending := false, orient := orient, twin := s.boot.twin, pref := s.ownPref }
    let s := (s.setB F.SETO_STAT_ORIENT orient).setB F.SETO_STAT_ORIENT_SRC hint
    let s := if orient != old.on F.SETO_STAT_ORIENT then s.irq 0x11 12 else s
    let keep (uid : Nat) : Bool :=
      match old.posOf uid, s.posOf uid with
      | some a, some b => (a : Int) - old.pos == (b : Int) - new || (old.pos : Int) - a == (b : Int) - new
      | _, _ => false
    let s := s.hubCommit
    let s := (List.range 8).foldl (fun s n => s.setLine n { s.line n with behind := if s.isBranch n then behind n else [] }) s
    let side (uid : Nat) : Bool :=
      match old.posOf uid, s.posOf uid with
      | some a, some b => old.via a == s.via b
      | _, _ => false
    let s := { s with pace := { s.pace with models := s.pace.models.filter (fun m => keep m.1 && side m.1) } }
    let s := s.keepQuoins (fun u => entries.any (fun e => e.uid == s.pairUid u))
    let s := s.setDatum (s.tabUid 1)
    let s := if p.keySwitch then s.keySwitch else s
    let s := s.planSchedule p.sched
    let s := if s.isDatum then s.set F.LINE_TRIM 0 else s
    let s := s.prefFlags
    let s := (s.set F.SETO_LAST_COURSES (min 255 (s.course - s.so.trigger))).set F.SETO_LAST_CUT p.joining.toNat
    let s := ((s.inc F.SETO_PLANS).irq 0x11 10).mark 0x030 (le 2 p.gen ++ [new, order.length] ++ le 4 p.commit)
    let s := s.discardPartials
    let s := s.set F.LINE_STAT_THETA_VALID 0
    ((s.toState 2).branchRegs).releaseHeld.resumeProbing

/-- The boundary's setting-out commit (R33 step 2). -/
def State.commitBoundary (s : State) : State :=
  match s.so.plan with
  | some p => if p.commit ≤ s.course && !p.joining then s.commitPlan p else s
  | none => s

/-- A joiner at the instant its line time plus Θ reaches the commit boundary (R131, R155). Answers whether it has adopted the
survivor's line time. -/
def State.adoptJoiner (s : State) : Bool × State :=
  match s.so.plan with
  | some p =>
    if !p.joining then (false, s)
    else
      match s.so.syncs with
      | [(k1, t1), (k0, t0)] =>
        if k1 = k0 + 1 && s.on F.LINE_STAT_THETA_VALID then
          let cs := t1 - t0
          let b := t0 + (p.commit - k0) * cs
          let s := s.elapseLt ((b : Int) - s.bigTheta).toNat
          let eps := (b : Int) - s.clk.lt
          let s := (s.loadLt b).stepped eps true
          (true, (({ s with course := p.commit, base := b }).setLock true).commitPlan p)
        else (false, ((s.inc F.LINE_ADOPT_FAIL).irq 0x10 12).rejoin)
      | _ => (false, ((s.inc F.LINE_ADOPT_FAIL).irq 0x10 12).rejoin)
  | none => (false, s)

/-! ### Sync and foreign generations at a boundary (R124, R160) -/

/-- The closing course judged: SYNC_MISS, and REJOIN after two foreign courses. -/
def State.syncBoundary (s : State) : State :=
  let s := if s.isSource then s.set F.LINE_STAT_SYNC_MISS 0
    else if s.so.syncSeen then s.set F.LINE_STAT_SYNC_MISS 0
    else (s.inc F.LINE_STAT_SYNC_MISS).irq 0x10 10
  let n := if s.so.foreign && !s.so.syncSeen && !s.isSource && s.soState != 6 then s.so.foreigns + 1 else 0
  let s := { s with so := { s.so with foreigns := n, foreign := false, syncSeen := false, relayed := false, claimSent := false,
                                      silent := s.so.silent || (s.so.plan.map (·.joining)).getD false } }
  if 2 ≤ n then s.rejoin else s

/-! ### Strangers (R136 to R138) -/

/-- A stranger frame recorded under its key: reasons 0 TAG, 1 NOT_IN_TABLE, 2 SRC_RANGE, 3 INSTALLER, 4 DUPLICATE. -/
def State.stranger (s : State) (uid src port reason : Nat) : State :=
  let used := s.get F.ADM_STR_USED
  let keySrc := if uid = 0xFFFFFFFFFFFF then src else 0
  let s := if reason = 0 then s.inc F.ADM_STR_TAG else if reason = 3 then s else s.inc F.ADM_STR_TABLE
  match (List.range used).find? (fun e => s.get F.ADM_STR_UID_LO e + 2 ^ 32 * s.get F.ADM_STR_ID_UID e == uid
      && s.get F.ADM_STR_ID_PORT e == port && s.get F.ADM_STR_ID_SRC e == keySrc) with
  | some e => ((s.inc F.ADM_STR_SEEN_COUNT e).set F.ADM_STR_LAST s.course e).set F.ADM_STR_ID_REASON reason e
  | none =>
    if 16 ≤ used then s.inc F.ADM_STR_OVF
    else
      let e := used
      let s := (s.set F.ADM_STR_UID_LO (uid % 2 ^ 32) e).set F.ADM_STR_ID_UID (uid / 2 ^ 32) e
      let s := ((s.set F.ADM_STR_ID_PORT port e).set F.ADM_STR_ID_REASON reason e).set F.ADM_STR_ID_SRC keySrc e
      let s := ((s.set F.ADM_STR_SEEN_COUNT 1 e).set F.ADM_STR_SEEN_FIRST s.course e).set F.ADM_STR_LAST s.course e
      let s := (s.set F.ADM_STR_USED (used + 1)).irq 0x15 8
      if used = 15 then s.irq 0x15 10 else s

/-- The stranger table emptied. -/
def State.clearStrangers (s : State) : State := s.eraseRegs 0x15200 0x15300 |>.set F.ADM_STR_USED 0

/-- The UID a frame names in its payload, all ones where its function names none (R137). -/
def frameUid (f : List Nat) : Nat :=
  let p := fPayload f
  let u := wordsVal (p.take 3)
  match fKind f with
  | 3 => if fSlot f = 0x3FF then u else if 2 ≤ fFlags f then 0xFFFFFFFFFFFF else u
  | 5 => if fFlags f = 0 ∨ fFlags f = 3 then wordsVal ((p.drop 1).take 3) else 0xFFFFFFFFFFFF
  | _ => 0xFFFFFFFFFFFF

/-- The key slot under which a frame's tag passes (R135): current, next, and for SETOUT frames the installer slots. -/
def State.tagSlot (s : State) (f : List Nat) : Option Nat :=
  let n := 8 + fLen f
  let tag := f.getD n 0 * 65536 + f.getD (n + 1) 0
  let inst := s.on F.ADM_CFG_INST_EN && fKind f == 3
  ([0, 1] ++ (if inst then [2, 3] else [])).find? (fun k =>
    match s.key k with
    | some key => frameTag key (f.take n) == tag
    | none => false)

/-! ### Keys (R529, R530, R139) -/

/-- A 128-bit key installed into the slot KEYSEL names. -/
def State.installKey (s : State) (key : Nat) : State :=
  let k := s.get F.ADM_KEYSEL
  { s with keys := put k key s.keys }.orBit F.ADM_KEYSTAT_VALID k

/-- ADM_CMD.CLEAR_KEY: the slot KEYSEL names holds no valid key. -/
def State.clearKey (s : State) : State :=
  let k := s.get F.ADM_KEYSEL
  { s with keys := del k s.keys }.clrBit F.ADM_KEYSTAT_VALID k

/-- A soft reset of ADM (R530): keys, TX_SLOT and a pending roll are kept; KEYSEL returns to 0, and the parts held go with it
(R529). -/
def State.admReset (s : State) (locked : Bool) : State :=
  let tx := s.get F.ADM_CFG_TX_SLOT
  let en := s.get F.ADM_CFG_INST_EN
  let ad := s.get F.ADM_CFG_INST_ADMIT
  let valid := s.get F.ADM_KEYSTAT_VALID
  let roll := s.get F.ADM_KEYSTAT_ROLL_PENDING
  let s := { s with host := { s.host with parts := s.host.parts.filter (fun x => !([0x15108, 0x1510C, 0x15110].contains x.2.1)) } }
  let s := (((s.eraseRegs 0x15100 0x16000).set F.ADM_CFG_TX_SLOT tx).set F.ADM_KEYSTAT_VALID valid).set
    F.ADM_KEYSTAT_ROLL_PENDING roll
  if locked then (s.set F.ADM_CFG_INST_EN en).set F.ADM_CFG_INST_ADMIT ad else s

/-- SETO_CMD.START: a full probe on every up end port, then a report where anything differs; a hub configuration that
differs from the one in effect is such a difference (R140, R178). -/
def State.setoutStart (s : State) : State :=
  let ports := (List.range 8).filter (fun n => (n < 2 || bit s.so.hub 0) && s.up n)
  let s := ports.foldl (fun s n => s.startProbe n) s.triggered
  let hub := (s.on F.HUB_CFG_HUB_EN).toNat + 2 * (s.on F.HUB_CFG_END0_BRANCH).toNat + 4 * (s.on F.HUB_CFG_END1_BRANCH).toNat
  if hub != s.so.hub then
    s.report (s.reportPayload 3 0 0 0 0) 1 s.course
  else s

end Sys2Proof.Machine
end

