-- ==== Sys2Proof/Machine/Trowel.lean ====
section
/-! DEFINITION. The Trowel (chapter 07): the slice wheel, lanes, frame contexts, host queues and descriptors, course
images, the building of messages. -/

namespace Sys2Proof.Machine

/-! ### The slice wheel (R186, R189) -/

/-- The share a channel has in the shadow wheel: (entry, position) pairs among P1 to P7 that name it. -/
def State.shareOf (s : State) (c : Nat) : Nat :=
  ((List.range 64).map (fun e => ((List.range 7).filter (fun k => s.get (F.TRW_WHEEL_P k) e == c)).length)).sum

/-- The share a channel has in the active wheel, withdrawn positions left out (R193). -/
def State.shareNow (s : State) (c : Nat) : Nat :=
  let live := (List.range 7).filter (fun k => s.get (F.LANE_MAP_P (k + 1)) != 0xF)
  ((List.range 64).map (fun e => (live.filter (fun k => bits (s.get F.TRW_WHEEL_ACT e) (4 + 4 * k) 4 == c)).length)).sum

/-- The minimum share of a channel (table of R189). -/
def State.minShare (s : State) (c : Nat) : Nat :=
  if c < 8 then (match s.get F.SPK_CFG_GEN c with | 0 => 0 | 1 => 1 | 2 => 2 | _ => 8)
  else match c with
  | 8 => if s.boot.twin then 16 else 0
  | 9 => if (List.range 8).any (fun n => s.on F.LETH_P_CFG_EN n) then 16 else 0
  | 10 => if (List.range 4).any (fun n => s.on F.LC_P_CFG_EN n) then 2 else 0
  | 11 => 4 | 12 => 8 | _ => 0

/-- The first channel whose minimum a share function leaves unmet. -/
def State.shortOf (s : State) (share : Nat → Nat) : Option Nat := (List.range 13).find? (fun c => share c < s.minShare c)

/-- TRW_WHEEL_STAT.SHORT after a change of configuration or of the wheel (R189). -/
def State.wheelCheck (s : State) : State :=
  match s.shortOf s.shareNow with
  | some c => (if s.on F.TRW_WHEEL_STAT_SHORT then s else s.irq 0x18 13).set F.TRW_WHEEL_STAT_SHORT 1 |>.set F.TRW_WHEEL_STAT_CHANNEL c
  | none => s.set F.TRW_WHEEL_STAT_SHORT 0

/-- A received frame that the channel's share of a short wheel cannot finish in time (R189). -/
def State.fallsShort (s : State) (short : Bool) : Bool := short && s.on F.TRW_WHEEL_STAT_SHORT

/-- The shadow wheel becomes active at a wrap. -/
def State.wheelCopy (s : State) : State :=
  if !(s.on F.TRW_WHEEL_STAT_PENDING) then s
  else
    let s := (List.range 64).foldl (fun s e =>
      s.set F.TRW_WHEEL_ACT (s.get F.TRW_WHEEL_FILL e + ((List.range 7).map (fun k => s.get (F.TRW_WHEEL_P k) e * 16 ^ (k + 1))).sum) e) s
    ((s.set F.TRW_WHEEL_STAT_PENDING 0).irq 0x18 12).wheelCheck

/-! ### Lanes (R190 to R193) -/

/-- The position a lane is bound to. -/
def State.posOfLane (s : State) (l : Nat) : Option Nat := (List.range 8).find? (fun p => s.get (F.LANE_MAP_P p) == l)

/-- A lane works: ACTIVE, RESTING or TESTING. -/
def State.laneWorks (s : State) (l : Nat) : Bool := s.get (F.LANE_STATE_L l) < 3

/-- The rest lane takes the position of the next working lane above it, which becomes the rest lane (R191). -/
def State.rotateLanes (s : State) : State :=
  let r := s.get F.LANE_REST_REST
  if r = 0xF then s
  else match ((List.range 8).map (fun i => (r + 1 + i) % 9)).find? (fun l => s.laneWorks l && (s.posOfLane l).isSome) with
  | none => s
  | some l =>
    match s.posOfLane l with
    | none => s
    | some p =>
      let s := (s.set (F.LANE_MAP_P p) r).set F.LANE_REST_REST l
      let s := (s.set (F.LANE_STATE_L r) 0).set (F.LANE_STATE_L l) 1
      (s.inc F.LANE_ROT).irq 0x1A 8

/-- A further failing lane is removed: its position is rebound to the lane of the highest remaining position, which is
withdrawn (R193). -/
def State.withdrawLane (s : State) (l : Nat) : State :=
  match s.posOfLane l, ((List.range 8).reverse).find? (fun p => s.get (F.LANE_MAP_P p) != 0xF) with
  | some p, some h =>
    let s := s.set (F.LANE_MAP_P p) (s.get (F.LANE_MAP_P h))
    let s := (s.set (F.LANE_MAP_P h) 0xF).set F.LANE_REST_SHORT 1
    (s.set F.LANE_REST_WORKING (s.get F.LANE_REST_WORKING - 1)).wheelCheck
  | _, _ => s

/-- The start of entry 0: an applied wheel, a lane rotation and withdrawals take place (R189, R191, R193). While a rest-lane
slice is in progress nothing rotates. -/
def State.wheelWrap (s : State) : State :=
  let s := s.wheelCopy
  let s := if s.trw.rotate && !(s.test.slices.any (fun x => x.1 < 9)) then ({ s with trw := { s.trw with rotate := false } }).rotateLanes else s
  let ls := s.trw.withdraw
  ls.foldl (fun s l => s.withdrawLane l) { s with trw := { s.trw with withdraw := [] } }

/-- A lane is found failing (R193): the rest lane, or one of the bound lanes once no rest lane remains. -/
def State.laneFails (s : State) (l : Nat) : State :=
  let s := ((s.set (F.LANE_STATE_L l) 3).irq 0x1A 9).mark 0x061 [l, 0]
  if s.get F.LANE_REST_REST = l then
    let s := (s.set F.LANE_REST_REST 0xF).set F.LANE_REST_WORKING (s.get F.LANE_REST_WORKING - 1)
    { (s.set F.LANE_REST_DEGRADED 1).irq 0x1A 10 with trw := { s.trw with rotate := false } }
  else { s with trw := { s.trw with withdraw := s.trw.withdraw ++ [l] } }

/-! ### Frame contexts (R195 to R198) -/

/-- Contexts beyond the reserves, over the twelve channels. -/
def State.poolUsed (s : State) : Nat :=
  ((List.range 12).map (fun c => s.get F.TRW_CTX_INUSE c - s.get F.TRW_CTX_Q_RES c)).sum

/-- The unreserved pool. -/
def State.pool (s : State) : Nat := 16384 - ((List.range 12).map (fun c => s.get F.TRW_CTX_Q_RES c)).sum

/-- The lowest number from `n` on that `used` does not name, `fuel` numbers at most being looked at. -/
def lowestFree (used : List Nat) : Nat → Nat → Nat
  | 0, n => n
  | fuel + 1, n => if used.contains n then lowestFree used fuel (n + 1) else n

/-- The lowest context number that is free (R195). -/
def State.freeCtx (s : State) : Nat := lowestFree (s.trw.ctxs.map (·.num)) s.trw.ctxs.length 0

/-- A context allocated to channel `c` in state `st` for `what`, or the denial counted (R196). -/
def State.ctxAlloc (s : State) (c st what : Nat) : Bool × State :=
  let use := s.get F.TRW_CTX_INUSE c
  if s.get F.TRW_CTX_Q_MAX c ≤ use || (s.get F.TRW_CTX_Q_RES c ≤ use && s.pool ≤ s.poolUsed) then (false, s.inc F.TRW_CTX_DENY c)
  else
    let s := { s with trw := { s.trw with ctxs := s.trw.ctxs ++ [Ctx.mk s.freeCtx c st s.clk.now what [] none 0 0 0 []] } }
    let used := s.get F.TRW_CTX_USED_USED + 1
    let s := (s.set F.TRW_CTX_INUSE (use + 1) c).set F.TRW_CTX_USED_USED used
    (true, s.set F.TRW_CTX_USED_PEAK (max used (s.get F.TRW_CTX_USED_PEAK)))

/-- The contexts that serve `what` of channel `c` are freed. -/
def State.ctxFree (s : State) (c what : Nat) : State :=
  let mine (x : Ctx) : Bool := x.chan == c && x.slot == what
  let n := (s.trw.ctxs.filter mine).length
  let s := { s with trw := { s.trw with ctxs := s.trw.ctxs.filter (fun x => !(mine x)) } }
  (s.set F.TRW_CTX_INUSE (s.get F.TRW_CTX_INUSE c - n) c).set F.TRW_CTX_USED_USED (s.get F.TRW_CTX_USED_USED - n)

/-- A context's state. -/
def State.ctxState (s : State) (c what st : Nat) : State :=
  { s with trw := { s.trw with ctxs := s.trw.ctxs.map (fun x => if x.chan == c && x.slot == what then
      { x with state := st, since := s.clk.now } else x) } }

/-- The words of a frame have moved through its context, the first stamped at `stamp`, to `dest` (R195, R197). -/
def State.ctxMove (s : State) (c what : Nat) (f : List Nat) (dest : Option Nat) (stamp : Nat) : State :=
  { s with trw := { s.trw with ctxs := s.trw.ctxs.map (fun x => if x.chan == c && x.slot == what then
      { x with state := 2, since := s.clk.now, header := f.take 8, dest := dest, words := x.words + (f.length - 12)
               crc := crc32 (lineBytes (f.take (f.length - 2))), mac := wordsVal ((f.drop (f.length - 4)).take 2)
               stamps := x.stamps ++ [stamp] } else x) } }

/-- A context is allocated to a frame that has come in, takes its words and is checked (R195 to R197): BOUND, MOVING and
CHECKING in turn. -/
def State.ctxFrame (s : State) (c what : Nat) (f : List Nat) (stamp : Nat) : Bool × State :=
  let (got, s) := s.ctxAlloc c 1 what
  if got then (true, (s.ctxMove c what f none stamp).ctxState c what 3) else (false, s)

/-! ### A slice of the whole engine (R194) -/

/-- A slice isolates the engine: no lane runs. -/
def State.engineHeld (s : State) : Bool := s.test.slices.any (fun x => x.1 == 9)

/-! ### Relay requests (R187) -/

/-- A request placed in the order of P0: by arrival, then by port. -/
def insertReq (x : Nat × Nat) : List (Nat × Nat) → List (Nat × Nat)
  | [] => [x]
  | y :: t => if x.1 < y.1 || (x.1 == y.1 && x.2 ≤ y.2) then x :: y :: t else y :: insertReq x t

/-- The longest Trowel stage of requests in P0's order, in cycles of 1 ns: one decision starts in a cycle, `free` being the
next in which one may, and takes eight. -/
def longestStage : Nat → List (Nat × Nat) → Nat
  | _, [] => 0
  | free, x :: t => let start := max free x.1; max (start + 8 - x.1) (longestStage (start + 1) t)

/-- A relay request from port `n` whose W7 came in at `arrival` by the timebase: counted, and the longest stage kept. -/
def State.relayRequest (s : State) (n arrival : Nat) : State :=
  let rs := insertReq (arrival, n) s.trw.relays
  let s := { s with trw := { s.trw with relays := rs } }
  (s.inc F.TRW_RELAY_CNT).set F.TRW_RELAY_MAX (max (s.get F.TRW_RELAY_MAX) (longestStage 0 rs))

/-! ### Host memory (R450) -/

/-- A request to host memory for `[a, a + n)` may be issued. -/
def State.bmOk (s : State) (a n : Nat) : Bool :=
  let base := s.get F.HOST_BM_BASE_LO * 4096 + s.get F.HOST_BM_BASE_HI * 2 ^ 32
  let lim := s.get F.HOST_BM_LIM_LO * 4096 + s.get F.HOST_BM_LIM_HI_ADDR * 2 ^ 32
  s.on F.HOST_STAT_LINK_UP && s.host.bme && !(s.on F.HOST_STAT_D3HOT) && s.on F.HOST_BM_LIM_HI_EN && base ≤ a && a + n ≤ lim + 4096

/-- A posted write to host memory, or its denial. -/
def State.bmWrite (s : State) (a : Nat) (bs : List Nat) : Bool × State :=
  if s.bmOk a bs.length then (true, s.emit (.hostMem a bs)) else (false, s.inc F.HOST_BM_DENY)

/-! ### Queues (R199 to R204); transmit queues are 0 to 63, receive queues 64 to 127 -/

/-- The size of a ring. -/
def State.ringSize (s : State) (q : Nat) : Nat := 2 ^ s.get F.Q_BASE_HI_LOG2SIZE q

/-- The address of the descriptor at counter `i`. -/
def State.descAddr (s : State) (q i : Nat) : Nat :=
  s.get F.Q_BASE_LO q * 32 + s.get F.Q_BASE_HI_ADDR q * 2 ^ 32 + i % s.ringSize q * 32

/-- The counter of the next descriptor the node takes. -/
def State.nextDesc (s : State) (q : Nat) : Nat := look (s.get F.Q_IDX_HEAD q) q s.trw.fetched

/-- `n` bytes at `a` of a queue's ring or buffers: whether they could be read, and the bytes. Host memory's bytes are
those the completion carries. -/
def State.queueRead (s : State) (q a n : Nat) (host : List Nat) : Bool × List Nat × State :=
  if s.on F.Q_BASE_HI_LOC q then
    if !(s.bmOk a n) then (false, [], s.inc F.HOST_BM_DENY)
    else if host.length < n then (false, [], s.inc F.HOST_PCIE_ERR)
    else (true, host.take n, s)
  else
    let (st, b, s) := s.qRead 3 a n
    (decide (st = .ok), b, s)

/-- Bytes written to a queue's ring or buffers. -/
def State.queueWrite (s : State) (q a : Nat) (bs : List Nat) : Bool × State :=
  if s.on F.Q_BASE_HI_LOC q then s.bmWrite a bs
  else
    let (st, s) := s.qWrite 3 a bs
    (decide (st = .ok), s)

/-- A bit of a queue's DONE or ERR pair. -/
def State.queueBit (s : State) (q : Nat) (err : Bool) : State :=
  let i := q % 64
  let f := if q < 64 then (if err then (if i < 32 then F.TRWQ_TX_ERR_LO else F.TRWQ_TX_ERR_HI)
                           else if i < 32 then F.TRWQ_TX_DONE_LO else F.TRWQ_TX_DONE_HI)
    else if err then (if i < 32 then F.TRWQ_RX_ERR_LO else F.TRWQ_RX_ERR_HI)
    else if i < 32 then F.TRWQ_RX_DONE_LO else F.TRWQ_RX_DONE_HI
  s.orBit f (i % 32)

/-- A completed descriptor written back: first every field the node sets, then the CTRL word. HEAD advances after it, DONE and
the interrupt are raised (R200, R201). -/
def State.writeBack (s : State) (q : Nat) (d : Done) : State :=
  let o := if q < 64 then 0x14 else 0xE
  let (_, s) := s.queueWrite q (s.descAddr q d.idx + o) (d.desc.drop o)
  let (_, s) := s.queueWrite q (s.descAddr q d.idx + 0xC) ((d.desc.drop 0xC).take 2)
  let s := (s.set F.Q_IDX_HEAD (d.idx + 1) q).queueBit q false
  let ok := leVal ((d.desc.drop 0x14).take 2) == 0
  let s := if ok then s else
    let s := s.queueBit q true
    if q < 64 then s.inc F.TRWQ_TX_ERRCNT else s
  if bit (d.desc.getD 0xC 0) 1 then
    let s := s.irq 0x19 (if q < 64 then 8 else 9)
    if ok then s else s.irq 0x19 (if q < 64 then 10 else 11)
  else s

/-- Completions at the head of the ring written in ring order. -/
def State.flushDone (s : State) (q : Nat) : Nat → State
  | 0 => s
  | n + 1 =>
    match s.trw.done.find? (fun p => p.1 == q && p.2.idx == s.get F.Q_IDX_HEAD q) with
    | none => s
    | some p => State.flushDone (({ s with trw := { s.trw with done := s.trw.done.erase p } }).writeBack q p.2) q n

/-- A descriptor finished: its fields set and OWN cleared, written once those ahead of it are (R200, R201). -/
def State.complete (s : State) (q idx : Nat) (desc : List Nat) (status msgid stamp : Nat) : State :=
  let d := desc.take 0xC ++ [desc.getD 0xC 0 / 2 * 2] ++ (desc.drop 0xD).take 7 ++ le 2 status ++ le 2 msgid ++ le 8 stamp
  ({ s with trw := { s.trw with done := s.trw.done ++ [(q, Done.mk idx d)] } }).flushDone q 4096

/-- The own slots of a stream: MSG slots and owned quoins (R202). -/
def State.msgSlots (s : State) (stream : Nat) : List Slot :=
  (List.range s.sched.slots.length).filterMap (fun i =>
    match s.slot i with
    | some e => if (e.kind = 7 || e.kind = 9) && e.stream = stream && s.ownerOf i = s.pos then some e else none
    | none => none)

/-- Words per fragment on a stream's own slots; `none` without one (R99). -/
def State.fragWords (s : State) (stream : Nat) : Option Nat :=
  match s.msgSlots stream with
  | [] => none
  | e :: t => some (t.foldl (fun m e => min m (e.maxLen - 2)) (e.maxLen - 2))

/-- The next identifier of a stream taken. -/
def State.takeId (s : State) (stream : Nat) : Nat × State :=
  let n := s.streamNext stream
  (n.2, { s with trw := { s.trw with streams := put stream (n.1, (n.2 + 1) % 65536) s.trw.streams } })

/-- The status a message of `words` words would be refused with, 0 where it can be sent. -/
def State.msgStatus (s : State) (stream len : Nat) : Nat :=
  if len = 0 ∨ len % 2 = 1 then 2
  else match s.fragWords stream with
  | none => 6
  | some c => if 256 * c < len / 2 then 1 else 0

/-- Whether the context of a transmit descriptor's message or frame can be taken. -/
def queueCtx (q i : Nat) : Nat := 0x400 + q * 65536 + i

/-- A class-0 transmit descriptor taken (R202). -/
def State.takeMsg (s : State) (q i : Nat) (d : List Nat) (host : List Nat) : State :=
  let stream := s.get F.Q_BIND_TARGET q
  let len := leVal ((d.drop 8).take 4)
  let addr := leVal (d.take 8)
  let st := s.msgStatus stream len
  if st != 0 || 0xFFFFFF < len then s.complete q i d (if 0xFFFFFF < len then 2 else st) 0 0
  else
    let (ok, b, s) := s.queueRead q addr len host
    if !ok then s.complete q i d 3 0 0
    else
      let (id, s) := s.takeId stream
      let (got, s) := s.ctxAlloc 0xB 1 (queueCtx q i)
      if !got then s
      else { s with trw := { s.trw with tx := s.trw.tx ++ [TxMsg.mk q i stream (d.getD 0xE 0 % 64) id (leWords b) 0 0 d 0] } }

/-- The bytes of a CAN record's data by its DLC and format (R220). -/
def dlcLen (dlc : Nat) (fdf : Bool) : Nat :=
  if dlc ≤ 8 then dlc else if !fdf then 8 else match dlc with
  | 9 => 12 | 10 => 16 | 11 => 20 | 12 => 24 | 13 => 32 | 14 => 48 | _ => 64

/-- The status of a local frame's buffer (R219, R220). -/
def localStatus (cls len : Nat) (b : List Nat) : Nat :=
  if cls = 1 then (if 14 ≤ len ∧ len ≤ (if b.getD 12 0 = 0x81 ∧ b.getD 13 0 = 0 then 1518 else 1514) then 0 else 2)
  else
    let w := leVal (b.take 4)
    if len = 8 + dlcLen (b.getD 4 0 % 16) (bit w 31) && !(bit w 30 && bit w 31) then 0 else 2

/-- Bytes a transmit buffer of an LE port holds, frames that a LC port's holds (R227). -/
def State.localUsed (s : State) (cls port : Nat) : Nat :=
  if cls = 1 then ((s.loc.ethTx.filter (fun p => p.1 == port)).map (fun p => p.2.data.length)).sum
  else (s.loc.canTx.filter (fun p => p.1 == port)).length

/-- A class-1 or class-2 transmit descriptor taken (R219, R220, R227): it waits where the port's buffer has no room. -/
def State.takeLocal (s : State) (q i : Nat) (d : List Nat) (host : List Nat) : State :=
  let cls := s.get F.Q_BIND_CLASS q
  let port := s.get F.Q_BIND_TARGET q
  let len := leVal ((d.drop 8).take 4)
  let back (s : State) : State := { s with trw := { s.trw with fetched := put q i s.trw.fetched } }
  if len < 8 || 1518 < len then s.complete q i d 2 0 0
  else
    let full := if cls = 1 then 24576 < s.localUsed 1 port + len else 64 ≤ s.localUsed 2 port
    if full then back s
    else
      let (ok, b, s) := s.queueRead q (leVal (d.take 8)) len host
      if !ok then s.complete q i d 3 0 0
      else if localStatus cls len b != 0 then s.complete q i d 2 0 0
      else
        let (got, s) := s.ctxAlloc (if cls = 1 then 9 else 0xA) 1 (queueCtx q i)
        if !got then back s
        else
          let t : LocalTx := ⟨q, d.getD 0xE 0 % 4, b, i, d⟩
          if cls = 1 then { s with loc := { s.loc with ethTx := s.loc.ethTx ++ [(port, t)] } }
          else { s with loc := { s.loc with canTx := s.loc.canTx ++ [(port, t)] } }

/-- The HOSTQ channel takes the next owned descriptor of transmit queue `q` (R196, R201). `host` is what the host's
memory answers: the descriptor, then the buffer. -/
def State.fetchDesc (s : State) (q : Nat) (host : List Nat) : State :=
  let i := s.nextDesc q
  if !(s.on F.Q_BASE_HI_EN q) || i = s.get F.Q_IDX_TAIL q || 64 ≤ q || s.trw.closing.contains q || s.engineHeld then s
  else
    let (ok, d, s) := s.queueRead q (s.descAddr q i) 32 host
    let next (s : State) : State := { s with trw := { s.trw with fetched := put q ((i + 1) % 65536) s.trw.fetched } }
    if !ok then (next s).complete q i (List.replicate 32 0) 3 0 0
    else if !(bit (d.getD 0xC 0) 0) then s
    else if s.get F.Q_BIND_CLASS q = 0 then
      let use := s.get F.TRW_CTX_INUSE 0xB
      if s.get F.TRW_CTX_Q_MAX 0xB ≤ use || (s.get F.TRW_CTX_Q_RES 0xB ≤ use && s.pool ≤ s.poolUsed) then s.inc F.TRW_CTX_DENY 0xB
      else (next s).takeMsg q i d (host.drop 32)
    else (next s).takeLocal q i d (host.drop 32)

/-- Data offered to receive queue `q` (R200, R202): whether a descriptor took it, and the node after. `desc` is the descriptor
as host memory answers it. -/
def State.rxOffer (s : State) (q : Nat) (data : List Nat) (src flags msgid stamp : Nat) (desc : List Nat) : Bool × State :=
  let i := s.get F.Q_IDX_HEAD q
  let none_ (s : State) : Bool × State := (false, (s.inc F.TRWQ_RX_NODESC).irq 0x19 12)
  if i = s.get F.Q_IDX_TAIL q then none_ s
  else
    let (ok, d, s) := s.queueRead q (s.descAddr q i) 32 desc
    if !ok || !(bit (d.getD 0xC 0) 0) then none_ s
    else
      let size := leVal ((d.drop 8).take 3)
      let late := !(s.on F.Q_BASE_HI_LOC q) && s.qHeld (leVal (d.take 8)) data.length
      let flags := if late && flags % 2 = 0 then flags + 1 else flags
      let fill (d : List Nat) : List Nat := d.take 0xE ++ [src % 64, flags] ++ le 4 data.length ++ d.drop 0x14
      if size < data.length then (true, s.complete q i (fill d) 5 msgid stamp)
      else
        let (ok, s) := s.queueWrite q (leVal (d.take 8)) data
        (true, s.complete q i (fill d) (if ok then 0 else 3) msgid stamp)

/-- Data delivered to receive queue `q`. -/
def State.rxDeliver (s : State) (q : Nat) (data : List Nat) (src flags msgid stamp : Nat) (desc : List Nat) : State :=
  (s.rxOffer q data src flags msgid stamp desc).2

/-- The descriptor at counter `i` of queue `q` as the node holds it: of a message or a local frame it has taken. -/
def State.takenDesc (s : State) (q i : Nat) : Option (List Nat) :=
  match s.trw.tx.find? (fun t => t.q == q && t.idx == i) with
  | some t => some t.desc
  | none => (((s.loc.ethTx ++ s.loc.canTx).map (·.2)).find? (fun t => t.src == q && t.idx == i)).map (·.desc)

/-- The descriptor at counter `i` of queue `q` for its write-back: as taken, or as it is read now. `host` is what host memory
answers; where nothing is read the fields the node does not set are not written. -/
def State.ownedDesc (s : State) (q i : Nat) (host : List Nat) : List Nat × State :=
  match s.takenDesc q i with
  | some d => (d, s)
  | none =>
    let (ok, d, s) := s.queueRead q (s.descAddr q i) 32 host
    (if ok then d else List.replicate 32 0, s)

/-- The descriptors of a queue that stops, from counter `i` on: one finished early keeps its own status, every other one still
owned is written back ABORTED, in ring order (R204). -/
def State.abortFrom (q : Nat) : Nat → Nat → List Nat → State → State
  | 0, _, _, s => s
  | n + 1, i, host, s =>
    if s.trw.done.any (fun p => p.1 == q && p.2.idx == i) then State.abortFrom q n ((i + 1) % 65536) host (s.flushDone q 1)
    else
      let taken := (s.takenDesc q i).isSome
      let (d, s) := s.ownedDesc q i host
      State.abortFrom q n ((i + 1) % 65536) (if taken then host else host.drop 32) (s.complete q i d 4 0 0)

/-- A queue has stopped: its contexts are freed, what it had taken is dropped, EN reads 0, and unless the block is being reset
every descriptor still owned is written back (R204). -/
def State.queueStop (s : State) (q : Nat) (silent : Bool) (host : List Nat) : State :=
  let mine (x : Ctx) : Bool := 0x400 + q * 65536 ≤ x.slot && x.slot < 0x400 + (q + 1) * 65536 && (x.chan == 0xB || x.chan == 9 || x.chan == 0xA)
  let s := s.trw.ctxs.foldl (fun s x => if mine x then s.ctxFree x.chan x.slot else s) s
  let head := s.get F.Q_IDX_HEAD q
  let n := min ((s.get F.Q_IDX_TAIL q + 65536 - head) % 65536) (s.ringSize q)
  let s := if silent then s else State.abortFrom q n head host s
  { s.set F.Q_BASE_HI_EN 0 q with
    trw := { s.trw with tx := s.trw.tx.filter (fun t => t.q != q), fetched := del q s.trw.fetched
                        done := s.trw.done.filter (fun p => p.1 != q), closing := s.trw.closing.filter (· != q) }
    loc := { s.loc with ethTx := s.loc.ethTx.filter (fun p => p.2.src != q), canTx := s.loc.canTx.filter (fun p => p.2.src != q) } }

/-- Q_BASE_HI.EN from 1 to 0 (R204): no further descriptor is taken. With a fragment bound to its slot the queue stops at the
fragment boundary, and EN still reads 1; otherwise it stops at once. -/
def State.queueDisable (s : State) (q : Nat) (silent : Bool) (host : List Nat) : State :=
  if !silent && s.trw.tx.any (fun t => t.q == q && decide (t.frag < t.bound)) then
    { s.set F.Q_BASE_HI_EN 1 q with trw := { s.trw with closing := q :: s.trw.closing } }
  else s.queueStop q silent host

/-- Queues whose fragment boundary has come stop. -/
def State.closeQueues (s : State) : State :=
  s.trw.closing.foldl (fun s q =>
    if s.trw.tx.any (fun t => t.q == q && decide (t.frag < t.bound)) then s else s.queueStop q false []) s

/-! ### Course images (R205 to R208) -/

/-- Where buffer `b` lies: 0 TX0, 1 TX1, 2 RX0, 3 RX1. -/
def State.imgBuf (s : State) (b : Nat) : Nat := s.get F.TRW_IMG_BASE * 65536 + b * (s.get F.TRW_IMG_SIZE * 16384)

/-- The offset of slot `i`'s data area in buffer `b`: `none` where it is not PROC or is OVERFLOW, by its size or because
it, or the buffer's header or directory, meets a guarded area (R282). -/
def State.imgOfs (s : State) (b i : Nat) : Option Nat :=
  let size (e : Slot) : Nat := if e.kind = 6 then (2 * e.maxLen + 7) / 8 * 8 else 0
  let o := 0x2040 + ((s.sched.slots.take i).map size).sum
  match s.slot i with
  | some e =>
    if e.kind = 6 && o + size e ≤ s.get F.TRW_IMG_SIZE * 16384 && (guardWriter (s.imgBuf b) 0x2040).isNone
      && (guardWriter (s.imgBuf b + o) (size e)).isNone then some o else none
  | none => none

/-- Slot `i` is a PROC slot that is OVERFLOW in buffer `b`. -/
def State.imgOverflow (s : State) (b i : Nat) : Bool :=
  (match s.slot i with | some e => e.kind == 6 | none => false) && (s.imgOfs b i).isNone

/-- Some PROC slot is OVERFLOW. -/
def State.anyOverflow (s : State) : Bool :=
  (List.range s.sched.slots.length).any (fun i => (List.range 4).any (fun b => s.imgOverflow b i))

/-- A buffer header (table of R205). -/
def State.imgHeader (s : State) (st course gen pos sched boundary : Nat) : List Nat :=
  let _ := s
  le 2 0xC0E5 ++ [st, 0] ++ le 4 course ++ le 2 gen ++ le 2 pos ++ le 4 sched ++ le 8 boundary ++ List.replicate 40 0

/-- Bytes of a buffer written by the Trowel. -/
def State.imgWrite (s : State) (b ofs : Nat) (bs : List Nat) : State := (s.qWrite 3 (s.imgBuf b + ofs) bs).2

/-- Directory entry `i` of a transmit buffer for the course of `next`: offset and OWN, the host's LEN kept (R208). -/
def State.dirEntry (s next : State) (b i : Nat) : State :=
  let own := (match next.slot i with | some e => e.kind == 6 | none => false) && next.ownerOf i == next.pos
  let s := s.imgWrite b (0x40 + 8 * i) (le 4 ((next.imgOfs b i).getD 0xFFFFFFFF))
  s.imgWrite b (0x46 + 8 * i) (le 2 (own.toNat * 128 + (next.imgOverflow b i).toNat * 64))

/-- The header and directory of transmit buffer `b` for course `c`; `next` gives the composition of that course (R208). -/
def State.txDirectory (s next : State) (b c : Nat) : State :=
  let s := s.imgWrite b 0 (s.imgHeader 0 c next.gen next.pos next.sched.id (s.base + (c - s.course) * s.courseNs))
  (List.range 1024).foldl (fun s i => s.dirEntry next b i) s

/-- The host-owned transmit buffer. -/
def State.txHost (s : State) : Nat := s.get F.TRW_IMG_STAT_TX_HOST
/-- The receive buffer that fills. -/
def State.rxFilling (s : State) : Nat := 2 + (1 - s.get F.TRW_IMG_STAT_RX_STABLE)
/-- The receive buffer that is STABLE. -/
def State.rxStable (s : State) : Nat := 2 + s.get F.TRW_IMG_STAT_RX_STABLE

/-- A plan's commit course is the course the host's buffer serves: its directory is rewritten for the plan (R208). -/
def State.planDirectory (s next : State) (commit : Nat) : State :=
  if commit = s.course + 1 then (s.txDirectory next s.txHost commit).irq 0x18 10 else s

/-- The status word of slot `i` in a buffer. -/
def State.slotStatus (s : State) (b i : Nat) : Nat := leVal (s.qBytes (s.imgBuf b + 0x46 + 8 * i) 2)

/-- A null frame with cause HOST_LATE goes out: a course in which one does counts once (R207). -/
def State.hostLate (s : State) : State :=
  if s.trw.lateSent then s else ({ s with trw := { s.trw with lateSent := true } }.inc F.TRW_HOST_LATE).irq 0x18 9

/-- The images swap at a boundary (R33 step 5, R206, R207): `s` already has the opening course's number and boundary,
`old` is the node in the course that closes, and `next` as the course after the opening one will have it. -/
def State.swapImages (s old next : State) : State :=
  let fill := s.rxFilling
  let stab := s.rxStable
  let s := (List.range old.sched.slots.length).foldl (fun s i =>
    match old.slot i with
    | some e => if e.kind = 6 && old.ownerOf i != old.pos && s.slotStatus fill i % 8 = 0
        && !(bit (s.slotStatus fill i) 6) then s.imgWrite fill (0x46 + 8 * i) (le 2 32) else s
    | none => s) s
  let s := s.imgWrite fill 0 (s.imgHeader 3 old.course old.gen old.pos old.sched.id old.base)
  let s := s.imgWrite stab 0 (s.imgHeader 2 s.course s.gen s.pos s.sched.id s.base)
  let s := (List.range 1024).foldl (fun s i =>
    (s.imgWrite stab (0x40 + 8 * i) (le 4 ((s.imgOfs stab i).getD 0xFFFFFFFF))).imgWrite stab (0x44 + 8 * i)
      (le 4 ((s.imgOverflow stab i).toNat * 64 * 65536))) s
  let s := s.setB F.TRW_IMG_STAT_OVERFLOW s.anyOverflow
  let s := s.set F.TRW_IMG_STAT_RX_STABLE (1 - s.get F.TRW_IMG_STAT_RX_STABLE)
  let s := if s.on F.TRW_IMG_STAT_ARMED && s.trw.imgFor = some s.course then
      let host := s.txHost
      let s := s.imgWrite host 2 [1]
      let s := (s.set F.TRW_IMG_STAT_TX_HOST (1 - host)).set F.TRW_IMG_STAT_ARMED 0
      let s := { s with trw := { s.trw with imgFor := none, late := false } }
      s.txDirectory next (1 - host) (s.course + 1)
    else { s with trw := { s.trw with late := true, lateSent := false } }
  ({ s with trw := { s.trw with bufTx := [] } }.set F.TRW_IMG_COURSE s.course).irq 0x18 8

/-- A slot of the receive image written by a frame (R205, R206): status bits, LEN and data. -/
def State.storeRx (s : State) (b i status : Nat) (data : List Nat) : State :=
  match s.imgOfs b i with
  | none => s.inc F.TRW_IMG_OVF
  | some o =>
    let late := s.qHeld (s.imgBuf b + o) (2 * data.length)
    let (st, s) := s.qWrite 3 (s.imgBuf b + o) (leBytes data)
    let status := if st != .ok then 32 else if late && status / 2 % 2 = 0 then status + 2 else status
    let s := s.imgWrite b (0x44 + 8 * i) (le 2 data.length)
    s.imgWrite b (0x46 + 8 * i) (le 2 status)

/-- TRW_IMG_READY accepted for course `c` (R207). -/
def State.imageReady (s : State) (c : Nat) : State :=
  { s.set F.TRW_IMG_STAT_ARMED 1 with trw := { s.trw with imgFor := some c } }

/-! ### Binding a context for an own slot (R205, R207, R209, R87) -/

/-- A bound context's frame, or the cause of the null frame in its place: kind, flags, payload. -/
def State.bound (s : State) (i : Nat) : Option (List Nat) := (s.trw.bufTx.find? (fun p => p.1 == i)).map (·.2)

/-- What an own PROC slot sends: kind 0 with its payload, or kind 4 (NULL) with its cause. -/
def State.procFrame (s : State) (i : Nat) (e : Slot) (deferred : Bool) : List Nat × State :=
  if s.on F.SETO_STAT_SCHED_MISMATCH then ([4, 0], s)
  else if s.trw.late then ([4, 1], s)
  else match s.imgOfs (1 - s.txHost) i with
  | none => ([4, 0], s.inc F.TRW_IMG_OVF)
  | some o =>
    let b := 1 - s.txHost
    let len := leVal (s.qBytes (s.imgBuf b + 0x44 + 8 * i) 2)
    if e.maxLen < len then ([4, 0], s)
    else
      let deferred := deferred || s.qHeld (s.imgBuf b + o) (2 * len)
      let (st, d, s) := s.qRead 3 (s.imgBuf b + o) (2 * len)
      if st = .ok then ([0, if deferred then 2 else 0] ++ leWords d, s) else ([4, 0], s)

/-- The fragments of a message. -/
def TxMsg.frags (t : TxMsg) (c : Nat) : Nat := max 1 ((t.words.length + c - 1) / c)

/-- The message whose next fragment is to be bound to an own slot of a stream: the first that has one left (R202). -/
def State.nextFrag (s : State) (stream c : Nat) : Option TxMsg :=
  s.trw.tx.find? (fun t => t.stream == stream && decide (t.bound < t.frags c) && !(s.trw.closing.contains t.q && t.bound == t.frag))

/-- What an own slot of a stream sends: the next fragment not yet bound of the stream's messages in order, or a null frame
(R99, R202). -/
def State.msgFrame (s : State) (e : Slot) : List Nat × State :=
  if s.on F.SETO_STAT_SCHED_MISMATCH then ([4, 0], s)
  else match s.fragWords e.stream with
  | none => ([4, 0], s)
  | some c =>
    match s.nextFrag e.stream c with
    | none => ([4, 0], s)
    | some t =>
      let n := t.frags c
      let flags := if n = 1 then 0 else if t.bound = 0 then 1 else if t.bound + 1 = n then 3 else 2
      ([1, flags, t.id, t.bound * 256 + (n - 1)] ++ (t.words.drop (t.bound * c)).take c,
       { s with trw := { s.trw with tx := s.trw.tx.map (fun x => if x = t then { x with bound := x.bound + 1 } else x) } })

/-- A context for own slot `i` is bound at TRW_TX_LEAD before its start. `held` where its payload was read by a transfer
a self-test slice held (R209). -/
def State.bindSlot (s : State) (i : Nat) (held : Bool) : State :=
  match s.slot i with
  | none => s
  | some e =>
    let at_ := s.base + e.start - s.get F.TRW_TX_LEAD * 1000
    if s.ownerOf i != s.pos || !(e.kind = 6 || e.kind = 7 || e.kind = 9) || s.base + e.start ≤ s.clk.lt || s.isOut || s.engineHeld then s
    else
      let s := s.elapseLt at_
      let (ok, s) := s.ctxAlloc (s.serving.headD 0) 1 i
      if !ok then { s with trw := { s.trw with bufTx := put i [4, 0] s.trw.bufTx } }
      else
        let (f, s) := if e.kind = 6 then s.procFrame i e held else s.msgFrame e
        { s with trw := { s.trw with bufTx := put i f s.trw.bufTx } }

/-- The message of a stream that a fragment with identifier `id` belongs to. -/
def State.sendingMsg (s : State) (stream id : Nat) : Option TxMsg := s.trw.tx.find? (fun t => t.stream == stream && t.id == id)

/-- A fragment `f` of message `id` of a stream has gone out with its W0 stamped `stamp`: the message moves on, and ends with its
last fragment (R201, R202); a queue that was disabled meanwhile stops here (R204). -/
def State.fragSent (s : State) (stream id : Nat) (f : List Nat) (stamp : Nat) : State :=
  match s.sendingMsg stream id, s.fragWords stream with
  | some t, some c =>
    let stamp0 := if t.frag = 0 then stamp else t.stamp
    let s := s.ctxMove 0xB (queueCtx t.q t.idx) f none stamp
    if s.trw.closing.contains t.q then
      ({ s with trw := { s.trw with tx := s.trw.tx.map (fun (x : TxMsg) => if x = t then { x with frag := x.frag + 1, stamp := stamp0 } else x) } }).closeQueues
    else if t.frag + 1 < t.frags c then
      let s := s.ctxState 0xB (queueCtx t.q t.idx) 5
      { s with trw := { s.trw with tx := s.trw.tx.map (fun x => if x = t then { x with frag := x.frag + 1, stamp := stamp0 } else x) } }
    else
      let s := { s with trw := { s.trw with tx := s.trw.tx.erase t } }
      if t.q < 64 then
        let s := ((s.ctxState 0xB (queueCtx t.q t.idx) 3).ctxState 0xB (queueCtx t.q t.idx) 4).ctxFree 0xB (queueCtx t.q t.idx)
        s.complete t.q t.idx t.desc 0 t.id (if bit (t.desc.getD 0xC 0) 2 then stamp0 else 0)
      else s
  | _, _ => s

/-- Messages in progress begin again from fragment 0 with the same identifier (R100, R203). -/
def State.restartMsgs (s : State) : State :=
  { s with trw := { s.trw with tx := s.trw.tx.map (fun t => { t with frag := 0, bound := 0 }) } }

/-- At a boundary no slot is bound any more: fragments that found no slot start are bound again, and queues that waited for one
stop. -/
def State.unbindFrags (s : State) : State :=
  ({ s with trw := { s.trw with tx := s.trw.tx.map (fun (t : TxMsg) => { t with bound := t.frag }) } }).closeQueues

/-- Contexts that have stayed in one state for TRW_CTX_AGE are reclaimed (R198). -/
def State.reclaim (s : State) : State :=
  let age := s.get F.TRW_CTX_AGE * 1000000
  let old := s.trw.ctxs.filter (fun x => x.since + age ≤ s.clk.now)
  if old.isEmpty then s
  else
    let s := (old.foldl (fun s x => s.ctxFree x.chan x.slot) s).add F.TRW_CTX_RECLAIM old.length
    let s := s.irq 0x18 11
    let dead := s.trw.tx.filter (fun t => old.any (fun x => x.chan == 0xB && x.slot == queueCtx t.q t.idx))
    let s := { s with trw := { s.trw with tx := s.trw.tx.filter (fun t => !(dead.contains t))
                                          rx := s.trw.rx.filter (fun m => !(old.any (fun x => x.state == 5 && x.slot == 0x10000000 + m.src * 65536 + m.stream))) } }
    let s := dead.foldl (fun s t => if t.q < 64 then s.complete t.q t.idx t.desc 7 t.id 0 else s) s
    let lost (c : Nat) (p : Nat × LocalTx) : Bool := p.2.src < 64 && old.any (fun x => x.chan == c && x.slot == queueCtx p.2.src p.2.idx)
    let gone := s.loc.ethTx.filter (lost 9) ++ s.loc.canTx.filter (lost 0xA)
    let s := { s with
      trw := { s.trw with bufTx := s.trw.bufTx.map (fun b => if old.any (fun x => x.chan < 8 && x.slot == b.1) then (b.1, [4, 0]) else b) }
      loc := { s.loc with ethTx := s.loc.ethTx.filter (fun p => !(lost 9 p)), canTx := s.loc.canTx.filter (fun p => !(lost 0xA p)) } }
    gone.foldl (fun s p => s.complete p.2.src p.2.idx p.2.desc 7 0 0) s

end Sys2Proof.Machine
end

