-- ==== Sys2Proof/Machine/Load.lean ====
section
/-! DEFINITION. Load channels (chapter 12): conversion and scaling, windows and verdicts, the command latch, the lamp,
heater and feed engines, and what a channel carries across a twin changeover. -/

namespace Sys2Proof.Machine

/-! ### Channels -/

/-- Channel `n`. -/
def State.chan (s : State) (n : Nat) : LChan := s.loads.getD n LChan.zero

/-- Channel `n` replaced. -/
def State.setChan (s : State) (n : Nat) (c : LChan) : State := { s with loads := s.loads.set n c }

/-- The instance of an LDS field that belongs to channel `n`: block i of page LDS k for n = 12k + i (R315). -/
def ldsIx (n : Nat) : Nat := 32 * (n / 12) + n % 12

/-- A field of channel `n`'s block. -/
def State.lds (s : State) (f : Fld) (n : Nat) : Nat := s.get f (ldsIx n)
/-- The field as a truth value. -/
def State.ldsOn (s : State) (f : Fld) (n : Nat) : Bool := s.lds f n != 0
/-- The field written. -/
def State.setLds (s : State) (f : Fld) (n v : Nat) : State := s.set f v (ldsIx n)
/-- Page LDS k of channel `n`. -/
def ldsPage (n : Nat) : Nat := 0x29 + n / 12

/-- KIND of channel `n`: 0 NONE, 1 LAMP, 2 HEATER, 3 FEED (R327). -/
def State.kind (s : State) (n : Nat) : Nat := s.lds F.LDS_CFG_KIND n

/-- The channel's page is disabled or in soft reset (R316). -/
def State.chanOff (s : State) (n : Nat) : Bool :=
  !(s.on F.PG_CTRL_EN (ldsPage n)) || s.host.reset.any (fun r => r.1 == ldsPage n)

/-- The load island runs. -/
def State.loadsRun (s : State) : Bool := !(s.islandAsleep 27)

/-- LDC_STAT.HIZ: gates are high-impedance (R317). -/
def State.hiZ (s : State) : Bool :=
  decide (3 ≤ s.pwrAt 2) || (s.boot.twin && !(s.drives)) || (s.boot.twin && !s.twin.twAct) || s.isl.started < 8
    || (s.boot.twin && s.isl.frozen.contains 27)

/-- The channel holds the SAFE level (R316, R326). -/
def State.safeLevel (s : State) (n : Nat) : Bool := s.chanOff n || s.pwrAt 2 == 2 || (s.chan n).toSafe || s.isl.frozen.contains 27

/-- The level of LD_GATE[n]; `none` is high-impedance (R316, R317). -/
def State.ldGate (s : State) (n : Nat) : Option Bool :=
  if s.hiZ then none
  else some ((s.kind n != 0 && (if s.safeLevel n then s.ldsOn F.LDS_CFG_SAFE n else s.ldsOn F.LDS_STAT_GATE n))
    != s.ldsOn F.LDS_CFG_POL n)

/-! ### Commands (R324 to R326) -/

/-- A command word commands its kind on: a LAMP with DUTY 0 counts as OFF (R325). -/
def wordOn (kind w : Nat) : Bool := w % 4 != 0 && !(kind == 1 && bits w 2 10 == 0)

/-- An image word is valid for the kind (R324). -/
def wordValid (kind w : Nat) : Bool :=
  (match kind with | 0 => w % 4 == 0 | 1 => true | 2 => w % 4 != 3 | _ => decide (w % 4 < 2)) && bits w 2 10 ≤ 1000 && w / 16384 == 0

/-- The channel is judged as commanded on (R326, R328). -/
def State.cmdOn (s : State) (n : Nat) : Bool :=
  if (s.chan n).toSafe then s.ldsOn F.LDS_CFG_SAFE n else wordOn (s.kind n) (s.lds F.LDS_CMD_NOW_CMD n)

/-- What a lamp's PWM runs: mode and duty. -/
def State.lampRuns (s : State) (n : Nat) : Nat × Nat :=
  let c := s.chan n
  if c.toSafe || s.chanOff n then (if s.ldsOn F.LDS_CFG_SAFE n then (1, 1000) else (0, 0))
  else if c.held || !(wordOn 1 c.eff) then (0, 0) else (c.eff % 4, bits c.eff 2 10)

/-- DUTY × PWM_US / 1,000 µs in ns, rounded to 5 ns (R331). -/
def State.onTime (s : State) (n duty : Nat) : Nat := (duty * s.lds F.LDS_PWM_PWM_US n + 2) / 5 * 5

/-- The lamp's command is one of R333: on-time below BLANK_US + 40 µs. -/
def State.unprovable (s : State) (n w : Nat) : Bool :=
  s.kind n == 1 && wordOn 1 w && s.onTime n (bits w 2 10) < (s.lds F.LDS_PWM_BLANK_US n + 40) * 1000

/-! ### Status (R329) -/

/-- The status a channel reports. -/
def LChan.shown (c : LChan) : Nat := if c.stuck then 10 else c.status

/-- A change of the status shown is reported; `late` tells that a result that a slice held decided it (R24, R345). -/
def State.chanReport (s : State) (n old : Nat) (late : Bool := false) : State :=
  let new := (s.chan n).shown
  let s := s.setLds F.LDS_STAT_STATUS n new
  if new = old then s else
    let s := if n < 32 then s.orBit F.LDC_CHG_LO n else s.orBit F.LDC_CHG_HI (n - 32)
    let s := (s.irq 0x28 8).irq (ldsPage n) 8
    if 5 ≤ new && new ≤ 13 then s.mark 0x070 [n, new, old, 0] late else s

/-- An on-window status takes effect. -/
def State.takeStatus (s : State) (n st : Nat) (late : Bool := false) : State :=
  let c := s.chan n
  let s := s.orBit F.LDS_FAULT st (ldsIx n)
  (s.setChan n { c with status := st }).chanReport n c.shown late

/-- The off-window status becomes STUCK_ON, or no longer is. -/
def State.takeStuck (s : State) (n : Nat) (b : Bool) (late : Bool := false) : State :=
  let c := s.chan n
  let s := if b then s.orBit F.LDS_FAULT 10 (ldsIx n) else s
  (s.setChan n { c with stuck := b }).chanReport n c.shown late

/-! ### Windows (R322, R332) -/

/-- A new window. -/
def LWin.mk0 (kind opened : Nat) (close : Option Nat) : LWin :=
  { kind := kind, opened := opened, close := close, n := 0, sumI := 0, sumV := 0, sumP := 0, sqI := 0, sqV := 0,
    overI := false, overV := false, deferred := false, void := false }

/-- The longest window of a kind: 1 ms LAMP, 10 ms FEED, 200 ms a heater without mains, else none (R332, R338, R340). -/
def State.windowNs (s : State) (n : Nat) : Option Nat :=
  match s.kind n with
  | 1 => some 1000000
  | 3 => some 10000000
  | 2 => if s.ldsOn F.LDS_STAT_NO_MAINS n then some 200000000 else none
  | _ => none

/-- A window still open is closed at `t`, or dropped. -/
def LChan.cutWindow (c : LChan) (t : Option Nat) : LChan :=
  { c with windows := c.windows.filterMap (fun w =>
      match w.close, t with
      | some _, _ => some w
      | none, some t => if w.opened < t then some { w with close := some t } else none
      | none, none => none) }

/-- Windows already over at `t` are closed, and the next one follows each (R332, R338, R340). -/
def State.rollWindows (s : State) (n t : Nat) : Nat → State
  | 0 => s
  | k + 1 =>
    let c := s.chan n
    match s.windowNs n, c.windows.getLast? with
    | some len, some w =>
      (match w.close with
       | none => if w.opened + len < t then
           (s.setChan n { c with windows := c.windows.dropLast ++ [{ w with close := some (w.opened + len) },
                                                                    LWin.mk0 w.kind (w.opened + len) none] }).rollWindows n t k
         else s
       | some _ => s)
    | _, _ => s

/-! ### The gate (R316, R331, R337) -/

/-- The gate changes at line time `t` (now): windows end and begin, and settling starts. `proof` marks a proof pulse. -/
def State.setGate (s : State) (n : Nat) (on proof : Bool) (t : Nat) : State :=
  let was := s.ldsOn F.LDS_STAT_GATE n
  if on = was then s else
    let s := s.setLds F.LDS_STAT_GATE n on.toNat
    let s := if s.kind n = 1 then s.rollWindows n t 64 else s
    let c := s.chan n
    let settle := some (s.clk.now + 1000000 * s.lds F.LDS_TIME_SETTLE_MS n)
    match s.kind n with
    | 1 =>
      let c := c.cutWindow (some t)
      let o := t + 1000 * s.lds F.LDS_PWM_BLANK_US n
      let w := if proof then LWin.mk0 2 o (some (t + 1000 * s.lds F.LDS_PROOF_T_US n)) else LWin.mk0 on.toNat o none
      s.setChan n { c with gateAt := s.clk.now, windows := c.windows ++ [w] }
    | 2 =>
      let c := c.cutWindow none
      let next := if s.ldsOn F.LDS_STAT_NO_MAINS n then [LWin.mk0 on.toNat t none] else []
      let s := (s.inc F.LDS_EVENTS_COUNT (ldsIx n)).setChan n { c with
        gateAt := s.clk.now, settleTo := settle, crosses := 0, crossAt := none, windows := c.windows ++ next }
      s.takeStatus n 14
    | _ =>
      s.setChan n { c.cutWindow none with gateAt := s.clk.now, settleTo := settle, overAt := none, fast := false, clrFrom := s.clk.now }

/-- The flash phase holds at line time `t` (R331): period, on-phase and shift of the mode. -/
def State.phaseOn (s : State) (n mode t : Nat) : Bool :=
  let p := 1000000 * s.lds F.LDS_FLASH_PERIOD_MS n
  let shift := if mode = 3 then p / 2 else 0
  mode == 1 || decide ((t + p - shift) % p < p * s.lds F.LDS_FLASH_ON_PCT n / 100)

/-- The end of the on-phase that holds at `t`. -/
def State.phaseEnd (s : State) (n mode t : Nat) : Nat :=
  let p := 1000000 * s.lds F.LDS_FLASH_PERIOD_MS n
  let shift := if mode = 3 then p / 2 else 0
  t - (t + p - shift) % p + p * s.lds F.LDS_FLASH_ON_PCT n / 100

/-- A lamp's gate is active at `t` by PWM and phase (R331). -/
def State.lampGate (s : State) (n t : Nat) : Bool :=
  let (mode, duty) := s.lampRuns n
  let tp := 1000 * s.lds F.LDS_PWM_PWM_US n
  mode != 0 && t % tp < s.onTime n duty && s.phaseOn n mode t

/-- A proof begins at the PWM start `t` (R334). -/
def State.proofAt (s : State) (n t : Nat) : Bool :=
  let c := s.chan n
  let (mode, _) := s.lampRuns n
  !(c.toSafe) && !(s.chanOff n) && !(c.held) && s.ldsOn F.LDS_CFG_PROOF_EN n && bit c.eff 13 && s.unprovable n c.eff
    && s.phaseOn n mode t
    && (mode == 1 || t + 1000 * s.lds F.LDS_PROOF_T_US n ≤ s.phaseEnd n mode t)
    && (match c.proofAt with | some p => p + 1000000 * s.lds F.LDS_PROOF_PER_MS n ≤ t | none => true)

/-- A heater's cycle at `t`: the gate is active (R337). -/
def State.cycleGate (s : State) (n duty t : Nat) : Bool :=
  let cyc := 1000 * s.lds F.LDS_CYCLE_CYC_S n
  let dwell := 1000 * s.lds F.LDS_CYCLE_DWELL_S n
  let on0 := (duty * cyc + 500) / 1000
  let on1 := if on0 < dwell then 0 else if cyc - on0 < dwell then cyc else on0
  t % (1000000 * cyc) < 1000000 * on1

/-- The gate a heater's command asks for at `t`. -/
def State.heaterGate (s : State) (n t : Nat) : Bool :=
  let c := s.chan n
  let w := s.lds F.LDS_CMD_NOW_CMD n
  if c.toSafe || s.chanOff n then s.ldsOn F.LDS_CFG_SAFE n
  else if c.held then false else if w % 4 = 1 then true else w % 4 == 2 && s.cycleGate n (bits w 2 10) t

/-- The next instant after `t` at which a lamp's gate may change, or its PWM take a new command. -/
def State.lampNext (s : State) (n t : Nat) : Option Nat :=
  let c := s.chan n
  let (mode, duty) := s.lampRuns n
  let tp := 1000 * s.lds F.LDS_PWM_PWM_US n
  let p := 1000000 * s.lds F.LDS_FLASH_PERIOD_MS n
  let shift := if mode = 3 then p / 2 else 0
  let start := t / tp * tp
  let on := s.onTime n duty
  let ph := t - (t + p - shift) % p
  let cand := (if mode != 0 || c.eff != s.lds F.LDS_CMD_NOW_CMD n then [start + tp] else [])
    ++ (if mode != 0 && on < tp then [start + on] else [])
    ++ (if mode == 2 || mode == 3 then [s.phaseEnd n mode t, ph + p] else [])
    ++ [c.proofEnd]
  (cand.filter (fun x => t < x)).foldl (fun (o : Option Nat) x => match o with | none => some x | some y => some (min x y)) none

/-- The next instant of a heater's cycle after `t`. -/
def State.heaterNext (s : State) (n t : Nat) : Option Nat :=
  let w := s.lds F.LDS_CMD_NOW_CMD n
  if w % 4 != 2 then none else
    let cyc := 1000000000 * s.lds F.LDS_CYCLE_CYC_S n
    let start := t / cyc * cyc
    let on := start + (bits w 2 10 * (1000 * s.lds F.LDS_CYCLE_CYC_S n) + 500) / 1000 * 1000000
    some (if t < on then on else start + cyc)

/-- The gate instant of channel `n` at line time `t` is taken. -/
def State.gateAt (s : State) (n t : Nat) : State :=
  let c := s.chan n
  match s.kind n with
  | 1 =>
    let tp := 1000 * s.lds F.LDS_PWM_PWM_US n
    let c := if t % tp = 0 && c.latchLt < t then { c with eff := s.lds F.LDS_CMD_NOW_CMD n } else c
    let c := { c with edgeAt := t, proofEnd := if c.proofEnd ≤ t then 0 else c.proofEnd }
    let s := s.setChan n c
    if t % tp = 0 && c.proofEnd = 0 && s.proofAt n t && !(s.ldsOn F.LDS_STAT_GATE n) then
      let (_, duty) := s.lampRuns n
      let s := s.setChan n { c with proofAt := some t, proofEnd := t + max (s.onTime n duty) (1000 * s.lds F.LDS_PROOF_T_US n) }
      (s.inc F.LDS_EVENTS_PROOFS (ldsIx n)).setGate n true true t
    else s.setGate n (s.lampGate n t || c.proofEnd != 0) false t
  | 2 => (s.setChan n { c with edgeAt := t }).setGate n (s.heaterGate n t) false t
  | _ => s

/-- The next gate instant of channel `n` (GATE_EDGE). -/
def State.gateEdge (s : State) (n : Nat) : State :=
  if !s.loadsRun || s.chanOff n || s.power == 2 then s else
    let c := s.chan n
    match (if s.kind n = 1 then s.lampNext n c.edgeAt else if s.kind n = 2 then s.heaterNext n c.edgeAt else none) with
    | none => s
    | some t => (s.elapseLt t).gateAt n t

/-! ### Feeds (R340 to R342) -/

/-- A feed is switched on: SETTLING. -/
def State.feedOn (s : State) (n : Nat) : State :=
  let c := s.chan n
  let s := (s.setChan n { c with phase := 1, retryAt := none }).setGate n true false s.clk.lt
  s.takeStatus n 14

/-- A trip (R341, R342); `late` tells that a result that a slice held decided it (R345). -/
def State.trip (s : State) (n : Nat) (late : Bool := false) : State :=
  let c := s.chan n
  if c.phase != 1 then s else
    let s := (s.inc F.LDS_EVENTS_COUNT (ldsIx n)).irq (ldsPage n) 9
    let used := s.lds F.LDS_STAT_RETRIES n
    let locked := s.lds F.LDS_RETRY_RETRY_N n ≤ used
    let s := s.setGate n false false s.clk.lt
    let c := s.chan n
    let s := s.setChan n { c with phase := if locked then 3 else 2, settleTo := none, overAt := none, fast := false,
                                  retryAt := if locked then none else some (s.clk.now + 1000000 * s.lds F.LDS_RETRY_RETRY_MS n) }
    if locked then (s.takeStatus n 13 late).irq (ldsPage n) 10 else s.takeStatus n 12 late

/-- RETRY_MS has passed: one retry is counted (R342). -/
def State.feedRetry (s : State) (n : Nat) : State :=
  let c := s.chan n
  match c.retryAt with
  | some t => if c.phase = 2 then
      let s := s.elapseTo t
      (s.setLds F.LDS_STAT_RETRIES n (min 15 (s.lds F.LDS_STAT_RETRIES n + 1))).feedOn n else s
  | none => s

/-- CLR_S of active gate without a trip (R342). -/
def State.retryClear (s : State) (n : Nat) : State :=
  let c := s.chan n
  if s.kind n = 3 && c.phase = 1 && s.ldsOn F.LDS_STAT_GATE n then
    (s.elapseTo (c.clrFrom + 1000000000 * s.lds F.LDS_RETRY_CLR_S n)).setLds F.LDS_STAT_RETRIES n 0
  else s

/-- TRIP_MS of results at or above I_OVER (R341). -/
def State.slowTrip (s : State) (n : Nat) : State :=
  let c := s.chan n
  match c.overAt with
  | some t => if s.kind n = 3 && s.ldsOn F.LDS_STAT_GATE n then (s.elapseTo (t + 1000000 * s.lds F.LDS_WIN_TRIP_MS n)).trip n else s
  | none => s

/-- SETTLE_MS has passed (R339, R340): a feed's windows begin. A heater keeps the instant, for the windows that closed
before it and are judged later. -/
def State.loadSettled (s : State) (n : Nat) : State :=
  match (s.chan n).settleTo with
  | none => s
  | some t =>
    let s := s.elapseTo t
    if s.kind n = 3 then
      let c := { s.chan n with settleTo := none }
      s.setChan n { c with windows := c.windows ++ [LWin.mk0 (s.lds F.LDS_STAT_GATE n) s.clk.lt none] }
    else s

/-! ### The latch (R323 to R326, R336, R342) -/

/-- LDS_CMD of channel `n` as a command word. -/
def State.hostWord (s : State) (n : Nat) : Nat :=
  s.lds F.LDS_CMD_MODE n + 4 * s.lds F.LDS_CMD_DUTY n + 4096 * s.lds F.LDS_CMD_RESET n + 8192 * s.lds F.LDS_CMD_PROOF n

/-- Word LDS_SRC.WORD of PROC slot LDS_SRC.SLOT in the STABLE buffer, found by its directory, which holds the slots of the
course that has closed; `none` counts as missed (R323, R205). -/
def State.imageWord (s : State) (n : Nat) : Option Nat × State :=
  let i := s.lds F.LDS_SRC_SLOT n
  let w := s.lds F.LDS_SRC_WORD n
  let b := s.rxStable
  let (st, h, s) := s.qRead 10 (s.imgBuf b + 0x40 + 8 * i) 8
  let o := leVal (h.take 4)
  let len := leVal ((h.drop 4).take 2)
  if st != .ok || o = 0xFFFFFFFF || !(bit (leVal (h.drop 6)) 0) || len ≤ w then (none, s)
  else
    let (st, d, s) := s.qRead 10 (s.imgBuf b + o + 2 * w) 2
    (if st = .ok then some (leVal d) else none, s)

/-- A command word takes force (R324, R325, R336, R342). `src`: 0 host, 1 image, 2 timeout action. A channel whose page is
disabled or in soft reset takes the word and acts on it when the page is back (R316). -/
def State.takeCommand (s : State) (n w src : Nat) : State :=
  let old := s.lds F.LDS_CMD_NOW_CMD n
  let k := s.kind n
  let c := s.chan n
  let clears := (bit w 12 && !(bit old 12)) || c.clrLock
  let wasOn := wordOn k old
  let on := wordOn k w
  let s := (s.setLds F.LDS_CMD_NOW_CMD n w).setLds F.LDS_CMD_NOW_FROM n src
  let idle := k = 1 && (s.lampRuns n).1 = 0 && c.eff = old
  let unlock := clears && c.phase = 3
  let c := { c with latchLt := s.clk.lt, clrLock := false, held := c.held && !clears,
                    phase := if unlock then 0 else c.phase, edgeAt := if idle then s.clk.lt else c.edgeAt }
  let s := s.setChan n c
  if s.chanOff n then s else
  match k with
  | 1 =>
    if !on then
      let s := s.setChan n { c with eff := w, proofEnd := 0, windows := c.windows.filter (fun x => !(x.kind == 2 && (match x.close with | some t => decide (s.clk.lt < t) | none => true))) }
      let s := s.setGate n false false s.clk.lt
      if wasOn || clears then s.takeStatus n 0 else s
    else if s.unprovable n w && c.status != 2 && !(c.held) && (!(s.unprovable n old) || c.status < 2) then s.takeStatus n 3 else s
  | 2 =>
    let s := s.setGate n (s.heaterGate n s.clk.lt) false s.clk.lt
    if !on && wasOn then s.takeStatus n 0 else s
  | 3 =>
    if !on then
      let s := s.setLds F.LDS_STAT_RETRIES n 0
      if c.phase = 3 then s
      else
        let s := (s.setGate n false false s.clk.lt)
        let s := s.setChan n { s.chan n with phase := 0, retryAt := none }
        if wasOn || unlock then s.takeStatus n 0 else s
    else if c.phase = 0 then s.feedOn n else s
  | _ => s

/-- Channel `n` latches at a boundary (R33 step 7, R323, R324). Where no receive buffer has just closed, an image slot is
missing. -/
def State.latchChan (s : State) (images : Bool) (n : Nat) : State :=
  let miss (s : State) : State := s.setChan n { s.chan n with misses := min 0xFFFF ((s.chan n).misses + 1) }
  let ok (s : State) (w src : Nat) : State :=
    let safe := (s.chan n).toSafe
    let judgedOn := safe && s.cmdOn n
    let s := (s.setLds F.LDS_STAT_TIMEOUT n 0).setChan n { s.chan n with misses := 0, toSafe := false }
    let s := s.takeCommand n w src
    let s := if judgedOn && !(s.cmdOn n) && s.kind n != 0 && (s.chan n).phase != 3 then s.takeStatus n 0 else s
    if safe && s.kind n = 1 then s.setGate n (s.lampGate n s.clk.lt) false s.clk.lt
    else if safe && s.kind n = 3 then s.setGate n ((s.chan n).phase == 1) false s.clk.lt else s
  if !(s.ldsOn F.LDS_CFG_SRC n) then ok s (s.hostWord n) 0
  else if !images then miss (s.inc F.LDC_CMD_MISS)
  else
    let (w, s) := s.imageWord n
    match w with
    | none => miss (s.inc F.LDC_CMD_MISS)
    | some w => if wordValid (s.kind n) w then ok s w 1 else miss (s.inc F.LDC_CMD_BAD)

/-- Every channel latches its command for the opening course. `images` tells that a receive buffer has just closed. -/
def State.latchLoads (s : State) (images : Bool) : State :=
  if !s.loadsRun then s else
    let s := (List.range 48).foldl (fun s n => s.latchChan images n) s
    s.set F.LDC_COURSE s.course

/-- A feed under the timeout action SAFE (R326): at the active level it is switched on, at the inactive level it is off. A
lockout stays. -/
def State.safeFeed (s : State) (n : Nat) : State :=
  let c := s.chan n
  if c.phase = 3 then s
  else if s.ldsOn F.LDS_CFG_SAFE n then (if c.phase = 1 then s else s.feedOn n)
  else s.setChan n { c with phase := 0, retryAt := none }

/-- A channel that has missed CMD_TO consecutive courses takes its timeout action (R326). -/
def State.commandTimeout (s : State) (n : Nat) : State :=
  let tmo := s.lds F.LDS_CFG_CMD_TO n
  if !(s.ldsOn F.LDS_CFG_SRC n) || tmo = 0 || (s.chan n).misses < tmo || s.ldsOn F.LDS_STAT_TIMEOUT n then s
  else
    let s := ((s.setLds F.LDS_STAT_TIMEOUT n 1).inc F.LDC_CMD_TO).irq (ldsPage n) 11
    match s.lds F.LDS_CFG_TO_ACT n with
    | 1 => s.takeCommand n (s.lds F.LDS_CMD_NOW_CMD n / 4 * 4) 2
    | 2 =>
      let was := s.cmdOn n
      let s := (s.setLds F.LDS_CMD_NOW_FROM n 2).setChan n { s.chan n with toSafe := true, edgeAt := s.clk.lt }
      let s := if was && !(s.cmdOn n) && !(s.chanOff n) then s.takeStatus n 0 else s
      let s := if s.kind n = 3 && !(s.chanOff n) then s.safeFeed n else s
      s.setGate n (s.ldsOn F.LDS_CFG_SAFE n && s.kind n != 0) false s.clk.lt
    | _ => s

/-! ### Results (R318 to R322, R338, R341) -/

/-- A raw code scaled: the difference from OFS, limited to 16 bits, times SCALE (R319). -/
def scaled (code ofs scale : Nat) : Int :=
  clampI (-32768) 32767 (signed 16 code - signed 16 ofs) * scale

/-- A code at either limit (R318). -/
def overrange (code : Nat) : Bool := code % 65536 == 0x7FFF || code % 65536 == 0x8000

/-- A result with conversion period [a, b) counts in the window (R322). -/
def LWin.holds (w : LWin) (a b : Nat) : Bool := w.opened ≤ a && (match w.close with | some c => decide (b ≤ c) | none => true)

/-- A result added to a window. -/
def LWin.add (w : LWin) (i v : Int) (oi ov held void : Bool) : LWin :=
  { w with n := w.n + 1, sumI := w.sumI + i, sumV := w.sumV + v, sumP := w.sumP + i * v, sqI := w.sqI + (i * i).toNat,
           sqV := w.sqV + (v * v).toNat, overI := w.overI || oi, overV := w.overV || ov, deferred := w.deferred || held,
           void := w.void || void }

/-- A rising crossing of a heater's voltage at stamp `t` (R338). Without mains the 200 ms windows go on until an interval
is valid again. -/
def State.crossing (s : State) (n t : Nat) : State :=
  let c := s.chan n
  let ok := match c.crossAt with
    | some p => 15380000 ≤ t - p && t - p ≤ 22220000
    | none => false
  let kind := s.lds F.LDS_STAT_GATE n
  if s.ldsOn F.LDS_STAT_NO_MAINS n then
    if !ok then s.setChan n { c with low := false, crossAt := some t, crosses := 0 }
    else
      let c := c.cutWindow none
      (s.setLds F.LDS_STAT_NO_MAINS n 0).setChan n { c with
        low := false, crossAt := some t, crosses := 0, validAt := s.clk.now, windows := c.windows ++ [LWin.mk0 kind t none] }
  else if !ok then
    s.setChan n { c.cutWindow none with low := false, crossAt := some t, crosses := 0,
                                        windows := (c.cutWindow none).windows ++ [LWin.mk0 kind t none] }
  else
    let k := c.crosses + 1
    if k < s.lds F.LDS_WIN_CYCLES n then s.setChan n { c with low := false, crossAt := some t, crosses := k, validAt := s.clk.now }
    else
      let c := c.cutWindow (some t)
      s.setChan n { c with low := false, crossAt := some t, crosses := 0, validAt := s.clk.now, windows := c.windows ++ [LWin.mk0 kind t none] }

/-- 100 ms without a valid crossing: windows become consecutive 200 ms intervals (R338). -/
def State.noMains (s : State) (n : Nat) : State :=
  if s.kind n != 2 || s.ldsOn F.LDS_STAT_NO_MAINS n then s else
    let s := s.elapseTo ((s.chan n).validAt + 100000000)
    let c := (s.chan n).cutWindow none
    (s.setLds F.LDS_STAT_NO_MAINS n 1).setChan n { c with windows := c.windows ++ [LWin.mk0 (s.lds F.LDS_STAT_GATE n) s.clk.lt none] }

/-- A result pair of channel `n` is available (ADC_RESULT): its stamp and length in line time, its two codes, and whether
a slice held it. -/
def State.adcResult (s : State) (n stamp len codeI codeV : Nat) (held : Bool) : State :=
  if !s.loadsRun then s else
    let s := s.elapseLt stamp
    let len : Nat := min len (s.resultNs n)
    let s := (s.set F.ADC_IN_LAST codeI (2 * n)).set F.ADC_IN_LAST codeV (2 * n + 1)
    let oi := overrange codeI
    let ov := overrange codeV
    let s := if oi || ov then (s.add F.ADC_OVR (oi.toNat + ov.toNat)).irq 0x2D 8 else s
    let c := s.chan n
    if 0 < c.azN then
      let c := { c with azN := c.azN - 1, azI := c.azI + signed 16 codeI, azV := c.azV + signed 16 codeV,
                        windows := c.windows.map (fun w => { w with void := true }) }
      let s := s.setChan n c
      if c.azN = 0 then
        ((s.set F.ADC_IN_OFS (satSigned 16 (roundDiv c.azI 64)) (2 * n)).set F.ADC_IN_OFS (satSigned 16 (roundDiv c.azV 64)) (2 * n + 1)).irq 0x2D 9
      else s
    else
      let scI := s.get F.ADC_SCALE (2 * n)
      let scV := s.get F.ADC_SCALE (2 * n + 1)
      let i := scaled codeI (s.get F.ADC_IN_OFS (2 * n)) scI
      let v := scaled codeV (s.get F.ADC_IN_OFS (2 * n + 1)) scV
      let s := s.meterPair { chan := n, stamp := stamp, len := len, v := v, i := i,
                             flags := (if held then 8 else 0) + (if oi || ov then 64 else 0) + (if scI = 0 || scV = 0 then 128 else 0) }
      let s := s.rollWindows n stamp 64
      let c := s.chan n
      let s := s.setChan n { c with windows := c.windows.map (fun w => if w.holds (stamp - len) stamp then w.add i v oi ov held false else w) }
      match s.kind n with
      | 2 =>
        if signed 16 codeV ≤ -328 then s.setChan n { s.chan n with low := true }
        else if 328 ≤ signed 16 codeV && (s.chan n).low then s.crossing n stamp else s
      | 3 =>
        if !(s.ldsOn F.LDS_STAT_GATE n) || (s.chan n).phase != 1 then s else
          let ua := roundDiv i 1000000
          let short := oi || ((s.lds F.LDS_I_SHORT n : Int) ≤ ua && scI != 0)
          let isOver := (s.lds F.LDS_I_OVER n : Int) ≤ ua && scI != 0
          let c := s.chan n
          if short && c.fast then s.trip n held
          else s.setChan n { c with fast := short,
                                    overAt := if !isOver || c.settleTo.isSome then none else c.overAt.or (some (s.clk.now - (s.clk.lt - stamp))) }
      | _ => s

/-- The autozero of pair `n` starts (R320). -/
def State.autozero (s : State) (n : Nat) : State := s.setChan n { s.chan n with azN := 64, azI := 0, azV := 0 }

/-! ### Verdicts (R328 to R330, R335) -/

/-- The root of a mean square, rounded to the nearest multiple of `unit`. -/
def rms (sq n unit : Nat) : Nat := (isqrt (4 * (sq / n)) + unit) / (2 * unit)

/-- What a window measured: µA, mV, mW (R319, R322, R338). -/
def State.measure (s : State) (n : Nat) (w : LWin) : Int × Int × Int :=
  let p := roundDiv w.sumP (w.n * 10 ^ 18)
  if s.kind n = 2 then ((rms w.sqI w.n 1000000 : Nat), (rms w.sqV w.n 1000000 : Nat), p)
  else (roundDiv w.sumI (w.n * 1000000), roundDiv w.sumV (w.n * 1000000), p)

/-- Failed strings k of R328, when PARTIAL is judged. -/
def stringsFailed (strings nom : Nat) (i : Int) : Nat :=
  let k := (2 * (strings : Int) * ((nom : Int) - i) + nom) / (2 * (nom : Int))
  min k.toNat (strings - 1)

/-- The verdict of an on-window or proof window (R328), where SCALE 0 leaves a quantity unjudged (R319). -/
def State.onVerdict (s : State) (n : Nat) (w : LWin) (i v : Int) : Nat :=
  let k := s.kind n
  let nom := s.lds F.LDS_NOM n
  let strings := s.lds F.LDS_CFG_STRINGS n
  let noI := s.get F.ADC_SCALE (2 * n) == 0
  let noV := s.get F.ADC_SCALE (2 * n + 1) == 0
  if k != 3 && noI then 3
  else if k != 3 && ((s.lds F.LDS_I_SHORT n : Int) ≤ i || w.overI) then 6
  else if k != 3 && (s.lds F.LDS_I_OVER n : Int) ≤ i then 7
  else if noV then 3
  else if v < 10 * (s.lds F.LDS_V_LIM_V_MIN n : Int) || 10 * (s.lds F.LDS_V_LIM_V_MAX n : Int) < v || w.overV then 11
  else if noI then 3
  else if i < (s.lds F.LDS_I_OPEN n : Int) then 5
  else if k = 1 && 1 ≤ strings && nom != 0 then (if 1 ≤ stringsFailed strings nom i then 9 else 1)
  else if nom = 0 then 4
  else if 100 * i < (nom : Int) * (100 - (s.lds F.LDS_UNDER n : Int)) then 8 else 1

/-- A valid on-window counts towards learning (R330). -/
def State.learn (s : State) (n v : Nat) (mean : Int) : State :=
  let c := s.chan n
  if c.learnN = 0 || v = 3 then s
  else if v = 6 || v = 7 || v = 11 || v = 5 then
    (((s.setChan n { c with learnN := 0 }).setLds F.LDS_STAT_LEARNING n 0).setLds F.LDS_STAT_LEARN_FAIL n 1).irq (ldsPage n) 12
  else
    let c := { c with learnN := c.learnN - 1, learnSum := c.learnSum + mean }
    let s := s.setChan n c
    if c.learnN = 0 then
      ((s.setLds F.LDS_NOM n (roundDiv c.learnSum 16000000).toNat).setLds F.LDS_STAT_LEARNING n 0).irq (ldsPage n) 12
    else s

/-- A status of SHORT with SHORT_OFF set holds the gate of a lamp or heater inactive (R336). -/
def State.shortHold (s : State) (n : Nat) : State :=
  let c := s.chan n
  if c.status = 6 && !(c.held) && s.ldsOn F.LDS_CFG_SHORT_OFF n && (s.kind n = 1 || s.kind n = 2) then
    (s.setChan n { c with held := true, proofEnd := 0 }).setGate n false false s.clk.lt
  else s

/-- A verdict of an on-window is counted and, where it has been given often enough, takes effect (R329, R335). -/
def State.countOn (s : State) (n v : Nat) (proof : Bool) (closeNow : Nat) (late : Bool) : State :=
  let c := s.chan n
  let k : Nat := if c.onV = v then min 15 (c.onN + 1) else 1
  let s := ((s.setChan n { c with onV := v, onN := k }).setLds F.LDS_STAT_PENDING n v).setLds F.LDS_STAT_COUNT n k
  if proof && v = 1 then
    let s := s.setChan n { s.chan n with provenAt := some closeNow }
    s.takeStatus n 2 late
  else
    let need := if v = 6 || v = 3 || c.status = 14 then 1 else if proof then 3 else s.lds F.LDS_CFG_FAULT_N n
    if k < need then s
    else
      (s.takeStatus n v late).shortHold n

/-- A verdict of an off-window is counted (R328, R329). -/
def State.countOff (s : State) (n : Nat) (stuck late : Bool) : State :=
  let c := s.chan n
  let on := s.cmdOn n
  let v := if stuck then 10 else 0
  if !stuck && on then s.setChan n { c with offN := 0 } else
    let k : Nat := if c.offV = v && c.offN != 0 then min 15 (c.offN + 1) else 1
    let s := ((s.setChan n { c with offV := v, offN := k }).setLds F.LDS_STAT_PENDING n v).setLds F.LDS_STAT_COUNT n k
    if k < (if c.status = 14 then 1 else s.lds F.LDS_CFG_FAULT_N n) then s
    else if stuck then s.takeStuck n true late
    else if c.phase = 3 then s.takeStuck n false
    else (s.takeStatus n 0).takeStuck n false

/-- The first window that is over is judged (R322, R328). -/
def State.judge (s : State) (n : Nat) (w : LWin) : State :=
  match w.close with
  | none => s
  | some t =>
    let closeNow := s.clk.now - (s.clk.lt - t)
    let settling := (s.kind n == 2 || s.kind n == 3) && (match (s.chan n).settleTo with | some e => decide (closeNow < e) | none => false)
    if t < w.opened + 40000 || w.n < 2 || w.void then s
    else
      let (i, v, p) := s.measure n w
      let s := ((s.setLds F.LDS_I_LAST n (satSigned 32 i)).setLds F.LDS_V_LAST n (satSigned 32 v)).setLds F.LDS_P_LAST n (satSigned 32 p)
      let s := (s.setLds F.LDS_STAT_DEFERRED n w.deferred.toNat).setLds F.LDS_STAT_OVERRANGE n (w.overI || w.overV).toNat
      if settling || s.kind n = 0 || s.chanOff n then s
      else if w.kind = 0 then
        if s.get F.ADC_SCALE (2 * n) = 0 then (if s.cmdOn n || (s.chan n).phase = 3 then s else s.takeStatus n 3)
        else s.countOff n ((s.lds F.LDS_I_OPEN n : Int) ≤ i) w.deferred
      else if !(s.cmdOn n) || (s.chan n).phase = 2 || (s.chan n).phase = 3 then s
      else
        let verdict := s.onVerdict n w i v
        let s := if s.kind n = 1 && s.ldsOn F.LDS_CFG_STRINGS n && s.lds F.LDS_NOM n != 0 then
            s.setLds F.LDS_STAT_STRINGS_FAILED n (if verdict = 9 || verdict = 1 then stringsFailed (s.lds F.LDS_CFG_STRINGS n) (s.lds F.LDS_NOM n) i else s.lds F.LDS_STAT_STRINGS_FAILED n)
          else s
        let s := s.learn n verdict (if s.kind n = 2 then i * 1000000 else roundDiv w.sumI w.n)
        -- An ordinary window that an earlier command left never makes a command OK that R333 leaves UNPROVEN (R2).
        if verdict = 1 && w.kind != 2 && s.kind n = 1 && !((s.chan n).toSafe) && s.unprovable n (s.lds F.LDS_CMD_NOW_CMD n) then s
        else s.countOn n verdict (w.kind == 2) closeNow w.deferred

/-- The oldest window of channel `n` closes and is judged (MEASUREMENT_WINDOW_CLOSE). -/
def State.windowDone (s : State) (n : Nat) : State :=
  if !s.loadsRun then s else
    let c := s.chan n
    match c.windows with
    | [] => s
    | w :: rest =>
      match w.close with
      | some t =>
        let s := s.elapseLt t
        (s.setChan n { s.chan n with windows := rest }).judge n w
      | none =>
        match s.windowNs n with
        | none => s
        | some len =>
          let t := w.opened + len
          let early := s.kind n = 1 && (match s.lampNext n c.edgeAt with | some x => decide (x < t) | none => false)
          if early then s.gateEdge n
          else
            let s := s.elapseLt t
            (s.setChan n { s.chan n with windows := rest ++ [LWin.mk0 w.kind t none] }).judge n { w with close := some t }

/-- PROOF_AGE has elapsed since the last passing proof window closed, no earlier proof window awaiting its verdict
(R335, R158). -/
def State.proofAgeExpiry (s : State) (n : Nat) : State :=
  let c := s.chan n
  match c.provenAt with
  | none => s
  | some t =>
    let s := s.elapseTo (t + 1000000 * s.lds F.LDS_TIME_PROOF_AGE n)
    let limit := s.clk.lt - (s.clk.now - (t + 1000000 * s.lds F.LDS_TIME_PROOF_AGE n))
    if c.windows.any (fun w => w.kind == 2 && (match w.close with | some x => decide (x < limit) | none => false)) then s
    else if (s.chan n).status = 2 then s.takeStatus n 3 else s

/-! ### Configuration, power and line time (R327, R346, R347) -/

/-- The engine of channel `n` starts afresh with status `st`. -/
def State.restartChan (s : State) (n st : Nat) : State :=
  let c := s.chan n
  let old := c.shown
  let s := (((s.setLds F.LDS_STAT_PENDING n 0).setLds F.LDS_STAT_COUNT n 0).setLds F.LDS_STAT_LEARNING n 0).setLds F.LDS_STAT_NO_MAINS n 0
  let s := s.setChan n { LChan.zero with status := st, eff := s.lds F.LDS_CMD_NOW_CMD n, edgeAt := s.clk.lt, latchLt := s.clk.lt,
                                         validAt := s.clk.now, gateAt := s.clk.now, misses := c.misses, azN := c.azN, azI := c.azI, azV := c.azV,
                                         clrLock := c.clrLock, snap := c.snap,
                                         settleTo := if s.kind n = 3 then some (s.clk.now + 1000000 * s.lds F.LDS_TIME_SETTLE_MS n) else none }
  let s := (s.orBit F.LDS_FAULT st (ldsIx n)).setLds F.LDS_STAT_GATE n 0
  let s := s.chanReport n old
  if s.kind n = 1 then s.setChan n { s.chan n with windows := [LWin.mk0 0 (s.clk.lt + 1000 * s.lds F.LDS_PWM_BLANK_US n) none] } else s

/-- KIND has changed (R327). -/
def State.kindChanged (s : State) (n : Nat) : State :=
  (s.setLds F.LDS_STAT_RETRIES n 0).restartChan n (if s.kind n = 0 then 15 else 14)

/-- The page of channel `n` was enabled, disabled, or put in soft reset (R316). -/
def State.chanEnable (s : State) (n : Nat) : State :=
  let s := s.restartChan n (if s.chanOff n || s.kind n = 0 then 15 else 14)
  if s.chanOff n then s.setLds F.LDS_STAT_GATE n (s.ldsOn F.LDS_CFG_SAFE n && s.kind n != 0).toNat
  else if s.kind n = 3 && s.cmdOn n then s.feedOn n
  else if s.kind n = 2 then s.setGate n (s.heaterGate n s.clk.lt) false s.clk.lt else s

/-- The channels return from NAP (R346): SETTLING until the first valid window; lockouts and retry counts stay. -/
def State.loadsReturn (s : State) : State :=
  (List.range 48).foldl (fun s n =>
    if s.kind n = 0 then s else
      let locked := (s.chan n).phase = 3
      let held := (s.chan n).held
      let s := s.restartChan n (if locked then 13 else 14)
      let s := s.setChan n { s.chan n with phase := if locked then 3 else 0, held := held }
      if s.kind n = 3 && s.cmdOn n && !locked then s.feedOn n
      else if s.kind n = 2 then s.setGate n (s.heaterGate n s.clk.lt) false s.clk.lt else s) s

/-- The load island goes off (SLUMBER or deeper, loss of main): the LDC, LDS and ADC registers and the engines return to
reset (R346). -/
def State.loadsOff (s : State) : State :=
  { s.eraseRegs 0x28000 0x2E000 with loads := List.replicate 48 LChan.zero }

/-- Line time has stepped or been adopted by `eps` (R347): windows end without a verdict, gates follow the stepped line
time, a proof pulse in progress runs its full length. -/
def State.loadStep (s : State) (eps : Int) : State :=
  let s := s.meterStep eps
  (List.range 48).foldl (fun s n =>
    if s.kind n = 0 then s else
      let c := s.chan n
      let gate := s.lds F.LDS_STAT_GATE n
      let c := { c with windows := [], edgeAt := s.clk.lt, latchLt := if s.clk.lt < c.latchLt then 0 else c.latchLt,
                        crossAt := none, crosses := 0,
                        proofEnd := if c.proofEnd = 0 then 0 else ((c.proofEnd : Int) + eps).toNat,
                        proofAt := c.proofAt.map (fun p => ((p : Int) + eps).toNat) }
      let s := s.setChan n c
      match s.kind n with
      | 1 =>
        let want := s.lampGate n s.clk.lt || s.clk.lt < c.proofEnd
        if want = (gate = 1) then
          s.setChan n { c with windows := [LWin.mk0 gate (s.clk.lt + 1000 * s.lds F.LDS_PWM_BLANK_US n) none] }
        else s.setGate n want false s.clk.lt
      | 2 =>
        let s := if s.ldsOn F.LDS_STAT_NO_MAINS n then s.setChan n { c with windows := [LWin.mk0 gate s.clk.lt none] } else s
        s.setGate n (s.heaterGate n s.clk.lt) false s.clk.lt
      | _ => if c.settleTo.isSome then s else s.setChan n { c with windows := [LWin.mk0 gate s.clk.lt none] }) s

/-- LEARN accepted (R330). -/
def State.loadLearn (s : State) (n : Nat) : State :=
  ((s.setChan n { s.chan n with learnN := 16, learnSum := 0 }).setLds F.LDS_STAT_LEARNING n 1).setLds F.LDS_STAT_LEARN_FAIL n 0

/-- CLR_LOCK accepted: it acts at the next latch (R336, R342). -/
def State.clearLock (s : State) (n : Nat) : State := s.setChan n { s.chan n with clrLock := true }

/-! ### Twins (R343, R344) -/

/-- A count of whole milliseconds. -/
def msOf (ns : Nat) : Nat := min (ns / 1000000) 0xFFFFFFFF

/-- Entry `n` of the load section of the course state record (R343). -/
def State.loadEntry (s : State) (n : Nat) : List Nat :=
  let c := s.chan n
  let k := s.kind n
  let t : Nat := match k with
    | 1 => (match c.provenAt with | some p => msOf (s.clk.now - p) | none => 0xFFFFFFFF)
    | 2 => msOf (s.clk.now - c.gateAt)
    | 3 => (match c.retryAt, c.settleTo with
            | some r, _ => msOf (r - s.clk.now)
            | none, some r => if c.status = 14 then msOf (r - s.clk.now) else 0
            | none, none => 0)
    | _ => 0
  let act := if k = 3 && s.ldsOn F.LDS_STAT_GATE n then msOf (s.clk.now - c.clrFrom) else 0
  le 2 (s.lds F.LDS_CMD_NOW_CMD n) ++ [k + 4 * s.lds F.LDS_CMD_NOW_FROM n, c.shown + 16 * c.onV, c.onN + 16 * c.offN,
    if k = 1 then s.lds F.LDS_STAT_STRINGS_FAILED n else if k = 3 then s.lds F.LDS_STAT_RETRIES n else 0]
    ++ le 2 c.misses ++ le 4 (s.lds F.LDS_NOM n) ++ le 4 (s.lds F.LDS_I_LAST n) ++ le 4 (s.lds F.LDS_V_LAST n) ++ le 4 t ++ le 4 act
    ++ le 4 0

/-- A standby freezes its statuses at each boundary (R248). -/
def State.loadBoundary (s : State) : State := { s with loads := s.loads.map (fun c => { c with snap := c.shown }) }

/-- Entry `n` of a valid record is carried (R344, R248): the command, NOM, the retry count and both timers; the answer
tells whether the status differs. -/
def State.carryLoad (s : State) (n : Nat) (e : List Nat) : Bool × State :=
  let v (o k : Nat) : Nat := leVal ((e.drop o).take k)
  let differs := v 3 1 % 16 != (s.chan n).snap
  let s := if v 0 2 = s.lds F.LDS_CMD_NOW_CMD n then s else s.takeCommand n (v 0 2) (v 2 1 / 4 % 4)
  let s := s.setLds F.LDS_NOM n (v 8 4)
  let c := s.chan n
  let s := match s.kind n with
    | 1 => s.setChan n { c with provenAt := if v 20 4 = 0xFFFFFFFF then c.provenAt else some (s.clk.now - 1000000 * v 20 4) }
    | 2 => if v 20 4 = 0xFFFFFFFF then s else s.setChan n { c with gateAt := s.clk.now - 1000000 * v 20 4 }
    | 3 =>
      let s := s.setLds F.LDS_STAT_RETRIES n (v 5 1)
      let st := v 3 1 % 16
      if st = 12 then
        let s := s.setGate n false false s.clk.lt
        (s.setChan n { s.chan n with phase := 2, settleTo := none, retryAt := some (s.clk.now + 1000000 * v 20 4) }).takeStatus n 12
      else if st = 13 then
        let s := s.setGate n false false s.clk.lt
        (s.setChan n { s.chan n with phase := 3, settleTo := none, retryAt := none }).takeStatus n 13
      else if c.phase = 1 then
        s.setChan n { c with clrFrom := s.clk.now - 1000000 * v 24 4,
                             settleTo := if st = 14 && c.settleTo.isSome then some (s.clk.now + 1000000 * v 20 4) else c.settleTo }
      else s
    | _ => s
  (differs, s)

end Sys2Proof.Machine
end

