-- ==== Sys2Proof/Machine/Local.lean ====
section
/-! DEFINITION. The local equipment ports (chapter 08): classification of received Ethernet and CAN frames, map entries
in both directions, transmission, PAUSE, CAN error confinement, disable, and the 1588 service of chapter 05. -/

namespace Sys2Proof.Machine

/-- The host island is powered: RUN, HOLD or NAP (R30, R230). -/
def State.hostIslandOn (s : State) : Bool := decide (s.power ≤ 2)

/-- The node sends on its local ports and delivers from them: RUN, and not a standby (R229, R230). -/
def State.localActive (s : State) : Bool := s.power == 0 && s.drives

/-- An LE map entry's drop is counted (R221, R227). -/
def State.ethMapDrop (s : State) (m : Nat) : State := (s.inc F.LETH_MAP_DROP_DROP m).irq 0x38 10
/-- An LC map entry's drop is counted. -/
def State.canMapDrop (s : State) (m : Nat) : State := (s.inc F.LC_MAP_DROP_DROP m).irq 0x39 10

/-- FIFO depth of a map entry: 63 means 64 (LETH_MAP_CFG, LC_MAP_CFG). -/
def mapDepth (d : Nat) : Nat := if d = 63 then 64 else d

/-- Messages that wait from source `q`. -/
def State.waiting (s : State) (q : Nat) : Nat := (s.trw.tx.filter (fun t => t.q == q)).length

/-- A local message queued on a stream, or refused for want of a route or of room (R221, R227). -/
def State.mapQueue (s : State) (q stream dst depth : Nat) (ws : List Nat) : Bool × State :=
  match s.fragWords stream with
  | none => (false, s)
  | some c =>
    if 256 * c < ws.length || depth ≤ s.waiting q then (false, s)
    else
      let (id, s) := s.takeId stream
      (true, { s with trw := { s.trw with tx := s.trw.tx ++ [TxMsg.mk q 0 stream dst id ws 0 0 [] 0] } })

/-! ### Ethernet frames -/

/-- Bytes as words, high byte first, an odd last byte followed by 0 (R222). -/
def beWords : List Nat → List Nat
  | [] => []
  | [a] => [a * 256]
  | a :: b :: t => (a * 256 + b) :: beWords t

/-- Words as bytes, high byte first. -/
def beBytes (ws : List Nat) : List Nat := (ws.map (fun w => [w / 256, w % 256])).flatten

/-- A frame carries a C-tag (R212). -/
def tagged (f : List Nat) : Bool := f.getD 12 0 == 0x81 && f.getD 13 0 == 0x00
/-- The TCI of a frame, 0 without a tag. -/
def tci (f : List Nat) : Nat := if tagged f then f.getD 14 0 * 256 + f.getD 15 0 else 0
/-- The EtherType behind any C-tag. -/
def etherType (f : List Nat) : Nat :=
  if tagged f then f.getD 16 0 * 256 + f.getD 17 0 else f.getD 12 0 * 256 + f.getD 13 0
/-- The frame without its C-tag. -/
def untag (f : List Nat) : List Nat := if tagged f then f.take 12 ++ f.drop 16 else f
/-- The frame with its tag replaced by, or with, the given TCI (R224). -/
def retag (f : List Nat) (t : Nat) : List Nat := f.take 12 ++ [0x81, 0x00, t / 256, t % 256] ++ (untag f).drop 12
/-- The first octets as an address. -/
def addr48 (f : List Nat) : Nat := leVal (f.take 6).reverse

/-- Destination check of R217 step 1. -/
def State.ethDaOk (s : State) (p : Nat) (f : List Nat) : Bool :=
  s.on F.LETH_P_CFG_PROMISC p || bit (f.getD 0 0) 0
    || addr48 f == s.get F.LETH_P_MAC_LO p + s.get F.LETH_P_MAC_HI p * 2 ^ 32

/-- The lowest-numbered enabled LE map entry with DIR 0 that matches (R217 step 3). -/
def State.ethMap (s : State) (p : Nat) (f : List Nat) : Option Nat :=
  (List.range 16).find? (fun m =>
    s.on F.LETH_MAP_CFG_EN m && !(s.on F.LETH_MAP_CFG_DIR m) && s.get F.LETH_MAP_CFG_PORT m == p
      && (s.on F.LETH_MAP_MATCH_ETYPE_ANY m || s.get F.LETH_MAP_MATCH_ETYPE m == etherType f)
      && (s.on F.LETH_MAP_MATCH_VID_ANY m || s.get F.LETH_MAP_MATCH_VID m == tci f % 4096))

/-- The lowest-numbered enabled receive queue of class `cls` with TARGET `target` (R217 step 4). -/
def State.localQueue (s : State) (cls target : Nat) : Option Nat :=
  ((List.range 64).map (· + 64)).find? (fun q =>
    s.on F.Q_BASE_HI_EN q && s.get F.Q_BIND_CLASS q == cls && s.get F.Q_BIND_TARGET q == target)

/-- An Ethernet frame made a message (R222, R223). -/
def State.ethEncapsulate (s : State) (m p stamp : Nat) (f : List Nat) : State :=
  let f := if s.on F.LETH_MAP_CFG_STRIP m then untag f else f
  let ws := [0x1000 + p * 256, f.length] ++ wordsOf 4 stamp ++ beWords f
  let (ok, s) := s.mapQueue (0x100 + m) (s.get F.LETH_MAP_STREAM_STREAM m) (s.get F.LETH_MAP_STREAM_POS m)
    (mapDepth (s.get F.LETH_MAP_CFG_DEPTH m)) ws
  if ok then s else s.ethMapDrop m

/-! ### The 1588 service (R161, R162) -/

/-- Served time at a line time: line time plus LINE_PTP_OFS. -/
def State.served (s : State) (t : Nat) : Int := (t : Int) + signed 64 (s.get F.LINE_PTP_OFS_LO + 2 ^ 32 * s.get F.LINE_PTP_OFS_HI)

/-- Line time + LINE_PTP_OFS is negative. -/
def State.ptpNeg (s : State) : Bool := decide (s.served s.clk.lt < 0)

/-- The fields of every 1588 message and of Announce that registers give: domain, clockClass, priorities, timescale,
offset, validity, timeSource. -/
def State.ptpFields (s : State) : List Nat :=
  [s.get F.LINE_PTP_INT_DOMAIN, if s.on F.LINE_STAT_LOCK then s.get F.LINE_PTP_DS_CLASS_LOCKED else s.get F.LINE_PTP_DS_CLASS_UNLOCKED,
   s.get F.LINE_PTP_DS_PRIORITY1, s.get F.LINE_PTP_DS_PRIORITY2, s.get F.LINE_PTP_TS_PTP_TIMESCALE,
   s.get F.LINE_PTP_TS_UTC_OFFSET, s.get F.LINE_PTP_TS_UTC_VALID, 0xA0]

/-- A signed four-bit logarithm as the octet logMessageInterval. -/
def logOctet (v : Nat) : Nat := unsigned 8 (signed 4 v)

/-- logMessageInterval of a message of a kind: the intervals of LINE_PTP_INT, and 0x7F where the standard has none. PRESUMED from
IEEE 1588-2019 (log entry 36). -/
def State.ptpLog (s : State) (kind : Nat) : Nat :=
  match kind with
  | 0 | 8 => logOctet (s.get F.LINE_PTP_INT_LOG_SYNC)
  | 9 => logOctet (s.get F.LINE_PTP_INT_LOG_MINDREQ)
  | 0xB => logOctet (s.get F.LINE_PTP_INT_LOG_ANN)
  | _ => 0x7F

/-- The destination address of the IEEE 802.3 transport: that of peer delay messages, and of all others. PRESUMED from
IEEE 1588-2019 (log entry 36). -/
def ptpDest (kind : Nat) : Nat := if kind = 2 ∨ kind = 3 ∨ kind = 0xA then 0x0180C200000E else 0x011B19000000

/-- A 1588 message with a served time, over IEEE 802.3 transport (R161, R217). -/
def State.ptpMsg (s : State) (kind seq : Nat) (t : Int) (req : List Nat) : Ptp :=
  ⟨kind, seq, (t / 1000000000).toNat, (t % 1000000000).toNat, req, s.ptpFields, s.ptpLog kind, ptpDest kind, 0x88F7⟩

/-- 1588 messages to send; each is sent when its port next transmits, ahead of class 3 (R225). -/
def State.ptpQueue (s : State) (p : Nat) (m : Ptp) : State := { s with loc := { s.loc with ptpTx := s.loc.ptpTx ++ [(p, m)] } }

/-- LE port `p` gives 1588 service now. -/
def State.ptpOn (s : State) (p : Nat) : Bool :=
  s.localActive && bit (s.get F.LINE_PTP_EN_EN) p && s.on F.LETH_P_CFG_EN p && s.on F.LETH_P_STAT_UP p

/-- A 1588 frame received on a port enabled in LINE_PTP_EN (R161, R162). `g` is the message behind the EtherType. -/
def State.ptpRx (s : State) (p stamp : Nat) (g : List Nat) : State :=
  let kind := g.getD 0 0 % 16
  let seq := g.getD 30 0 * 256 + g.getD 31 0
  let req := (g.drop 20).take 10
  if kind = 0xB || kind = 0 then s.inc F.LINE_PTP_FOREIGN
  else if !(s.ptpOn p) || g.getD 4 0 != s.get F.LINE_PTP_INT_DOMAIN then s
  else if kind = 1 && !(bit (s.get F.LINE_PTP_EN_P2P) p) then s.ptpQueue p (s.ptpMsg 9 seq (s.served stamp) req)
  else if kind = 2 && bit (s.get F.LINE_PTP_EN_P2P) p then s.ptpQueue p (s.ptpMsg 3 seq (s.served stamp) req)
  else s

/-! ### Receiving Ethernet -/

/-- PAUSE of Annex 31B (R212): an untagged MAC control frame with opcode 1, to its group address or to the port's own, `mac`. Its
quanta hold the port from the end of the frame in progress (R225). -/
def isPause (mac : Nat) (f : List Nat) : Bool :=
  !(tagged f) && etherType f == 0x8808 && f.getD 14 0 == 0 && f.getD 15 0 == 1 && (addr48 f == 0x0180C2000001 || addr48 f == mac)

/-- The address of LE port `p`. -/
def State.ethMac (s : State) (p : Nat) : Nat := s.get F.LETH_P_MAC_LO p + s.get F.LETH_P_MAC_HI p * 2 ^ 32

/-- A PAUSE frame received. -/
def State.pauseRx (s : State) (p : Nat) (f : List Nat) : State :=
  let s := s.inc F.LETH_P_PAUSE_RX p
  if s.on F.LETH_P_CFG_RX_PAUSE p then
    { s with loc := { s.loc with pause := put p (s.clk.now + 512 * (f.getD 16 0 * 256 + f.getD 17 0)) s.loc.pause } }
  else s

/-- Steps 3 to 5 of R217 for a frame without its FCS. -/
def State.ethClassify (s : State) (p stamp : Nat) (f desc : List Nat) : State :=
  let m := s.ethMap p f
  let s := match m with
    | some m => if s.drives then s.ethEncapsulate m p stamp f else s
    | none => s
  let offered := match m with
    | some m => s.on F.LETH_MAP_CFG_COPY m
    | none => true
  if !offered then s
  else match s.localQueue 1 p with
  | some q => if s.drives then s.rxDeliver q f 0 0 (tci f) stamp desc else s
  | none => if m.isSome then s else (s.inc F.LETH_P_RX_NOQ p).irq 0x38 10

/-- The Trowel does not take local frames now: its island is asleep, or a slice holds the engine (R194). They wait in the
port's receive buffer (R227). -/
def State.localHeld (s : State) : Bool := s.islandAsleep 8 || s.engineHeld

/-- Octets in the receive buffer of LE port `p`. -/
def State.ethHeld (s : State) (p : Nat) : Nat := ((s.loc.ethRx.filter (fun x => x.1 == p)).map (fun x => x.2.2.1.length)).sum

/-- The LETH channel takes a frame of LE port `p`: a context, then steps 3 to 5 (R196, R197). -/
def State.ethTake (s : State) (p stamp : Nat) (g desc : List Nat) : State :=
  let (got, s) := s.ctxAlloc 9 1 (0x20000000 + p)
  if !got then (s.inc F.LETH_P_RX_NOCTX p).irq 0x38 10
  else (s.ethClassify p stamp g desc).ctxFree 9 (0x20000000 + p)

/-- A completed local Ethernet frame (R217): `stamp` is its start of frame at the PCS boundary, in line time, `f` its
octets from DA to FCS; `code` tells of a code error, `short` that the channel lacked the wheel share to finish
it in time (R189). A frame that does not fit the port's receive buffer is dropped (R227).
`desc` is a receive descriptor in host memory. -/
def State.ethReceive (s : State) (p stamp : Nat) (f : List Nat) (code short : Bool) (desc : List Nat) : State :=
  if !(s.hostIslandOn) || !(s.on F.LETH_P_CFG_EN p) || !(s.on F.LETH_P_STAT_UP p) then s
  else if s.power != 0 then (s.inc F.LETH_P_RX_PWR p).irq 0x38 10
  else if 32768 < s.ethHeld p + f.length then (s.inc F.LETH_P_RX_FULL p).irq 0x38 10
  else
    let g := f.take (f.length - 4)
    let fcs := f.length ≥ 4 && f.drop (f.length - 4) == le 4 (crc32r g)
    if code || !fcs || f.length < 64 || 1522 < f.length || !(s.ethDaOk p f) then s.inc F.LETH_P_RX_BAD p
    else
      let stamp := stamp + s.get F.LETH_P_LAT_RX p
      let s := s.inc F.LETH_P_RX_OK p
      if isPause (s.ethMac p) g then s.pauseRx p g
      else if etherType g = 0x88F7 && bit (s.get F.LINE_PTP_EN_EN) p then s.ptpRx p stamp ((untag g).drop 14)
      else if s.localHeld then { s with loc := { s.loc with ethRx := s.loc.ethRx ++ [(p, stamp, g, desc)] } }
      else if s.fallsShort short then s.inc F.TRW_SHORT_DROP
      else s.ethTake p stamp g desc

/-! ### Receiving CAN -/

/-- The record of R220. -/
def CanFrame.record (c : CanFrame) : List Nat :=
  le 4 (c.id % 2 ^ 29 + c.ide.toNat * 2 ^ 29 + c.rtr.toNat * 2 ^ 30 + c.fdf.toNat * 2 ^ 31)
    ++ [c.dlc % 16 + c.brs.toNat * 16 + c.esi.toNat * 32, 0, 0, 0]
    ++ (c.data ++ List.replicate 64 0).take (if c.rtr then 0 else dlcLen (c.dlc % 16) c.fdf)

/-- A record as it is carried in a bundle: the 8 bytes as four words, the stamp, the data (R222). -/
def bundleRecord (r : List Nat) (stamp : Nat) : List Nat :=
  let d := r.drop 8
  leWords (r.take 8) ++ wordsOf 4 stamp ++ leWords (d ++ List.replicate (d.length % 2) 0)

/-- The lowest-numbered enabled LC map entry with DIR 0 that matches. -/
def State.canMap (s : State) (p : Nat) (c : CanFrame) : Option Nat :=
  (List.range 16).find? (fun m =>
    s.on F.LC_MAP_CFG_EN m && !(s.on F.LC_MAP_CFG_DIR m) && s.get F.LC_MAP_CFG_PORT m == p
      && s.on F.LC_MAP_ID_IDE m == c.ide
      && (c.id.land (s.get F.LC_MAP_MASK m)) == (s.get F.LC_MAP_ID_ID m).land (s.get F.LC_MAP_MASK m))

/-- The open bundle of entry `m` closes and is queued as one message (R223). -/
def State.closeBundle (s : State) (m : Nat) : State :=
  match look [] m s.loc.bundles with
  | [] => s
  | rs =>
    let s := { s with loc := { s.loc with bundles := del m s.loc.bundles } }
    let ws := [0x2000 + s.get F.LC_MAP_CFG_PORT m * 256, rs.length] ++ rs.flatten
    let (ok, s) := s.mapQueue (0x200 + m) (s.get F.LC_MAP_STREAM_STREAM m) (s.get F.LC_MAP_STREAM_POS m)
      (mapDepth (s.get F.LC_MAP_CFG_DEPTH m)) ws
    if ok then s else s.canMapDrop m

/-- Every bundle of the closing course closes. -/
def State.closeBundles (s : State) : State := (List.range 16).foldl (fun s m => s.closeBundle m) s

/-- A record joins the bundle of its entry, which closes at BUNDLE_MAX records. -/
def State.joinBundle (s : State) (m : Nat) (r : List Nat) : State :=
  let rs := look [] m s.loc.bundles ++ [r]
  let s := { s with loc := { s.loc with bundles := put m rs s.loc.bundles } }
  if s.get F.LC_MAP_CFG_BUNDLE_MAX m ≤ rs.length then s.closeBundle m else s

/-- Bus monitoring mode (R214, R229, R230). -/
def State.canMonitor (s : State) (p : Nat) : Bool := s.on F.LC_P_CFG_MONITOR p || !(s.localActive)

/-- LC port `p` is in bus-off, whatever STATE shows. -/
def State.busOff (s : State) (p : Nat) : Bool := s.loc.busOff.contains p

/-- LC_P_STAT.STATE: monitoring, bus-off, or what the error counters say (R214, R228 to R230). A port that monitors stays in
bus-off behind it until it has recovered. -/
def State.canState (s : State) (p : Nat) : State :=
  if s.canMonitor p then s.set F.LC_P_STAT_STATE 3 p
  else if s.busOff p then s.set F.LC_P_STAT_STATE 2 p
  else s.set F.LC_P_STAT_STATE (if 127 < s.get F.LC_P_STAT_TEC p || 127 < s.get F.LC_P_STAT_REC p then 1 else 0) p

/-- Every LC port takes the mode that its registers and the node's state give it (R229, R230). -/
def State.canModes (s : State) : State := (List.range 4).foldl (fun s p => s.canState p) s

/-- Steps 3 to 5 of R217 for a CAN frame. -/
def State.canClassify (s : State) (p stamp : Nat) (c : CanFrame) (desc : List Nat) : State :=
  let m := s.canMap p c
  let s := match m with
    | some m => if s.drives then s.joinBundle m (bundleRecord c.record stamp) else s
    | none => s
  let offered := match m with
    | some m => s.on F.LC_MAP_CFG_COPY m
    | none => true
  if !offered then s
  else match s.localQueue 2 p with
  | some q => if s.drives then s.rxDeliver q c.record 0 0 0 stamp desc else s
  | none => if m.isSome then s else (s.inc F.LC_P_RX_NOQ p).irq 0x39 10

/-- The LCAN channel takes a frame of LC port `p`: a context, then steps 3 to 5 (R196, R197). -/
def State.canTake (s : State) (p stamp : Nat) (c : CanFrame) (desc : List Nat) : State :=
  let (got, s) := s.ctxAlloc 0xA 1 (0x20000000 + p)
  if !got then (s.inc F.LC_P_RX_NOCTX p).irq 0x39 10
  else (s.canClassify p stamp c desc).ctxFree 0xA (0x20000000 + p)

/-- REC after a frame received well. -/
def State.recDown (s : State) (p : Nat) : Nat :=
  let r := s.get F.LC_P_STAT_REC p
  if 127 < r then 119 + Config.canRec s.clk.now % 9 else r - 1

/-- Frames in the receive buffer of LC port `p`. -/
def State.canHeld (s : State) (p : Nat) : Nat := (s.loc.canRx.filter (fun x => x.1 == p)).length

/-- A completed CAN frame (R217): `rx` tells whether CRC and form passed, `short` that the channel lacked the wheel share to
finish it in time (R189). -/
def State.canReceive (s : State) (p stamp : Nat) (c : CanFrame) (rx : CanRx) (short : Bool) (desc : List Nat) : State :=
  if !(s.hostIslandOn) || !(s.on F.LC_P_CFG_EN p) then s
  else if s.power != 0 then (s.inc F.LC_P_RX_PWR p).irq 0x39 10
  else if s.get F.LC_P_STAT_STATE p = 2 then s
  else if 64 ≤ s.canHeld p then (s.inc F.LC_P_RX_FULL p).irq 0x39 10
  else if rx != .intact || (c.fdf && !(s.on F.LC_P_CFG_FD_EN p)) then
    (((s.inc F.LC_P_ERR p).set F.LC_P_STAT_REC (min 255 (s.get F.LC_P_STAT_REC p + (if rx = .dominant then 8 else 1))) p)).canState p
  else
    let s := ((s.inc F.LC_P_RX_OK p).set F.LC_P_STAT_REC (s.recDown p) p).canState p
    if s.localHeld then { s with loc := { s.loc with canRx := s.loc.canRx ++ [(p, stamp, c, desc)] } }
    else if s.fallsShort short then s.inc F.TRW_SHORT_DROP
    else s.canTake p stamp c desc

/-- Local frames that waited in receive buffers are taken in their order (R194, R227). -/
def State.drainLocal (s : State) : State :=
  if s.localHeld then s
  else
    let (es, cs) := (s.loc.ethRx, s.loc.canRx)
    let s := { s with loc := { s.loc with ethRx := [], canRx := [] } }
    let s := es.foldl (fun s x => s.ethTake x.1 x.2.1 x.2.2.1 x.2.2.2) s
    cs.foldl (fun s x => s.canTake x.1 x.2.1 x.2.2.1 x.2.2.2) s

/-! ### Messages unpacked onto local ports (R221, R224) -/

/-- MAP_BAD of an LE entry. -/
def State.ethMapBad (s : State) (m : Nat) : State := (s.inc F.LETH_MAP_DROP_BAD m).irq 0x38 11
/-- MAP_BAD of an LC entry. -/
def State.canMapBad (s : State) (m : Nat) : State := (s.inc F.LC_MAP_DROP_BAD m).irq 0x39 11

/-- An Ethernet message unpacked by entry `m`. -/
def State.ethUnpack (s : State) (m : Nat) (ws : List Nat) : State :=
  let p := s.get F.LETH_MAP_CFG_PORT m
  let n := ws.getD 1 0
  if ws.getD 0 0 / 4096 != 1 || n < 14 || 1518 < n || ws.length != 6 + (n + 1) / 2 then s.ethMapBad m
  else
    let f := (beBytes (ws.drop 6)).take n
    let f := if s.on F.LETH_MAP_CFG_TAG m then
        retag f (s.get F.LETH_MAP_STREAM_PCP m * 8192 + s.get F.LETH_MAP_MATCH_VID m) else f
    if 1518 < f.length then s.ethMapBad m
    else if !(s.localActive) || !(s.on F.LETH_P_CFG_EN p) || !(s.on F.LETH_P_STAT_UP p) || 24576 < s.localUsed 1 p + f.length then
      (s.inc F.LETH_P_TX_DROP p).irq 0x38 10
    else { s with loc := { s.loc with ethTx := s.loc.ethTx ++ [(p, LocalTx.mk (0x100 + m) (s.get F.LETH_MAP_CFG_TXCLASS m) f 0 [])] } }

/-- The records of a bundle: `none` where their lengths disagree. -/
def bundleRecords : Nat → List Nat → Option (List (List Nat))
  | 0, [] => some []
  | 0, _ :: _ => none
  | n + 1, ws =>
    let h := leBytes (ws.take 4)
    let w := leVal (h.take 4)
    let len := if bit w 30 then 0 else dlcLen (h.getD 4 0 % 16) (bit w 31)
    if ws.length < 8 + (len + 1) / 2 then none
    else match bundleRecords n (ws.drop (8 + (len + 1) / 2)) with
    | none => none
    | some rs => some ((h ++ (leBytes (ws.drop 8)).take len) :: rs)

/-- A CAN bundle unpacked by entry `m`. -/
def State.canUnpack (s : State) (m : Nat) (ws : List Nat) : State :=
  let p := s.get F.LC_MAP_CFG_PORT m
  let n := ws.getD 1 0
  if ws.getD 0 0 / 4096 != 2 || n = 0 || 64 < n then s.canMapBad m
  else match bundleRecords n (ws.drop 2) with
  | none => s.canMapBad m
  | some rs => rs.foldl (fun s r =>
      if !(s.localActive) || !(s.on F.LC_P_CFG_EN p) || s.busOff p || 64 ≤ s.localUsed 2 p then
        (s.inc F.LC_P_TX_DROP p).irq 0x39 10
      else { s with loc := { s.loc with canTx := s.loc.canTx ++ [(p, LocalTx.mk (0x200 + m) 0 r 0 [])] } }) s

/-- The lowest-numbered enabled DIR 1 entry of LETH that takes `stream` from `src`. -/
def State.ethTaker (s : State) (stream src : Nat) : Option Nat :=
  (List.range 16).find? (fun m => s.on F.LETH_MAP_CFG_EN m && s.on F.LETH_MAP_CFG_DIR m
    && s.get F.LETH_MAP_STREAM_STREAM m == stream && (s.get F.LETH_MAP_STREAM_POS m == 0 || s.get F.LETH_MAP_STREAM_POS m == src))
/-- The lowest-numbered enabled DIR 1 entry of LCAN that takes `stream` from `src`. -/
def State.canTaker (s : State) (stream src : Nat) : Option Nat :=
  (List.range 16).find? (fun m => s.on F.LC_MAP_CFG_EN m && s.on F.LC_MAP_CFG_DIR m
    && s.get F.LC_MAP_STREAM_STREAM m == stream && (s.get F.LC_MAP_STREAM_POS m == 0 || s.get F.LC_MAP_STREAM_POS m == src))

/-- A complete message offered to the DIR 1 entries: whether one took it (R221). -/
def State.mapUnpack (s : State) (stream src : Nat) (ws : List Nat) : Bool × State :=
  let e := s.ethTaker stream src
  let c := s.canTaker stream src
  let s := match e with
    | some m => s.ethUnpack m ws
    | none => s
  let s := match c with
    | some m => s.canUnpack m ws
    | none => s
  (e.isSome || c.isSome, s)

/-! ### Transmitting Ethernet (R225) -/

/-- A PAUSE holds port `p`. -/
def State.paused (s : State) (p : Nat) : Bool := decide (s.clk.now < look 0 p s.loc.pause)

/-- The sources with a frame for port `p`, and the class of each one's head frame. -/
def heads (l : List (Nat × LocalTx)) (p : Nat) : List LocalTx :=
  (l.filter (fun x => x.1 == p)).foldl (fun hs x => if hs.any (fun h => h.src == x.2.src) then hs else hs ++ [x.2]) []

/-- Among sources of one class, the next in turn after `last`. -/
def nextTurn (last : Nat) (hs : List LocalTx) : Option LocalTx :=
  let least (l : List LocalTx) : Option LocalTx :=
    l.foldl (fun b h => match b with | none => some h | some x => if h.src < x.src then some h else b) none
  match least (hs.filter (fun h => last < h.src)) with
  | some h => some h
  | none => least hs

/-- A 1588 message goes out: an event message is followed by its Follow_Up, with its true egress stamp. -/
def State.ptpSend (s : State) (p : Nat) (m : Ptp) : State :=
  let t := s.served (s.clk.lt + s.get F.LETH_P_LAT_TX p)
  let s := (s.emit (.ptp p m)).inc F.LETH_P_TX_OK p
  if m.kind = 0 then (s.emit (.ptp p (s.ptpMsg 8 m.seq t m.req))).inc F.LETH_P_TX_OK p
  else if m.kind = 3 then (s.emit (.ptp p (s.ptpMsg 0xA m.seq t m.req))).inc F.LETH_P_TX_OK p
  else s

/-- A source's transmitted frame is completed: a host descriptor is written back with its stamp (R201, R219). -/
def State.localSent (s : State) (c stamp : Nat) (t : LocalTx) : State :=
  if t.src < 64 then
    (s.ctxFree c (queueCtx t.src t.idx)).complete t.src t.idx t.desc 0 0 (if bit (t.desc.getD 0xC 0) 2 then stamp else 0)
  else s

/-- LE port `p` sends its next frame. -/
def State.ethTransmit (s : State) (p : Nat) : State :=
  if !(s.localActive) || !(s.on F.LETH_P_CFG_EN p) || !(s.on F.LETH_P_STAT_UP p) || s.paused p then s
  else match s.loc.ptpTx.find? (fun x => x.1 == p) with
  | some x => ({ s with loc := { s.loc with ptpTx := s.loc.ptpTx.erase x } }).ptpSend p x.2
  | none =>
    let hs := heads s.loc.ethTx p
    let cls := hs.foldl (fun m h => max m h.cls) 0
    match nextTurn (look 0xFFFF (4 * p + cls) s.loc.turn) (hs.filter (fun h => h.cls == cls)) with
    | none => s
    | some t =>
      let s := { s with loc := { s.loc with ethTx := s.loc.ethTx.erase (p, t), turn := put (4 * p + cls) t.src s.loc.turn } }
      let f := t.data ++ List.replicate (60 - t.data.length) 0
      let s := (s.emit (.eth p (f ++ le 4 (crc32r f)))).inc F.LETH_P_TX_OK p
      s.localSent 9 (s.clk.lt + s.get F.LETH_P_LAT_TX p) t

/-- The quanta of a PAUSE run out. -/
def State.pauseExpiry (s : State) (p : Nat) : State :=
  let s := s.elapseTo (look 0 p s.loc.pause)
  { s with loc := { s.loc with pause := del p s.loc.pause } }

/-- The interval 2^log seconds of a signed four-bit logarithm, in nanoseconds. -/
def logNs (log : Nat) : Nat := if log < 8 then 1000000000 * 2 ^ log else 1000000000 / 2 ^ (16 - log)

/-- A Sync or an Announce falls due on port `p` (R161). -/
def State.ptpDue (s : State) (p : Nat) (announce : Bool) : State :=
  let k := 2 * p + announce.toNat
  let s := match s.loc.ptpAt.find? (fun x => x.1 == k) with
    | some x => s.elapseTo (x.2 + logNs (if announce then s.get F.LINE_PTP_INT_LOG_ANN else s.get F.LINE_PTP_INT_LOG_SYNC))
    | none => s
  let s := { s with loc := { s.loc with ptpAt := put k s.clk.now s.loc.ptpAt } }
  let s := s.setB F.PG_STAT_STATUS s.ptpNeg 0x10
  if !(s.ptpOn p) || s.ptpNeg then s
  else
    let seq := look 0 k s.loc.ptpSeq
    let s := { s with loc := { s.loc with ptpSeq := put k ((seq + 1) % 65536) s.loc.ptpSeq } }
    let s := s.ptpQueue p (s.ptpMsg (if announce then 0xB else 0) seq (s.served s.clk.lt) [])
    if s.paused p then s else s.ethTransmit p

/-! ### Transmitting CAN (R226, R228) -/

/-- The order in which the bus prefers a frame: base identifier, then the identifier extension, then a classical frame
before an FD frame and data before remote. -/
def canKey (r : List Nat) : Nat :=
  let w := leVal (r.take 4)
  let ide := bit w 29
  let base := if ide then bits w 18 11 else bits w 0 11
  base * 2 ^ 22 + ide.toNat * 2 ^ 21 + (if ide then bits w 0 18 else 0) * 4 + (bit w 31).toNat * 2 + (bit w 30).toNat

/-- The head frame with the lowest identifier. -/
def lowestCan (hs : List LocalTx) : Option LocalTx :=
  hs.foldl (fun b h => match b with | none => some h | some x => if canKey h.data < canKey x.data then some h else b) none

/-- A record as it goes on the bus: ESI of an FD frame shows the node's own error state, whatever the host put there (R214,
R220). -/
def State.canWire (s : State) (p : Nat) (r : List Nat) : List Nat :=
  let esi := bit (leVal (r.take 4)) 31 && s.get F.LC_P_STAT_STATE p == 1
  r.take 4 ++ [setBit (r.getD 4 0) 5 esi] ++ r.drop 5

/-- LC port `p` sends its head frame; `stamp` is its SOF in line time. -/
def State.canTransmit (s : State) (p stamp : Nat) (e : CanEnd) : State :=
  let hs := (heads s.loc.canTx p).filter (fun h => s.on F.LC_P_CFG_FD_EN p || !(bit (leVal (h.data.take 4)) 31))
  if !(s.localActive) || !(s.on F.LC_P_CFG_EN p) || s.canMonitor p || s.get F.LC_P_STAT_STATE p = 2 then s
  else match lowestCan hs with
  | none => s
  | some t =>
    match e with
    | .lost => s
    | .error | .unacked =>
      let tec := s.get F.LC_P_STAT_TEC p + (if e = .unacked && s.get F.LC_P_STAT_STATE p = 1 then 0 else 8)
      let s := (s.inc F.LC_P_ERR p).set F.LC_P_STAT_TEC (min 255 tec) p
      if 255 < tec then
        let s := { s with loc := { s.loc with busOff := p :: s.loc.busOff } }
        ((s.canState p).inc F.LC_P_BUSOFF p).irq 0x39 8
      else s.canState p
    | .sent =>
      let wire := s.canWire p t.data
      let s := { s with loc := { s.loc with canTx := s.loc.canTx.erase (p, t) } }
      let s := ((s.emit (.can p wire)).inc F.LC_P_TX_OK p).set F.LC_P_STAT_TEC (s.get F.LC_P_STAT_TEC p - 1) p
      (s.localSent 0xA stamp t).canState p

/-- 128 occurrences of 11 recessive bits have passed on a port in bus-off (R228). -/
def State.canRecovered (s : State) (p : Nat) : State :=
  if s.busOff p && (s.on F.LC_P_CFG_AUTO_REC p || s.loc.recover.contains p) then
    let s := { s with loc := { s.loc with recover := s.loc.recover.filter (· != p), busOff := s.loc.busOff.filter (· != p) } }
    (((s.set F.LC_P_STAT_TEC 0 p).set F.LC_P_STAT_REC 0 p).irq 0x39 9).canState p
  else s

/-! ### Disable and link changes -/

/-- A port's transmit buffer is emptied: mapped frames are dropped and counted, host descriptors aborted in ring order. -/
def State.flushLocal (s : State) (eth : Bool) (p : Nat) : State :=
  let l := ((if eth then s.loc.ethTx else s.loc.canTx).filter (fun x => x.1 == p)).map (·.2)
  let s := if eth then { s with loc := { s.loc with ethTx := s.loc.ethTx.filter (fun x => x.1 != p), ptpTx := s.loc.ptpTx.filter (fun x => x.1 != p) } }
    else { s with loc := { s.loc with canTx := s.loc.canTx.filter (fun x => x.1 != p) } }
  l.foldl (fun s t =>
    if t.src < 64 then (s.ctxFree (if eth then 9 else 0xA) (queueCtx t.src t.idx)).complete t.src t.idx t.desc 4 0 0
    else if eth then (s.inc F.LETH_P_TX_DROP p).irq 0x38 10 else (s.inc F.LC_P_TX_DROP p).irq 0x39 10) s

/-- LETH_P_STAT.UP follows LE_LOS, PCS sync and, where AN_EN asks for it, auto-negotiation (R213). -/
def State.ethFollow (s : State) (p : Nat) : State :=
  let was := s.on F.LETH_P_STAT_UP p
  let up := !(s.on F.LETH_P_STAT_LOS p) && s.on F.LETH_P_STAT_SYNC p && (!(s.on F.LETH_P_CFG_AN_EN p) || s.on F.LETH_P_STAT_AN_DONE p)
  let s := s.setB F.LETH_P_STAT_UP up p
  if up && !was then s.irq 0x38 8
  else if was && !up then (s.irq 0x38 9).flushLocal true p
  else s

/-- LE_LOS, PCS sync and auto-negotiation with a partner that advertises full duplex, of LE port `p` (R213). -/
def State.ethLink (s : State) (p : Nat) (los sync an : Bool) : State :=
  (((s.setB F.LETH_P_STAT_LOS los p).setB F.LETH_P_STAT_SYNC sync p).setB F.LETH_P_STAT_AN_DONE an p).ethFollow p

/-- At a takeover the new active starts both kinds of port with its buffers empty (R229): what the host's descriptors had
put there is completed ABORTED. -/
def State.localTakeover (s : State) : State :=
  let s := (List.range 8).foldl (fun s n => s.flushLocal true n) s
  let s := (List.range 4).foldl (fun s n => s.flushLocal false n) s
  let s := { s with loc := { s.loc with ethTx := [], canTx := [], bundles := [], ptpTx := [] } }
  s.canModes

end Sys2Proof.Machine
end

