-- ==== Sys2Proof/Machine/SelfTest.lean ====
section
/-! DEFINITION. Self-test in service (chapter 11): rest-lane slices, mortar-gap slices, how a slice ends, runs, RETEST,
RELEASE and the modes. What a slice finds — its monitor readings and whether a checkpoint matches — is a physical fact
that the command gives. -/

namespace Sys2Proof.Machine

/-- Slices of a run (R302, R305). -/
def runSlices (d : Nat) : Nat :=
  if d < 9 then 2048 else if d = 9 then 16384 else if d ≤ 18 then 1024 else if d ≤ 20 then 2048 else 1024

/-- The duration of a slice in ns, isolation and re-initialisation included (R302, R304, R305). -/
def sliceNs (d : Nat) : Nat :=
  if d < 9 then 528384 else 800 + (if d = 9 then 4644 else if d ≤ 17 then 4900 else if d = 18 then 4992 else if d = 19 then 4966
    else if d = 20 then 4920 else 4860)

/-- Domains 1 to 9 follow the enable of domain 0 (R310). -/
def State.domainOn (s : State) (d : Nat) : Bool :=
  s.on F.LBST_CFG_EN && s.on F.LBST_D_CFG_EN (if d ≤ 9 then 0 else d)

/-- LBST_STAT.MODE (R310). -/
def State.testMode (s : State) : Nat :=
  if !(s.domainOn 0) then 0 else if s.on F.LANE_REST_DEGRADED then 2 else 1

/-- A run of domain `d` starts from slice 0 (R299). -/
def State.startRun (s : State) (d : Nat) : State :=
  let s := s.set F.LBST_D_STAT_SLICE 0 d
  { s with test := { s.test with running := if s.test.running.contains d then s.test.running else s.test.running ++ [d]
                                 due := del d s.test.due
                                 stale := if s.test.slices.any (fun x => x.1 == d) then d :: s.test.stale else s.test.stale } }

/-- PERIOD seconds after a run ended, the next one starts (R299). -/
def State.runDue (s : State) (d : Nat) : State :=
  match s.test.due.find? (fun x => x.1 == d) with
  | none => s
  | some x => let s := s.elapseTo x.2
              if s.domainOn d then s.startRun d else s

/-- Every domain starts a new run (re-enable of LBST_CFG.EN; start-up). -/
def State.startRuns (s : State) : State := (List.range 33).foldl (fun s d => s.startRun d) s

/-- The domains that a write has enabled start a new run from slice 0; `b` is the state before it. -/
def State.enabledRuns (s b : State) : State :=
  (List.range 33).foldl (fun s d => if s.domainOn d && !(b.domainOn d) then s.startRun d else s) s

/-- A run in progress, or due and started now. -/
def State.runReady (s : State) (d : Nat) : Bool :=
  s.domainOn d && (s.test.running.contains d || s.test.due.any (fun x => x.1 == d && x.2 ≤ s.clk.now))

/-- A slice of domain `d` starts: what the block drives is safe while it lasts, so a Lintel's frame in progress is cut (R37,
R175). -/
def State.startSlice (s : State) (d : Nat) : State :=
  let s := if s.test.running.contains d then s else s.startRun d
  let s := if 10 ≤ d && d ≤ 17 then s.cutAir (d - 10) else s
  let s := { s.set F.LBST_D_STAT_IN_SLICE 1 d with test := { s.test with slices := s.test.slices ++ [(d, s.clk.now)] } }
  if d < 9 then s.set (F.LANE_STATE_L d) 2 else s

/-- The next slice of the rest lane, after LANE_GAP (R302, R314). While a rotation waits for the wrap none begins. -/
def State.restSlice (s : State) : State :=
  let d := s.get F.LANE_REST_REST
  if s.testMode != 1 || 8 < d || s.power != 0 || s.on F.PWR_STAT_ENTERING || s.islandState 8 != 1 || s.test.slices.any (fun x => x.1 < 9) || s.trw.rotate then s
  else
    let s := s.elapseTo (s.test.laneEnd + 1000 * s.get F.LBST_CFG_LANE_GAP)
    if s.runReady d then s.startSlice d else s

/-- A slice of domain `d` that starts now ends at or before B (R36). -/
def State.sliceFits (s : State) (d : Nat) : Bool := s.clk.lt + sliceNs d ≤ s.base + s.courseNs

/-- A domain may take a slice in this gap (R306). `tie` tells that a Tie frame is in progress. -/
def State.gapReady (s : State) (d : Nat) (tie : Bool) : Bool :=
  s.runReady d && s.sliceFits d && s.islandState (domainIsland d) == 1
    && !(10 ≤ d && d ≤ 17 && (s.lintel (d - 10) == 2 || s.lintel (d - 10) == 3)) && !(d == 19 && tie)

/-- The domains of this gap: domain 9 in degraded mode, then the others round-robin from the one after the last served,
at most one in each island and GAP_MAX in all (R306). -/
def State.gapDomains (s : State) (tie : Bool) : List Nat :=
  let first := if s.testMode = 2 && s.test.nine && s.gapReady 9 tie then [9] else []
  let order := (List.range 23).map (fun k => 10 + (s.test.next + k) % 23)
  order.foldl (fun l d =>
    if l.length < s.get F.LBST_CFG_GAP_MAX && s.gapReady d tie && !(l.any (fun x => domainIsland x == domainIsland d)) then l ++ [d] else l) first

/-- At B − 6 µs the slices of the mortar gap start (R304, R306); one that no longer fits waits for a later gap (R36). A node
that keeps no courses has no gap. -/
def State.gapSlices (s : State) (tie : Bool) : State :=
  if s.power != 0 || !s.clk.ltOn || s.on F.PWR_STAT_ENTERING || s.on F.PWR_STAT_WAKING then s
  else
    let s := s.elapseLt (s.base + s.courseNs - 6000)
    let ds := s.gapDomains tie
    let s := ds.foldl (fun s d => s.startSlice d) s
    match (ds.filter (· != 9)).getLast? with
    | some d => { s with test := { s.test with next := d - 10 + 1 } }
    | none => s

/-- R300. -/
def SliceFacts.valid (f : SliceFacts) : Bool := 780 ≤ f.vddMin && f.vddMax ≤ 840 && f.pll && decide (f.freqErr.natAbs ≤ 50)

/-- LBST_STAT.FAIL_ANY follows the domains (R307). -/
def State.failAny (s : State) : State :=
  s.setB F.LBST_STAT_FAIL_ANY ((List.range 24).any (fun k => s.get F.LBST_D_STAT_STATE (9 + k) == 3))

/-- A run is over: the next one waits for PERIOD (R299). -/
def State.endRun (s : State) (d : Nat) : State :=
  let s := (s.set F.LBST_D_STAT_SLICE 0 d).irq 0x24 10
  { s with test := { s.test with running := s.test.running.filter (· != d)
                                 due := put d (s.clk.now + 1000000000 * s.get F.LBST_D_CFG_PERIOD d) s.test.due } }

/-- A run ends with FAIL at a checkpoint (R299, R303, R307, R308). -/
def State.runFails (s : State) (d ckpt : Nat) : State :=
  let s := (((s.inc F.LBST_FAILS).inc F.LBST_D_RUNS_FAIL d).set F.LBST_D_CKPT_FAIL_AT ckpt d).irq 0x24 8
  let s := (s.set F.LBST_D_STAT_STATE 3 d).endRun d
  if d < 9 then s.laneFails d
  else
    let s := (s.mark 0x060 [d, ckpt]).failAny
    if 10 ≤ d && d ≤ 17 && s.on F.LBST_CFG_LINTEL_HOLD then
      ((s.setLine (d - 10) { s.line (d - 10) with hold := true }).set F.LBST_D_STAT_HELD 1 d).irq 0x24 12
    else s

/-- A run ends with PASS (R299, R191). -/
def State.runPasses (s : State) (d : Nat) : State :=
  let s := ((((s.inc F.LBST_PASSES).inc F.LBST_D_RUNS_PASS d).set F.LBST_D_STAT_STATE 2 d).endRun d).failAny
  if d < 9 && !(s.on F.LANE_CFG) then { s with trw := { s.trw with rotate := true } } else s

/-- A slice of domain `d` ends (R300, R301, R304); one of a run that was started again since counts for nothing. Staged
writes are applied by the caller. -/
def State.sliceEnd (s : State) (d : Nat) (f : SliceFacts) : State :=
  match s.test.slices.find? (fun x => x.1 == d) with
  | none => s
  | some x =>
    let s := s.elapseTo (x.2 + sliceNs d)
    let rest := s.test.slices.filter (fun y => y.1 != d)
    let stale := s.test.stale.contains d
    let s := { s with test := { s.test with slices := rest } }
    let s := if d < 9 && s.get (F.LANE_STATE_L d) = 2 then s.set (F.LANE_STATE_L d) 1 else s
    let s := { s with test := { s.test with shadow := s.test.shadow.filter (fun r => s.testing (r.1 / 0x1000) (r.1 % 0x1000))
                                            laneEnd := if d < 9 then s.clk.now else s.test.laneEnd
                                            stale := s.test.stale.filter (· != d) } }
    let s := (s.set F.LBST_D_STAT_IN_SLICE 0 d).set F.LBST_MON_VDD_MV f.vddLast
    let s := (s.set F.LBST_MON_FREQ_ERR (satSigned 16 f.freqErr)).set F.LBST_LAST_DOMAIN d
    let s := s.set F.LBST_LAST_COURSE (if d < 9 then 0 else s.course)
    if !f.valid then
      let s := (s.inc F.LBST_INVALID).set F.LBST_LAST_RESULT 2
      let n : Nat := min 255 (s.get F.LBST_D_CKPT_INV_RUN d + 1)
      let s := s.set F.LBST_D_CKPT_INV_RUN n d
      if n = s.get F.LBST_CFG_INVALID_N then s.irq 0x24 9 else s
    else
      let s := (s.set F.LBST_D_CKPT_INV_RUN 0 d).set F.LBST_LAST_RESULT 1
      if stale then s else
      let n := s.get F.LBST_D_STAT_SLICE d + 1
      let s := s.set F.LBST_D_STAT_SLICE n d
      let miss := n % 64 = 0 && f.mismatch
      let s := if miss then s.set F.LBST_LAST_RESULT 3 else s
      if miss && d != 9 then s.runFails d (n / 64)
      else
        let s := if miss then s.laneFails f.lane else s
        if n = runSlices d then s.runPasses d else s

/-- LBST_CMD.RELEASE: the test hold clears and the Lintel re-arms (R308). -/
def State.releaseHold (s : State) (d : Nat) : State :=
  let n := d - 10
  let s := (s.setLine n { s.line n with hold := false }).set F.LBST_D_STAT_HELD 0 d
  s.rearmAt n

/-- Runs in progress are lost; each restarts from slice 0 (R314). -/
def State.loseRuns (s : State) : State :=
  let s := s.test.running.foldl (fun s d => s.set F.LBST_D_STAT_SLICE 0 d) s
  let s := s.test.slices.foldl (fun s x =>
    (if x.1 < 9 then s.set (F.LANE_STATE_L x.1) 1 else s).set F.LBST_D_STAT_IN_SLICE 0 x.1) s
  { s with test := { s.test with slices := [], shadow := [], stale := [] } }

end Sys2Proof.Machine
end

