-- ==== Sys2Proof/Machine/Twin.lean ====
section
/-! DEFINITION. Twin pairs (chapter 09) but for the course state record: role commands and role changes, the Tie link
and its frames, the Plumb comparator, health word and heartbeat, and the arbiter. -/

namespace Sys2Proof.Machine

/-! ### Roles (R233 to R239, R265) -/

/-- The role held, without regard to a takeover pending: 0 STANDBY, 1 ACTIVE, 2 OUT. -/
def State.baseRole (s : State) : Nat := if s.role = 1 then 1 else if s.twin.isOut then 2 else 0

/-- ROLE_CMD. -/
def State.roleCmd (s : State) : Nat := s.get F.TWIN_STAT_ROLE_CMD

/-- TWIN_STAT.ROLE and CMD_DISAGREE from the role held and the command (R234, R254, R471). -/
def State.roleRegs (s : State) (base : Nat) : State :=
  let c := s.roleCmd
  let s := { s with twin := { s.twin with isOut := base == 2 } }
  let pending := base != 1 && c == 1 && !s.twin.outUntil
  let held := (base != 1 && c == 1) || (base == 1 && c == 2) || (base == 2 && c != 3 && c != 1)
  (s.set F.TWIN_STAT_ROLE (if pending then 3 else base)).setB F.TWIN_STAT_CMD_DISAGREE (held || s.twin.sameStrap)

/-- The twin that counts as twin-B where both are active: the strap, or the higher UID under SAME_STRAP (R265, R471). -/
def State.asTwinB (s : State) : Bool :=
  if s.twin.sameStrap then decide (s.partnerUid < s.uid)
  else s.boot.role == 2

/-- This twin's PHY drives the shared pair (R526). -/
def State.phyDrives (s : State) : Bool :=
  let mine := s.twin.driveCmd == 1
  let theirs := bits (s.get F.TWIN_PARTNER_HEALTH) 2 2 == 1
  !s.boot.twin || (!s.killed && (if mine == theirs then !s.asTwinB else mine))

/-- A fence acknowledged by pin arms the takeover (R235, R261). -/
def State.armTake (s : State) : State :=
  if s.boot.twin && s.baseRole != 1 && s.roleCmd == 1 && s.twin.fencedIn && !s.killed && !s.twin.outUntil then
    (s.set F.TWIN_STAT_FENCE_SRC 1).set F.TWIN_STAT_TAKE_ARMED 1
  else s

/-- An instant lies before the boundary that ends the course in progress. -/
def State.beforeNext (s : State) (t : Nat) : Bool := decide (s.asLine t < ((s.base + s.courseNs : Nat) : Int))

/-- ARB_ROLE has been stable at a new level for 1 µs (R233). -/
def State.roleLevel (s : State) (level : Nat) : State :=
  let s := s.elapse 1000
  if !s.boot.twin || level % 4 = s.twin.roleLevel then s
  else
    let c := level % 4
    let base := s.baseRole
    let s := { s with twin := { s.twin with roleLevel := c, cmdAt := s.clk.now, outUntil := false, refused := false
                                            cmdWas := if s.beforeNext s.twin.cmdAt then s.roleCmd else s.twin.cmdWas
                                            driveCmd := if c = 0 then s.twin.driveCmd else c } }
    let s := ((s.set F.TWIN_STAT_ROLE_CMD c).set F.TWIN_STAT_SILENT_RUN 0).set F.TWIN_STAT_TAKE_ARMED 0
    let s := if s.get F.TWIN_STAT_SWAP = 4 then s.set F.TWIN_STAT_SWAP 0 else s
    let s := s.roleRegs base
    let s := if s.role = 3 then s.irq 0x1C 9 else s
    s.armTake

/-- ARB_FENCED has been stable at a new level for 1 µs (R233, R235). -/
def State.fencedLevel (s : State) (level : Bool) : State :=
  let s := s.elapse 1000
  if !s.boot.twin || level == s.twin.fencedIn then s
  else
    let s := { s with twin := { s.twin with fencedIn := level, refused := false, fencedAt := s.clk.now
                                            fencedWas := if s.beforeNext s.twin.fencedAt then s.twin.fencedIn else s.twin.fencedWas } }
    let s := if s.get F.TWIN_STAT_SWAP = 4 then s.set F.TWIN_STAT_SWAP 0 else s
    s.armTake

/-- The pair's position owns an originate window in slots 0 or 8 to 1023 (R236). -/
def State.ownsWindow (s : State) : Bool :=
  s.pos == 1 || (List.range s.sched.slots.length).any (fun i => 8 ≤ i && s.ownerOf i == s.pos && s.pos != 0)

/-- ROLE_CMD as it decides at the boundary at which this course began: a level taken at that boundary or after it decides at a
later one (R158, R234). -/
def State.cmdAtB (s : State) : Nat := if s.asLine s.twin.cmdAt < (s.base : Int) then s.roleCmd else s.twin.cmdWas

/-- ARB_FENCED as it decides at that boundary. -/
def State.fencedAtB (s : State) : Bool := if s.asLine s.twin.fencedAt < (s.base : Int) then s.twin.fencedIn else s.twin.fencedWas

/-- The course that closes was silent (R236): it began after ROLE_CMD ACTIVE was taken. -/
def State.silentCourse (s : State) : Bool :=
  s.boot.twin && s.baseRole != 1 && s.roleCmd == 1 && s.cmdAtB == 1 && s.ownsWindow && !s.twin.sawCarrier

/-- A port's map agrees in everything but the STANDBY flag, the datum's, the course and the delays of an ordinary load. -/
def LMap.sameButRole (a b : LMap) : Bool := LMap.same { a with standby := false, datum := false } { b with standby := false, datum := false }

/-- At a role change the takeover map, or the map with STANDBY set, is in force: it differs from the map the port
holds, or has loaded for this boundary, in that flag alone (R262 steps 4 and 5, R261 step 7). -/
def State.roleMaps (s : State) : State :=
  (List.range 8).foldl (fun s n =>
    let l := s.line n
    let need := s.needMap n
    let held := match l.map with | some m => m.sameButRole need && !l.crcBad | none => false
    let load := match l.shadow with | some (m, ok) => ok && m.sameButRole need | none => false
    if held || load then s.setLine n { l with shadow := some (need, true), crcBad := false } else s) s

/-- A twin becomes active at the boundary (R234, R239, R261, R400). `src` is FENCE_SRC. -/
def State.becomeActive (s : State) (src : Nat) : State :=
  let aborted := src = 2 && s.twin.swapAt != 0 && s.twin.swapAt + 1 = s.course
  let s := s.roleRegs 1
  let s := ((s.set F.TWIN_STAT_FENCE_SRC src).set F.TWIN_STAT_TAKE_ARMED 0).set F.TWIN_STAT_SWAP 0
  let s := (s.set F.TWIN_STAT_SILENT_RUN 0).set F.TWIN_STAT_STALE 0
  let s := { s with twin := { s.twin with swapAt := 0, commit := false, pm := false, staleTable := false, ackOk := true } }
  let s := s.irq 0x1C 8
  let s := if src = 3 then ((s.inc F.TWIN_SWAPS).irq 0x1C 12)
    else { s.inc F.TWIN_TAKEOVERS with twin := { s.twin with lastTake := some s.course } }
  let s := if aborted then s.inc F.TWIN_SWAP_ABORT else s
  let s := s.atLeastSeq (if s.twin.recSeq == 0 then 0 else s.twin.recSeq + 4096)
  let s := if s.twin.recSeq != 0 && genNewer s.twin.recGen (s.get F.MARK_STAT_GEN) then s.set F.MARK_STAT_GEN s.twin.recGen else s
  let s := if src = 3 then s.mark 0x041 (le 4 s.course ++ [0, 0]) else s.mark 0x040 (le 4 s.course ++ [src, 0])
  let s := s.localTakeover.restartMsgs
  { s with twin := { s.twin with twAct := !s.killed } }

/-- An active twin stops being active at the boundary (R234, R239). -/
def State.becomeIdle (s : State) (base : Nat) : State :=
  let swap := base = 0
  let s := (s.roleRegs base).irq 0x1C 8
  let s := { s with twin := { s.twin with swapAt := 0, commit := false, twAct := false, recAt := none } }
  let s := (s.set F.TWIN_STAT_SWAP 0).set F.TWIN_STAT_FENCE_SRC 0
  let s := s.canModes
  if swap then ((s.inc F.TWIN_SWAPS).irq 0x1C 12).mark 0x041 (le 4 s.course ++ [0, 0]) else s

/-- Step 4 of R33: a role change takes effect (R234). `silent` tells that the course that closed was silent. -/
def State.roleBoundary (s : State) (silent : Bool) : State :=
  if !s.boot.twin then s
  else
    let base := s.baseRole
    let c := s.cmdAtB
    let fenced := s.fencedAtB
    let dualOut := base = 1 && s.on F.TWIN_STAT_DUAL_ACTIVE &&
      (if s.asTwinB then !fenced else bit (s.get F.TWIN_PARTNER_HEALTH) 4)
    let s := { s with twin := { s.twin with dualBit := s.on F.TWIN_STAT_DUAL_ACTIVE } }
    let s := if base = 1 then s.set F.TWIN_STAT_DUAL_ACTIVE 0 else s
    let s := if silent then (s.set F.TWIN_STAT_SILENT_RUN 1).set F.TWIN_STAT_FENCE_SRC (if s.get F.TWIN_STAT_FENCE_SRC = 1 then 1 else 2) else s
    let s' :=
      if dualOut then ({ s with twin := { s.twin with outUntil := true } }).becomeIdle 2
      else if c = 3 && base != 2 then (if base = 1 then s.becomeIdle 2 else (s.roleRegs 2).irq 0x1C 8)
      else if base = 1 && s.twin.commit && s.twin.swapAt = s.course then s.becomeIdle 0
      else if base = 0 && s.twin.commit && s.twin.swapAt = s.course then s.becomeActive 3
      else if base != 1 && c = 1 && !s.killed && !s.twin.outUntil && fenced then s.becomeActive 1
      else if base != 1 && c = 1 && !s.killed && !s.twin.outUntil && silent then s.becomeActive 2
      else if base = 2 && (c = 0 || c = 2) && !s.killed && !s.twin.outUntil then (s.roleRegs 0).irq 0x1C 8
      else if base = 1 && !s.killed then { s with twin := { s.twin with twAct := true } }
      else s
    if s'.baseRole = base then s'
    else (if s'.baseRole = 0 then s' else { s'.set F.PLMB_STAT_RESULT 0 with twin := { s'.twin with pm := false } }).roleMaps

/-- The composition and role with which the next course opens, as the Trowel knows them now: what Lintel maps loaded for
the next boundary are built from (R165). -/
def State.preview (s : State) : State :=
  let s := { s with course := s.course + 1, base := s.base + s.courseNs }
  let s := match s.so.plan with
    | some p => if p.joining && s.on F.LINE_STAT_THETA_VALID then ({ s with course := p.commit }).commitPlan p else s.commitBoundary
    | none => s
  (s.claimBoundary).roleBoundary false

/-! ### The Tie link (R242 to R244) -/

/-- A Tie frame of a type, a course and a payload (R243). -/
def tieFrame (typ course : Nat) (payload : List Nat) : List Nat :=
  let b := [typ, 1] ++ le 2 payload.length ++ le 4 course ++ payload
  b ++ le 4 (crc32r b)

/-- The context number of a Tie frame. -/
def tieCtx (typ : Nat) : Nat := 0x40000000 + typ

/-- A frame goes out on the Tie link, unless a slice holds the framer (R37). It passes through a context of the TIE channel;
where none can be had the work is held (R196). DESIGN CHOICE: one context a Tie frame (log entry 100). -/
def State.tieSend (s : State) (typ course : Nat) (payload : List Nat) : State :=
  if s.boot.twin && s.on F.TIE_CFG_EN && s.islandServes 25 && !(s.testing 0x1D 0x100) then
    let (got, s) := s.ctxAlloc 8 2 (tieCtx typ)
    if got then ((s.ctxFree 8 (tieCtx typ)).emit (.tie typ (tieFrame typ course payload))).inc F.TIE_TX_FRAMES
    else { s with trw := { s.trw with tieHeld := s.trw.tieHeld ++ [(typ, course, payload)] } }
  else s

/-- TIE work that was held is tried again in its order, at a wrap of the wheel (R196). -/
def State.tieFlush (s : State) : State :=
  s.trw.tieHeld.foldl (fun s x => s.tieSend x.1 x.2.1 x.2.2) { s with trw := { s.trw with tieHeld := [] } }

/-- A received frame: counted, and its type, course and payload where it is whole (R243). -/
def State.tieTake (s : State) (f : List Nat) : Option (Nat × Nat × List Nat) × State :=
  if !s.boot.twin || !(s.on F.TIE_CFG_EN) || !(s.islandServes 25) then (none, s)
  else
    let s := s.inc F.TIE_RX_FRAMES
    let n := leVal ((f.drop 2).take 2)
    let ok := f.length == n + 12 && 4 ≤ n && n ≤ 49152 && f.getD 1 0 == 1 && f.drop (f.length - 4) == le 4 (crc32r (f.take (f.length - 4)))
    if ok then (some (f.getD 0 0, leVal ((f.drop 4).take 4), (f.drop 8).take n), s) else (none, s.inc F.TIE_RX_BAD)

/-- TIE_STAT.UP, SINGLE and HOST_DROP from the lanes, and their events (R242, R244): the link is up while both lanes are locked
and aligned, and with one lane lost the host block is dropped until both return. -/
def State.tieLanes (s : State) (lock : Nat) (aligned : Bool) (skew : Nat) : State :=
  let was := s.on F.TIE_STAT_UP
  let single0 := s.on F.TIE_STAT_SINGLE
  let en := s.boot.twin && s.on F.TIE_CFG_EN
  let two := en && lock % 4 == 3 && aligned && s.on F.TIE_CFG_LANE1_EN
  let single := en && !two && (bit lock 0 || (bit lock 1 && s.on F.TIE_CFG_LANE1_EN))
  let drop := !two && (was || single || s.on F.TWIN_STAT_HOST_DROP)
  let s := (((s.set F.TIE_STAT_LOCK lock).setB F.TIE_STAT_ALIGNED aligned).setB F.TIE_STAT_UP two).setB F.TIE_STAT_SINGLE single
  let s := (s.set F.TIE_STAT_SKEW skew).setB F.TWIN_STAT_HOST_DROP drop
  let s := if two && !was then s.irq 0x1D 8 else if was && !two then s.irq 0x1D 9 else s
  if single && !single0 && was then s.irq 0x1D 10 else s

/-- A lane locks after 64 valid sync headers in a row (R242). -/
def State.tieLock (s : State) (lane : Nat) (aligned : Bool) (skew : Nat) : State :=
  if !s.boot.twin || !(s.on F.TIE_CFG_EN) then s
  else s.tieLanes (setBit (s.get F.TIE_STAT_LOCK) (lane % 2) true) aligned skew

/-- A lane is lost after 16 invalid sync headers within 64 blocks (R242). -/
def State.tieLoss (s : State) (lane bad : Nat) : State :=
  let s := s.add F.TIE_BLK_ERR bad
  if !(bit (s.get F.TIE_STAT_LOCK) (lane % 2)) then s
  else (s.inc F.TIE_LANE_DOWN).tieLanes (setBit (s.get F.TIE_STAT_LOCK) (lane % 2) false) false (s.get F.TIE_STAT_SKEW)

/-! ### The Plumb (R250 to R253) -/

/-- C_f of a frame (R250). -/
def State.plumbCrc (s : State) (f : List Nat) : Nat :=
  let m := s.get F.PLMB_CFG_WORDS
  let h := (List.range 7).map (fun i =>
    if bit m i then (if i = 3 then setBit (f.getD 3 0) 2 false else f.getD i 0) else 0)
  crc32 (lineBytes (h ++ (if s.on F.PLMB_CFG_PAYLOAD then fPayload f else [])))

/-- A pair placed in a list of rising first parts. -/
def insertSlot (x : Nat × Nat) : List (Nat × Nat) → List (Nat × Nat)
  | [] => [x]
  | y :: t => if x.1 ≤ y.1 then x :: y :: t else y :: insertSlot x t

/-- The digest of frames in ascending slot order (R250). -/
def foldDigest (l : List (Nat × Nat)) : Nat :=
  (l.foldr insertSlot []).foldl (fun d x => ((d * 2) % 2 ^ 32 + d / 2 ^ 31).xor x.2) 0

/-- A frame is taken into a digest: slots 0 and 2 to 1023, PROBE and TIMING excluded. -/
def plumbTakes (f : List Nat) : Bool :=
  fSlot f != 1 && !(fKind f == 3 && fSlot f == 0x3FF)

/-- An own frame was built (standby) or handed to a Lintel (active): it joins the own digest, once per slot. -/
def State.plumbOwn (s : State) (f : List Nat) : State :=
  if !s.boot.twin || s.isOut || !plumbTakes f || s.twin.would.any (fun x => x.1 == fSlot f) then s
  else { s with twin := { s.twin with would := s.twin.would ++ [(fSlot f, s.plumbCrc f)] } }

/-- The port on which a standby hears its position: SP0, or SP1 while SP0 is down (R251). -/
def State.plumbPort (s : State) : Nat := if s.up 0 then 0 else 1

/-- A frame of the own position was heard on the port R251 names; `ok` tells that HCHK and CRC-32 passed. -/
def State.plumbHeard (s : State) (f : List Nat) (ok : Bool) : State :=
  if !s.standby then s
  else if !ok then { s with twin := { s.twin with heardBad := true } }
  else if !plumbTakes f || s.twin.heard.any (fun x => x.1 == fSlot f) then s
  else { s with twin := { s.twin with heard := s.twin.heard ++ [(fSlot f, s.plumbCrc f)] } }

/-- An own slot with a would-be frame had no carrier: SILENT (R251, R252). -/
def State.plumbSilent (s : State) (slot : Nat) : State :=
  match s.slot slot with
  | none => s
  | some e =>
    if !s.standby || !(s.twin.would.any (fun x => x.1 == slot)) then s
    else
      let s := s.elapseLt (s.base + e.start + s.get F.TWIN_CPL_CPL_D + s.g + 200)
      let s := (s.inc F.PLMB_SILENT_CNT).irq 0x1E 9
      { s with twin := { s.twin with silent := true, pm := true } }

/-- Step 1 of R33 for the Plumb: the closing course's digests close and a standby gives its result (R252). `n` is the
closing course. -/
def State.plumbBoundary (s : State) (n : Nat) : State :=
  if !s.boot.twin then s
  else
    let w := foldDigest s.twin.would
    let h := foldDigest s.twin.heard
    let s := (s.set F.PLMB_WOULD w).set F.PLMB_COUNT_WOULD s.twin.would.length
    let s := { s with twin := { s.twin with lastHeard := h, ownDigest := w, ownCount := s.twin.would.length } }
    let s :=
      if s.standby then
        let s := ((s.set F.PLMB_HEARD h).set F.PLMB_COUNT_HEARD s.twin.heard.length).set F.PLMB_COURSE n
        let r := if s.twin.silent then 3 else if s.twin.heardBad || !(s.up 0 || s.up 1) then 4 else if w != h then 2 else 1
        let diff := ((s.twin.would ++ s.twin.heard).map (·.1)).filter (fun i =>
          (s.twin.would.find? (fun x => x.1 == i)).map (·.2) != (s.twin.heard.find? (fun x => x.1 == i)).map (·.2))
        let s := (s.set F.PLMB_STAT_RESULT r).set F.PLMB_STAT_FIRST_SLOT (diff.foldl min 0x3FF)
        let s := if r = 2 then (s.inc F.PLMB_MISMATCH_CNT).irq 0x1E 8 else if r = 4 then s.inc F.PLMB_INCONC_CNT else s
        { s with twin := { s.twin with pm := if r = 4 then s.twin.pm else r != 1 } }
      else { s.set F.PLMB_STAT_RESULT 0 with twin := { s.twin with pm := false } }
    { s with twin := { s.twin with would := [], heard := [], heardBad := false, silent := false } }

/-! ### Health word and heartbeat (R254, R255) -/

/-- STALE (R249). -/
def State.staleEval (s : State) : State :=
  if !s.boot.twin then s
  else
    let stale := s.baseRole != 1 && (s.twin.staleTable ||
      (match s.twin.recAt with
       | none => true
       | some k => decide (s.get F.TWIN_CFG_STALE_N ≤ s.course - 1 - k)))
    let s' := s.setB F.TWIN_STAT_STALE stale
    if stale && !(s.on F.TWIN_STAT_STALE) then s'.irq 0x1C 11 else s'

/-- The load or the metering island is halted or fenced. -/
def State.loadFault (s : State) : Bool := [27, 28].any (fun i => s.islandState i == 5 || s.islandState i == 4)

/-- The health word (R254). -/
def State.healthWord (s : State) : Nat :=
  let r := s.get F.PLMB_STAT_RESULT
  let t := s.twin
  let ecc := match t.eccAt with | some c => decide (s.course - c ≤ 16) | none => false
  let bad := (List.range 8).any (fun n => s.serves n && s.up n && s.lintel n == 2)
  let hi := (s.on F.LBST_STAT_FAIL_ANY).toNat + 2 * (s.on F.LANE_REST_DEGRADED).toNat + 4 * ecc.toNat + 8 * bad.toNat
    + 16 * (!(s.on F.LINE_STAT_LOCK)).toNat + 32 * t.pllLost.toNat + 64 * s.vaultRo.toNat + 128 * s.loadFault.toNat
  let unfit := hi.land (s.get F.TWIN_CFG_FIT_MASK) != 0
  s.get F.TWIN_STAT_ROLE + 4 * s.roleCmd + 16 * t.fencedIn.toNat + 32 * s.killed.toNat + 64 * unfit.toNat + 256 * hi
    + 2 ^ 16 * (s.on F.TIE_STAT_UP).toNat + 2 ^ 17 * (s.on F.TWIN_STAT_STALE).toNat + 2 ^ 18 * (r == 2).toNat + 2 ^ 19 * (r == 3).toNat
    + 2 ^ 20 * (r == 4).toNat + 2 ^ 21 * t.selfDiff.toNat + 2 ^ 22 * t.stateDiff.toNat + 2 ^ 23 * t.refused.toNat
    + 2 ^ 24 * t.dualBit.toNat + 2 ^ 25 * (s.baseRole == 1 && t.ackOk).toNat

/-- The eight bytes of a heartbeat (R255). -/
def heartbeat (course word : Nat) : List Nat :=
  let six := be 2 course ++ be 4 word
  [0xAB] ++ six ++ [crc8 six]

/-- Each twin forms its health word at the boundary and sends it on the Tie link and on HB_OUT (R244, R254, R255). -/
def State.healthBoundary (s : State) : State :=
  if !s.boot.twin then s
  else
    let gone := match s.twin.partnerAt with | some c => decide (c + 1 < s.course) | none => true
    let s := if gone && s.on F.TIE_STAT_PARTNER then (s.set F.TIE_STAT_PARTNER 0).irq 0x1D 11 else s
    let s := s.staleEval
    let w := s.healthWord
    let s := s.set F.TWIN_HEALTH w
    let s := { s with twin := { s.twin with selfDiff := false, stateDiff := false, pllLost := false } }
    let s := s.tieSend 2 s.course (le 4 w)
    if s.islandServes 25 then s.emit (.beat (heartbeat s.course w)) else s

/-- A HEALTH frame received (R265). -/
def State.healthRx (s : State) (f : List Nat) : State :=
  match s.tieTake f with
  | (some (2, _, p), s) =>
    let w := leVal (p.take 4)
    let s := (s.set F.TWIN_PARTNER_HEALTH w).set F.TIE_STAT_PARTNER 1
    let s := { s with twin := { s.twin with partnerAt := some s.course } }
    if s.baseRole = 1 && w % 4 = 1 && !(s.on F.TWIN_STAT_DUAL_ACTIVE) then (s.set F.TWIN_STAT_DUAL_ACTIVE 1).irq 0x1C 10 else s
  | (_, s) => s

/-! ### Planned swap, the active's and the standby's side (R262, R263) -/

/-- The active refuses a swap (R263). DEDUCED: a record that carried a proposal and got no ACK is no ground, since R262 has the
active propose again in its next record (log entry 101). -/
def State.swapRefuses (s : State) : Bool :=
  let ph := s.get F.TWIN_PARTNER_HEALTH
  (ph % 4 == 3 && bit ph 4) || s.role == 3
    || (match s.twin.lastTake with | some c => decide (s.course < c + 16) | none => false)
    || (!s.twin.ackOk && s.get F.TWIN_STAT_SWAP != 1) || bit ph 6 || bit ph 17

/-- SWAP_AT of the record of the course that closed: the course it proposes, 0 for none (R262 step 2, R263). -/
def State.propose (s : State) : Nat × State :=
  if !(s.baseRole = 1 && s.roleCmd = 2 && !s.killed && !s.twin.fencedIn) || s.twin.refused then
    (0, if s.get F.TWIN_STAT_SWAP = 1 then s.set F.TWIN_STAT_SWAP 0 else s)
  else if s.swapRefuses then
    (0, ({ s.set F.TWIN_STAT_SWAP 4 with twin := { s.twin with refused := true } }).irq 0x1C 13)
  else (s.course + 1, { s.set F.TWIN_STAT_SWAP 1 with twin := { s.twin with swapAt := s.course + 1, commit := false } })

/-- An ACK received (R262 steps 3 and 4); `stamp` is its line time. -/
def State.ackRx (s : State) (f : List Nat) (stamp : Nat) : State :=
  match s.tieTake f with
  | (some (3, _, p), s) =>
    if s.baseRole != 1 then s
    else
      let s := if leVal (p.take 4) = s.get F.TWIN_REC_COURSE then { s with twin := { s.twin with ackOk := true } } else s
      let at_ := leVal ((p.drop 4).take 4)
      if s.get F.TWIN_STAT_SWAP != 1 || at_ != s.twin.swapAt || at_ != s.course + 1 || s.base + s.gapAt ≤ stamp then s
      else
        let s := { s.set F.TWIN_STAT_SWAP 3 with twin := { s.twin with commit := true } }
        s.tieSend 4 at_ (le 4 at_)
  | (_, s) => s

/-- A COMMIT received (R262 step 5). -/
def State.commitRx (s : State) (f : List Nat) (stamp : Nat) : State :=
  match s.tieTake f with
  | (some (4, _, p), s) =>
    let at_ := leVal (p.take 4)
    if s.standby && s.get F.TWIN_STAT_SWAP = 2 && at_ = s.twin.swapAt && at_ = s.course + 1 && stamp < s.base + s.courseNs then
      { (((s.set F.TWIN_STAT_SWAP 3).set F.TWIN_STAT_FENCE_SRC 3).set F.TWIN_STAT_TAKE_ARMED 1) with twin := { s.twin with commit := true } }
    else s
  | (_, s) => s

/-! ### The arbiter (R256 to R264) -/

/-- ROLE level driven to twin `i`. -/
def State.arbRole (s : State) (i : Nat) : Nat := if i = 0 then s.get F.TWIN_ARB_STAT_ROLE_A else s.get F.TWIN_ARB_STAT_ROLE_B
/-- A ROLE level driven to twin `i`. -/
def State.setArbRole (s : State) (i c : Nat) : State := if i = 0 then s.set F.TWIN_ARB_STAT_ROLE_A c else s.set F.TWIN_ARB_STAT_ROLE_B c
/-- The arbiter holds a twin OUT or killed (R474). -/
def State.holdsTwin (s : State) : Bool :=
  s.boot.role == 3 && (s.get F.TWIN_ARB_STAT_KILL != 0 || s.arbRole 0 == 3 || s.arbRole 1 == 3)
/-- Twin `i` is driven OUT. -/
def State.drivenOut (s : State) (i : Nat) : Bool := s.arbRole i == 3 && bit (s.get F.TWIN_ARB_STAT_KILL) i

/-- The last health word of twin `i`. -/
def State.arbHealth (s : State) (i : Nat) : Nat := s.get F.TWIN_ARB_HLTH i

/-- The standby is eligible; `plumb` adds the conditions of rule 2 (R258). -/
def State.eligible (s : State) (plumb : Bool) : Bool :=
  let i := s.twin.standby
  let w := s.arbHealth i
  bit (s.get F.TWIN_ARB_STAT_HB_OK) i && w % 4 == 0 && !(bit w 6) && !(bit w 5) && !(bit w 12)
    && (!plumb || (bit w 16 && !(bit w 17)))

/-- A decision recorded: LAST, its course, the mark and interrupts. -/
def State.arbDecided (s : State) (code : Nat) : State :=
  let s := ((s.set F.TWIN_ARB_STAT_LAST code).set F.TWIN_ARB_LAST_COURSE s.course).inc F.TWIN_ARB_DECISIONS
  ((s.irq 0x1C 14).urgent 1).mark 0x042 (le 4 s.course ++ [code, 0])

/-- The levels that put twin `i` OUT and kill it. -/
def State.driveOut (s : State) (i : Nat) : State :=
  (s.setArbRole i 3).orBit F.TWIN_ARB_STAT_KILL i

/-- FAILOVER's levels (R259); the faulty twin is taken as the standby afterwards, and the takeover takes effect with the next
course (R261, R263). -/
def State.driveFailover (s : State) : State :=
  let i := s.twin.standby
  let s := ((s.driveOut (1 - i)).setArbRole i 1).orBit F.TWIN_ARB_STAT_FENCED i
  { s with twin := { s.twin with standby := 1 - i, swapSec := s.clk.sec, swapOn := false, pmRun := 0, pairBad := 0
                                 lastTake := some (s.course + 1) } }

/-- The pair's position (TWIN_ARB_CFG.POS). -/
def State.pairPos (s : State) : Nat :=
  if s.get F.TWIN_ARB_CFG_POS != 0 then s.get F.TWIN_ARB_CFG_POS
  else (((List.range s.count).map (· + 1)).find? (fun p => s.on F.SETO_TAB_HI_TWIN (p - 1))).getD 0

/-- A frame from the pair's position failed a check (R257). -/
def State.pairFault (s : State) (f : List Nat) : State :=
  if s.boot.role = 3 && fSrc f = s.pairPos && fSrc f != 0 then { s with twin := { s.twin with pairBad := s.twin.pairBad + 1 } } else s

/-- The close of the arbiter's window for slot `i` of the pair: S_s + D + g, by its own path model (R256); `none` where the pair
does not own the slot, or the model has no D0. -/
def State.pairClose (s : State) (i : Nat) : Option Nat :=
  match s.slot i, s.pace.models.find? (fun m => m.1 == s.tabUid s.pairPos) with
  | some e, some m => if s.pairPos != 0 && s.ownerOf i == s.pairPos then some (s.base + e.start + m.2.1 + s.g) else none
  | _, _ => none

/-- Rule 1 with evidence `code` (1 heartbeat, 2 silent, 3 unfit). -/
def State.ruleOne (s : State) (code : Nat) : State :=
  if s.drivenOut (1 - s.twin.standby) then s
  else if s.eligible false then (s.driveFailover).arbDecided code
  else if s.get F.TWIN_ARB_STAT_LAST = 9 && s.get F.TWIN_ARB_LAST_COURSE = s.course then s
  else s.arbDecided 9

/-- STANDBY_OUT. -/
def State.standbyOut (s : State) (code : Nat) : State :=
  if s.drivenOut s.twin.standby then s
  else ({ (s.driveOut s.twin.standby) with twin := { s.twin with pmRun := 0, pairBad := 0 } }).arbDecided code

/-- A swap as the arbiter judges it (R263). -/
def State.arbSwapOk (s : State) : Bool :=
  let i := s.twin.standby
  let w := s.arbHealth i
  let a := s.arbHealth (1 - i)
  !((w % 4 == 3 && bit w 4) || (a % 4 == 3)) && s.get F.TWIN_ARB_STAT_FENCED == 0 && s.get F.TWIN_ARB_STAT_KILL == 0
    && (match s.twin.lastTake with | some c => decide (c + 16 ≤ s.course) | none => true)
    && bit a 25 && !(bit w 6) && !(bit w 17)

/-- A planned swap is driven (R262, R264). -/
def State.driveSwap (s : State) : State :=
  let i := s.twin.standby
  let s := (s.setArbRole (1 - i) 2).setArbRole i 1
  ({ s with twin := { s.twin with swapOn := true } }).arbDecided 8

/-- A periodic swap falls due: it is started, or tried again at each course (R264). -/
def State.periodicSwap (s : State) : State :=
  let h := s.get F.TWIN_ARB_CFG_SWAP_H
  if s.boot.role != 3 || h = 0 then s
  else
    let s := s.elapse (s.untilRtc (s.twin.swapSec + 3600 * h))
    if s.twin.swapOn then s
    else if s.arbSwapOk then { s.driveSwap with twin := { s.driveSwap.twin with swapDue := false } }
    else { s with twin := { s.twin with swapDue := true } }

/-- One twin's heartbeat at its horizon (R256): its raw eight bytes, where a first edge fell into the window. -/
def State.beatAt (s : State) (i : Nat) (b : Option (List Nat)) : State :=
  let ok := match b with
    | some b => b.length == 8 && b.getD 0 0 == 0xAB && crc8 ((b.drop 1).take 6) == b.getD 7 0 && leVal ((b.drop 1).take 2).reverse == s.course % 65536
    | none => false
  if ok then
    let s := (s.set F.TWIN_ARB_HLTH (leVal (((b.getD []).drop 3).take 4).reverse) i).orBit F.TWIN_ARB_STAT_HB_OK i
    { s with twin := { s.twin with hbMiss := put i 0 s.twin.hbMiss, hbHeard := put i s.course s.twin.hbHeard } }
  else
    { s.clrBit F.TWIN_ARB_STAT_HB_OK i with twin := { s.twin with hbMiss := put i (look 0 i s.twin.hbMiss + 1) s.twin.hbMiss } }

/-- Which twin is the standby, by the last health words, and whether a swap is done (R264). -/
def State.arbRoles (s : State) : State :=
  let a := s.arbHealth 0 % 4
  let b := s.arbHealth 1 % 4
  let s := if a = 1 && b != 1 then { s with twin := { s.twin with standby := 1 } }
    else if b = 1 && a != 1 then { s with twin := { s.twin with standby := 0 } } else s
  let act := 1 - s.twin.standby
  if s.twin.swapOn && s.arbRole act = 1 then { s with twin := { s.twin with swapOn := false, swapSec := s.clk.sec } }
  else if s.twin.swapOn && bit (s.arbHealth act) 23 then
    { ((s.setArbRole act 1).setArbRole (1 - act) 2) with twin := { s.twin with swapOn := false, swapDue := true } }
  else s

/-- The rules of R257 at the horizon of new evidence. -/
def State.arbEvidence (s : State) (e : Evidence) : State :=
  if s.boot.role != 3 then s
  else match e with
  | .window a b pmA pmB =>
    let s := s.elapseLt (s.base + 15000)
    let s := (s.beatAt 0 a).beatAt 1 b
    let s := (s.set F.TWIN_ARB_STAT_PM (pmA.toNat + 2 * pmB.toNat)).arbRoles
    let i := s.twin.standby
    let high := bit (s.get F.TWIN_ARB_STAT_PM) i
    let s := { s with twin := { s.twin with pmRun := if high then s.twin.pmRun + 1 else 0, pairBad := if high then s.twin.pairBad else 0 } }
    if !(s.on F.TWIN_ARB_CFG_AUTO) then s
    else
      let n := s.get F.TWIN_ARB_CFG_HB_MISS
      let act := 1 - i
      if !(s.drivenOut act) && n ≤ look 0 act s.twin.hbMiss then s.ruleOne 1
      else if !(s.drivenOut act) && bit (s.arbHealth act) 6 then s.ruleOne 3
      else if s.get F.TWIN_ARB_CFG_PM_N ≤ s.twin.pmRun then
        (if (bit (s.arbHealth i) 21 || decide (0 < s.twin.pairBad)) && s.eligible true then (s.driveFailover).arbDecided 4
         else s.standbyOut 5)
      else if n ≤ look 0 i s.twin.hbMiss then s.standbyOut 6
      else if bit (s.arbHealth i) 6 then s.standbyOut 7
      else s
  | .silent i pm =>
    match s.pairClose i with
    | none => s
    | some t =>
      let s := s.elapseLt (t + horizonNs + 2000)
      if !pm then s.inc F.TWIN_ARB_OWN_SILENT
      else if s.on F.TWIN_ARB_CFG_AUTO then s.ruleOne 2 else s

/-- TWIN_ARB_CMD.RESTORE for the twins of a mask (R259). -/
def State.arbRestore (s : State) (mask : Nat) : State :=
  if mask % 4 = 0 then s else
  ((oneBits 2 mask).foldl (fun s i =>
    ((s.clrBit F.TWIN_ARB_STAT_KILL i).setArbRole i 2).clrBit F.TWIN_ARB_STAT_FENCED (1 - i)) s).arbDecided 10

/-- TWIN_ARB_CMD.OUT for the twins of a mask. -/
def State.arbOut (s : State) (mask : Nat) : State :=
  if mask % 4 = 0 then s else ((oneBits 2 mask).foldl (fun s i => s.driveOut i) s).arbDecided 10

/-- The arbiter at a course boundary: a periodic swap that waits is tried again (R264). -/
def State.arbBoundary (s : State) : State :=
  if s.boot.role = 3 && s.twin.swapDue && !s.twin.swapOn && s.arbSwapOk then
    { s.driveSwap with twin := { s.driveSwap.twin with swapDue := false } }
  else s

/-- TWIN_ARB_SWAP_LEFT. -/
def State.swapLeft (s : State) : Nat :=
  if s.boot.role != 3 || s.get F.TWIN_ARB_CFG_SWAP_H = 0 then 0 else s.twin.swapSec + 3600 * s.get F.TWIN_ARB_CFG_SWAP_H - s.clk.sec

/-- The kill sets: in the twin roles TW_ACT goes low as well (R238). -/
def State.killTwin (s : State) : State := { s.kill with twin := { s.kill.twin with twAct := false, killPin := true } }

/-! ### SAME_STRAP and PAIR_PREF (R471, R472) -/

/-- A frame of the active heard by the standby: its TWIN_B bit and, in a ROLL, its DATUM_PREF. -/
def State.pairStraps (s : State) (f : List Nat) : State :=
  if !s.standby then s
  else
    let same := fTwinB f == (s.boot.role == 2)
    let s := if same && !s.twin.sameStrap then s.substitution 0x1C 0xFE 0x114 s.boot.role s.boot.role else s
    let base := s.baseRole
    let s := ({ s with twin := { s.twin with sameStrap := same } }).roleRegs base
    if fKind f = 3 && fSlot f = 4 then
      let pref := bit ((fPayload f).getD 8 0) 1
      let own := bit s.boot.straps 3
      let s := if pref != own && !s.twin.prefDiff then s.substitution 0 2 0x10C s.boot.straps (setBit s.boot.straps 3 pref) else s
      { s with twin := { s.twin with prefDiff := pref != own, activePref := pref } }
    else s

end Sys2Proof.Machine
end

