-- ==== Sys2Proof/Machine/Tx.lean ====
section
/-! DEFINITION. The node's own transmissions (chapter 03, slot by slot): what each slot sends, the Spaka-A countdown, null
frames, sleep votes and announcements of chapter 17, the timing exchange at G. -/

namespace Sys2Proof.Machine

/-- The node runs courses: start-up is complete, the power state is RUN with no entry and no WAKING phase, and the Trowel
is not halted or frozen (R432, R435, R442, R39). -/
def State.running (s : State) : Bool :=
  decide (8 ≤ s.isl.started) && s.power == 0 && !(s.on F.PWR_STAT_ENTERING) && !(s.on F.PWR_STAT_WAKING) && !(s.islandAsleep 8)

/-- The node originates frames now: it runs courses, is not a twin in OUT, and no stop course has begun (R237, R439). -/
def State.originates (s : State) : Bool :=
  s.running && !s.isOut && (s.get F.WAKE_STOP == 0 || decide (s.course < s.get F.WAKE_STOP))

/-- The states of R140, R131, R124 and R153 under which slot `i` stays silent: a joiner after its first PLAN and a node in
REJOIN send in slot 1 only, a node without LOCK in slots 1 and 2 only. -/
def State.slotMuted (s : State) (i : Nat) : Bool :=
  (s.soState == 8 && i != 1) || (s.so.silent && i != 1) || (!(s.on F.LINE_STAT_LOCK) && i != 1 && i != 2)

/-- Ports on which the node's own frames go out: the serving ports that are not excluded (R133). -/
def State.ownPorts (s : State) : List Nat := s.serving.filter (fun n => !(s.so.excluded.contains n))

/-! ### Sleep votes (R436 to R438) -/

/-- An enabled wake switch is at its active level. -/
def State.switchActive (s : State) : Bool :=
  (List.range 4).any (fun k =>
    match s.get (F.WAKE_SW_CFG_MODE k) with
    | 1 => !(bit s.pwr.swLevel k)
    | 2 => bit s.pwr.swLevel k
    | _ => false)

/-- The node votes SLEEP (R436, R474). -/
def State.votesSleep (s : State) : Bool := s.on F.WAKE_VOTE && !s.switchActive && !s.holdsTwin

/-- A copy of the announcement, or of its withdrawal, is taken: stop course and target (R438, R439). -/
def State.holdStop (s : State) (stop target : Nat) : State :=
  if stop = 0 then
    if s.get F.WAKE_STOP = 0 then s
    else (((s.set F.WAKE_STOP 0).set F.WAKE_STAT_ANNOUNCED 0).irq 0x04 9)
  else
    let s' := { (s.set F.WAKE_STOP stop).set F.WAKE_STAT_ANNOUNCED 1 with pwr := { s.pwr with stopState := target } }
    if s.get F.WAKE_STOP = 0 then s'.irq 0x04 8 else s'

/-- The datum's slot-7 payload and flags: its vote, and the announcement of R437 while one is being sent. -/
def State.announcement (s : State) : Nat × List Nat :=
  let v := 2 * s.votesSleep.toNat
  match s.pwr.announce with
  | some n =>
    if n < s.course && s.course ≤ n + 15 then
      (v + 1, wordsOf 2 (if s.pwr.withdrawn then 0 else n + 16) ++ [s.get F.WAKE_CFG_NET_STATE, 0])
    else (v, [])
  | none => (v, [])

/-! ### Handing frames to the Lintels -/

/-- The null frame of R78 and R87 for a slot: it keeps W0's slot, the course, W3, the generation and W6. -/
def State.nullFor (s : State) (f : List Nat) (cause : Nat) : List Nat :=
  let h := [4 * 4096 + cause * 1024 + fSlot f, f.getD 1 0, f.getD 2 0, f.getD 3 0, f.getD 4 0, 0, f.getD 6 0]
  let h := h ++ [crc16 (lineBytes h)]
  let tag := s.txTag h
  let body := h ++ [tag / 65536, tag % 65536]
  let c := crc32 (lineBytes body)
  body ++ [c / 65536, c % 65536]

/-- An own frame is handed to the Lintels of the ports named (R83, R163); a standby only builds it (R237). A frame with
more than 124 payload words does not fit Spaka-A, and a null frame takes its place there (R92, R87). `coll` names the
Spaka-A ports on which read-back found a mismatch (R69). -/
def State.handOver (s : State) (ports : List Nat) (f : List Nat) (coll : Nat) : State :=
  let s := s.plumbOwn f
  if s.standby then s
  else ports.foldl (fun s n =>
    let g := if s.portGen n = 1 && 124 < fLen f then s.nullFor f 0 else f
    let before := (s.line n).sending
    let s := s.originate n s.clk.lt g
    if (s.line n).sending = before then s
    else
      let s := if fKind g = 4 then s.inc F.SPK_TX_NULL n else s
      if s.portGen n = 1 && bit coll n then s.collide n (fSlot g) else s) s

/-- A frame of the node's own for slot `i` of this course. -/
def State.ownFrame (s : State) (kind flags i dst seq : Nat) (payload : List Nat) : List Nat :=
  s.frame kind flags i s.course s.pos dst s.gen seq payload

/-- A control frame: the control sequence is taken, and the frame handed over. -/
def State.sendControl (s : State) (kind flags i dst : Nat) (payload : List Nat) (ports : List Nat) (coll : Nat) : State :=
  let (q, s) := s.takeCtl
  s.handOver ports (s.ownFrame kind flags i dst q payload) coll

/-! ### The countdown of a contended Spaka-A slot (R118) -/

/-- The Spaka-A ports among `ports` are contended for, against a rival UID (2^48 and above: none). A loser withdraws. The
ports that are left. -/
def State.countdown (s : State) (ports : List Nat) (rival : Nat) : List Nat × State :=
  if !(ports.any (fun n => s.portGen n == 1)) || s.standby then (ports, s)
  else if rival < s.uid then
    (ports.filter (fun n => s.portGen n != 1),
     (((s.inc F.SETO_A_LOST).set F.SETO_A_WINNER (rival % 2 ^ 32)).set F.SETO_A_WINNER_HI (rival / 2 ^ 32)))
  else (ports, s)

/-- What goes out on the ports left by a countdown: at the slot's start on Spaka-B and Spaka-C, at the end of period 47 on
Spaka-A. -/
def State.contended (s : State) (ports : List Nat) (go : State → List Nat → State) : State :=
  let a := ports.filter (fun n => s.portGen n == 1)
  if a.isEmpty || s.standby then go s ports
  else
    let b := ports.filter (fun n => s.portGen n != 1)
    go ((if b.isEmpty then s else go s b).elapse 384000) a

/-- A control frame in a contended slot: one frame, on each port at its instant. -/
def State.sendContended (s : State) (kind flags i dst : Nat) (payload : List Nat) (ports : List Nat) (coll : Nat) : State :=
  let (q, s) := s.takeCtl
  let f := s.ownFrame kind flags i dst q payload
  s.contended ports (fun s ports => s.handOver ports f coll)

/-! ### Slots 0 to 7 -/

/-- Slot 0: SYNC by the datum, or by a provisional datum from its first course (R94, R123, R132). The node's own Lintels
are disciplined by its own SYNC (R168). -/
def State.sendSync (s : State) (coll : Nat) : State :=
  if !s.actsDatum || (s.so.provis && s.course < s.so.provisAt) then s
  else (s.sendControl 2 0 0 63 (wordsOf 4 s.base) s.ownPorts coll).syncToken s.base

/-- The PROBE on one port; its transmit stamp and d are kept for the next exchange (R116, R146). -/
def State.sendProbe (s : State) (n coll : Nat) : State :=
  let d := (s.line n).probeD
  let (q, s) := s.takeCtl
  let f := s.ownFrame 3 0 1 0 q (s.probePayload n d)
  let at_ := s.clk.lt + tPre (s.portGen n) + tWord (s.portGen n)
  let s := s.handOver [n] f coll
  s.setLine n { s.line n with probeTx := some at_, dSent := d }

/-- Slot 1: PROBE on each port under probe, in PROBING, JOINER and REJOIN (R116, R124). -/
def State.sendProbes (s : State) (rival coll : Nat) : State :=
  if !([1, 6, 8].contains s.soState) then s
  else
    let ports := (s.so.probes.map (·.port)).filter (fun n => s.up n && !(s.on F.SPK_LINK_GEN_MISMATCH n))
    let (ports, s) := s.countdown ports rival
    s.contended ports (fun s ports => ports.foldl (fun s n => s.sendProbe n coll) s)

/-- A REPORT reaches this node as the one that answers it: it waits for its PLAN or ABORT (R120). -/
def State.answerLater (s : State) (payload : List Nat) : State :=
  if s.so.answers.any (fun a => a.2 == payload) then s
  else { s with so := { s.so with answers := s.so.answers ++ [(s.course, payload)] } }

/-- Slot 2: the node's own REPORT, or the first one stored (R116, R117). A datum answers its own event itself, and a
provisional datum both sends and answers its DATUM_LOST (R132). -/
def State.sendReport (s : State) (rival coll : Nat) : State :=
  let due := match s.so.event, s.so.sentAt with
    | some p, none => if s.so.eventFrom ≤ s.course then some p else none
    | _, _ => none
  match due with
  | some p =>
    let s := if s.actsDatum then s.answerLater p else s
    let s := { s with so := { s.so with sentAt := some s.course } }
    if s.actsDatum && !s.so.provis then s
    else
      let away := if s.so.eventDst = 63 then s.ownPorts.filter (· != bits (p.getD 3 0) 2 3) else s.ownPorts
      let (ports, s) := s.countdown away rival
      if ports.isEmpty && !s.standby then { s with so := { s.so with sentAt := none } }
      else
        let s := s.sendContended 3 1 2 s.so.eventDst p ports coll
        { s with so := { s.so with relayed := true } }
  | none =>
    match s.so.stored with
    | [] => s
    | (dst, p) :: t =>
      let (ports, s) := s.countdown s.ownPorts rival
      if ports.isEmpty && !s.standby then s
      else
        let s := s.sendContended 3 1 2 dst p ports coll
        { s with so := { s.so with stored := t, relayed := true } }

/-- The datum sends a plan that commits with the next course: the directory of the host's transmit buffer follows it (R208). -/
def State.ownPlanned (s : State) (flags : Nat) (p : List Nat) : State :=
  let commit := wordsVal (p.take 2)
  if flags = 2 && commit = s.course + 1 && s.so.plan.isSome then s.planDirectory s.preview commit else s

/-- Slot 3: the datum's PLAN or ABORT (R116, R120). -/
def State.sendPlan (s : State) (coll : Nat) : State :=
  if !s.actsDatum then s
  else
    let s := s.planWork
    match s.so.sending.find? (fun x => x.1 == s.course) with
    | some x => (s.sendControl 3 x.2.1 3 63 x.2.2 s.ownPorts coll).ownPlanned x.2.1 x.2.2
    | none => s

/-- Slot 4: ROLL by the position whose turn it is (R116). -/
def State.sendRoll (s : State) (coll : Nat) : State :=
  if s.pos = s.course % max 1 s.count + 1 then s.sendControl 3 0 4 63 s.rollPayload s.ownPorts coll else s

/-- Slot 5: a claim request, or the release of the owned quoin (R88, R90). The datum counts as a claimant. -/
def State.sendClaim (s : State) (rival coll : Nat) : State :=
  let facing := s.ownPorts.filter (fun n => s.portGen n == 1 || s.so.facing == some n)
  if s.so.claimRel then
    let q := s.ownQuoin.getD (s.get F.SCHD_CLAIM_STAT_SLOT)
    let p := [q] ++ uidWords s.uid ++ uidWords 0xFFFFFFFFFFFF ++ [0]
    let (ports, s) := s.countdown facing rival
    if ports.isEmpty && !facing.isEmpty && !s.standby then s
    else
      let s := s.sendContended 5 3 5 63 p ports coll
      { s with so := { s.so with claimRel := false, claimSent := true, releases := s.so.releases ++ [q] } }
  else if s.get F.SCHD_CLAIM_STAT_STATE = 1 && !s.standsDown && s.pos != 0 then
    let p := s.claimPayload
    if s.actsDatum then { s with so := { s.so with claims := s.so.claims ++ [p] } }
    else
      let (ports, s) := s.countdown facing rival
      if ports.isEmpty && !s.standby then s
      else
        let s := s.sendContended 5 0 5 63 p ports coll
        { s with so := { s.so with claimSent := true } }
  else s

/-- Slot 6: the datum's decision (R89), which it takes itself as every member does; without one a null frame, since slot 6
has an owner (R87). -/
def State.sendDecision (s : State) (coll : Nat) : State :=
  if !s.actsDatum then s
  else match s.claimDecision with
  | none => s.handOver s.ownPorts (s.ownFrame 4 0 6 63 s.trw.ctl []) coll
  | some (flags, p) => (s.sendControl 5 flags 6 63 p s.ownPorts coll).claimDecided (flags == 2) p

/-- Slot 7: the datum's vote and announcement, in every course (R436, R437). -/
def State.sendAnnounce (s : State) (coll : Nat) : State :=
  if !s.actsDatum then s
  else
    let (flags, p) := s.announcement
    let s := (s.sendControl 6 flags 7 63 p s.ownPorts coll).setB F.WAKE_STAT_VOTING_SLEEP s.votesSleep
    if p.isEmpty then s else s.holdStop (wordsVal (p.take 2)) (p.getD 2 0)

/-! ### Slots from 8 upwards -/

/-- The payload of own PROC slot `i`, of `words` words, is not in hand at the slot's start: the Quarry still holds a row of it
(R209). -/
def State.payloadHeld (s : State) (i words : Nat) : Bool :=
  match s.imgOfs (1 - s.txHost) i with
  | some o => s.qHeld (s.imgBuf (1 - s.txHost) + o) (2 * words)
  | none => false

/-- An own slot of the schedule: PROC, MSG, quoin and VOTE, or a null frame with its cause (R87, R436). A VOTE frame uses
the control sequence, the others their stream's (R92). A message's frames go to the DST of its descriptor or map entry
(R200, R221; log entry 97), and a course in which a null frame says HOST_LATE counts it (R207). A standby, whose Lintels pass
nothing, marks what it built as SENT (R237, DESIGN CHOICE, log entry 98). -/
def State.sendSlot (s : State) (i : Nat) (e : Slot) (coll : Nat) : State :=
  if s.ownerOf i != s.pos || s.pos = 0 then s
  else if e.kind = 8 then
    if s.on F.SETO_STAT_SCHED_MISMATCH then s.handOver s.ownPorts (s.ownFrame 4 0 i e.dst s.trw.ctl []) coll
    else (s.sendControl 6 (2 * s.votesSleep.toNat) i e.dst [] s.ownPorts coll).setB F.WAKE_STAT_VOTING_SLEEP s.votesSleep
  else if e.kind = 6 || e.kind = 7 || e.kind = 9 then
    let none_ := if e.kind = 6 && s.trw.late && !(s.on F.SETO_STAT_SCHED_MISMATCH) then [4, 1] else [4, 0]
    let b := (s.bound i).getD none_
    let b := if b.getD 0 4 = 0 && bit (b.getD 1 0) 1 && s.payloadHeld i (b.length - 2) then [4, 2] else b
    let kind := b.getD 0 4
    let payload := b.drop 2
    let id := payload.getD 0 0
    let dst := if kind = 1 then ((s.sendingMsg e.stream id).map (·.dst)).getD e.dst else e.dst
    let f := s.ownFrame kind (b.getD 1 0) i dst (s.streamNext e.stream).1 payload
    let port := s.ownPorts.headD 0
    let chan := s.serving.headD 0
    let at_ := s.clk.lt + tPre (s.portGen port) + tWord (s.portGen port)
    let s := s.handOver s.ownPorts f coll
    let s := { s with trw := { s.trw with bufTx := s.trw.bufTx.filter (fun p => p.1 != i) } }
    let s := ((s.ctxMove chan i f none at_).ctxState chan i 3).ctxFree chan i
    if kind = 4 then (if b.getD 1 0 = 1 then s.hostLate else s)
    else
      let s := s.advanceSeq e.stream
      if kind = 1 then s.fragSent e.stream id f at_
      else if s.standby || s.ownPorts.any (fun n => s.passed n i) then
        let b := 1 - s.txHost
        s.imgWrite b (0x46 + 8 * i) (le 2 (setBit (s.slotStatus b i) 8 true))
      else s
  else s

/-- The start of slot `i` by the node's own line time (R83). -/
def State.slotTransmit (s : State) (i rival coll : Nat) : State :=
  match s.slot i with
  | none => s
  | some e =>
    if !s.originates then s
    else
      let s := s.elapseLt (s.base + e.start)
      if s.slotMuted i then s
      else match i with
      | 0 => s.sendSync coll
      | 1 => s.sendProbes rival coll
      | 2 => s.sendReport rival coll
      | 3 => s.sendPlan coll
      | 4 => s.sendRoll coll
      | 5 => s.sendClaim rival coll
      | 6 => s.sendDecision coll
      | 7 => s.sendAnnounce coll
      | _ => s.sendSlot i e coll

/-- The instant of R148 at G: the TIMING exchange begins, on Spaka-A towards the position named. -/
def State.timingExchange (s : State) (n dst : Nat) (reply coll : Bool) : State :=
  if !s.originates then s
  else if s.portGen n = 1 && s.up n then s.timingA n dst reply coll
  else s.timingStart

end Sys2Proof.Machine
end

