-- ==== Sys2Proof/Machine/Rx.lean ====
section
/-! DEFINITION. Receiving a Spaka frame (R97, R98): links, relaying, the checks in their order, and what each kind of
frame does. -/

namespace Sys2Proof.Machine

/-! ### Links (R71, R75, R76) -/

/-- A port takes part in setting-out: SP0 and SP1, on a Keystone hub every port; SP0 alone serves a joined trunk (R70). -/
def State.setoutPort (s : State) (n : Nat) : Bool :=
  (n < 2 || bit s.so.hub 0) && !(n == 1 && s.get F.SPK_CFG_GEN 1 == 1 && s.on F.SPK_LINK_JOINED 1)

/-- The link of port `n` comes up on a generation; `master` is the role of its PHY. -/
def State.linkUp (s : State) (n gen : Nat) (master : Bool) : State :=
  if s.up n then s
  else
    let s := ((s.set F.SPK_LINK_UP 1 n).set F.SPK_LINK_GEN gen n).setB F.SPK_LINK_MASTER master n
    let s := ((s.setB F.SPK_LINK_FEC_LOCK (gen == 3) n).inc F.SPK_LINKCNT_UPS n).portIrq n 8
    let miss := !(bit s.sched.genset (gen - 1))
    let s := (s.setB F.SPK_LINK_GEN_MISMATCH miss n).lintelFollow n
    let s := s.setLine n { s.line n with passedAt := s.clk.now }
    if s.setoutPort n && !miss && !s.isOut then s.startProbe n else s

/-- The link of port `n` goes down (R114's triggers, R132). -/
def State.linkDown (s : State) (n : Nat) : State :=
  if !(s.up n) then s
  else
    let facing := s.setoutPort n && !(s.on F.SPK_LINK_GEN_MISMATCH n)
    let s := ((s.set F.SPK_LINK_UP 0 n).set F.SPK_LINK_GEN 0 n).set F.SPK_LINK_MASTER 0 n
    let s := ((s.set F.SPK_LINK_FEC_LOCK 0 n).set F.SPK_LINK_GEN_MISMATCH 0 n).inc F.SPK_LINKCNT_DOWNS n
    let s := s.portIrq n 9
    let s := s.setLine n { s.line n with rxTiming := [], peer := none, probeTx := none, probeRx := none, dSent := none, sending := none }
    if facing && !s.isOut then s.loss n else s

/-! ### Relaying (R77, R78, R98, R145, R171) -/

/-- A frame that comes from another composition as far as this node can tell: its port is under probe, or its generation
differs (R131). -/
def State.alien (s : State) (n : Nat) (f : List Nat) : Bool :=
  s.so.probes.any (fun p => p.port == n) || fGen f != s.gen

/-- A plan, an ABORT or a SYNC of another composition: it is relayed through a joiner (R116, R131), and its SRC and DST are
positions of that composition. -/
def State.alienPlan (s : State) (n : Nat) (f : List Nat) : Bool :=
  s.alien n f && ((fKind f == 3 && fSlot f == 3) || (fKind f == 2 && fSlot f == 0))

/-- The frame is never relayed: a PROBE or a TIMING frame (R116, R147). -/
def neverRelayed (f : List Nat) : Bool := fSlot f == 1 || (fKind f == 3 && fSlot f == 0x3FF)

/-- The node transmits in slot `i` on port `out` in this course (R98). -/
def State.sendsIn (s : State) (i out kind : Nat) : Bool :=
  s.originates && !(s.slotMuted i) && s.ownPorts.contains out &&
    (if i = 2 then s.so.relayed
     else if i = 5 then kind == 5 && s.so.claimSent && (s.so.facing == some out || s.portGen out == 1)
     else (s.ownerOf i == s.pos && s.pos != 0) || (s.so.provis && [0, 3, 6, 7].contains i))

/-- The ports onto which a frame whose W0 has arrived on port `n` may come to be relayed: what W0 alone decides (R98, R131,
R133, and chapter 06 on a hub). A lead token goes to their Lintels (R171). -/
def State.leadPorts (s : State) (n : Nat) (f : List Nat) : List Nat :=
  let i := fSlot f
  if neverRelayed f || !s.running || !s.drives || !(s.serves n) || s.so.excluded.contains n || s.on F.SPK_LINK_GEN_MISMATCH n then []
  else if s.so.silent && !(fKind f == 3 || i == 0) then []
  else s.ownPorts.filter (fun out => out != n && !(s.sendsIn i out (fKind f)))

/-- The ports a frame that arrived on port `n` is relayed to (R98). -/
def State.relayPorts (s : State) (n : Nat) (f : List Nat) : List Nat :=
  if !(s.alienPlan n f) && (fDst f == s.pos || fSrc f == s.pos) then [] else s.leadPorts n f

/-- The null frame of R78 takes the frame's place on port `out`: Spaka-A, and too long for it or barred from it. -/
def State.substitutes (s : State) (out : Nat) (f : List Nat) : Bool :=
  let noA := match s.slot (fSlot f) with | some e => e.noA && s.sched.genset != 1 | none => false
  s.portGen out == 1 && (124 < fLen f || noA)

/-- The frame goes from port `n` to port `out` cut-through (R77). -/
def State.cutsThrough (s : State) (n out : Nat) (f : List Nat) : Bool := s.portGen out == s.portGen n && !(s.substitutes out f)

/-- The line time at which the onward W0 begins (R145). -/
def State.onwardW0 (s : State) (n out stamp stop : Nat) (f : List Nat) : Nat :=
  if s.cutsThrough n out f then stamp + 7 * tWord (s.portGen out) + 32 else stop + 32

/-- Word times of generation `gen` that begin before `t`, counted from `first`. -/
def wordsBefore (gen first : Nat) (t : Int) : Nat := ((t - first + tWord gen - 1) / (tWord gen : Int)).toNat

/-- The lead-in of the onward W0 is sent on port `out`, and no W0 follows it (R171). -/
def State.leadOnto (s : State) (n out stamp stop : Nat) (f : List Nat) : State :=
  if s.relayGate out stamp (fSlot f) then s.emit (.lead out (s.onwardW0 n out stamp stop f - tPre (s.portGen out))) else s

/-- The frame is relayed onto port `out`. `stamp` is the receive stamp of its W0, `stop` that of its last word, `crc`
whether its CRC-32 passes, `close` the instant at which a branch gate cut it. The onward W0 begins as R145 fixes, its lead-in
before it; no more than 12 + LEN words follow, and the transmission ends at the first word boundary at or after G (R85,
R171). `coll` names the Spaka-A ports on which read-back finds a mismatch (R69). DESIGN CHOICE: SPK_SUBST is counted on the
egress port's page (log entry 87). -/
def State.relayOnto (s : State) (n out stamp stop : Nat) (f : List Nat) (crc : Bool) (close : Option Int) (coll : Nat) : State :=
  let g1 := s.portGen out
  let subst := s.substitutes out f
  let first := s.onwardW0 n out stamp stop f
  if !(s.relayGate out stamp (fSlot f)) then
    (if (s.cutsThrough n out f || crc) && s.lintel out = 1 then (s.inc F.GRD_P_NOTOKEN out).irq 0x13 10 else s)
  else if !(s.cutsThrough n out f) && (!crc || close.isSome) then s.leadOnto n out stamp stop f
  else
    let w := if subst then s.nullFor f 3 else f.take (12 + fLen f)
    let most := min (wordsBefore g1 first (s.lintelBase out + s.gapAt))
      (match close with | some c => wordsBefore g1 stamp c | none => w.length)
    let s := if subst then s.inc F.SPK_SUBST out else s
    if most = 0 then s.leadOnto n out stamp stop f
    else
      let s := s.emit (.line out (first - tPre g1) (w.take most))
      let s := s.setLine out { s.line out with relaying := some (fSlot f, first + min most w.length * tWord g1 + tPost g1)
                                               passedAt := s.clk.now }
      if g1 = 1 && bit coll out then s.collide out (fSlot f)
      else if most < w.length then s.emit (.cut out (fSlot f)) else s

/-- Lead-ins alone go out on the ports whose Lintels had a lead token and get no relay token (R171). -/
def State.leadIns (s : State) (n stamp stop : Nat) (f : List Nat) : State :=
  let outs := s.relayPorts n f
  ((s.leadPorts n f).filter (fun o => !(hchkOk f) || !(outs.contains o))).foldl (fun s o => s.leadOnto n o stamp stop f) s

/-- The relay decision and its relays (R97 step 2). Answers whether a Lintel passed the frame cut-through. -/
def State.relay (s : State) (n stamp stop : Nat) (f : List Nat) (crc : Bool) (close : Option Int) (coll : Nat) : Bool × State :=
  let s := if !(s.alienPlan n f) && fSrc f == s.pos && s.pos != 0 && !(neverRelayed f) then (s.inc F.SPK_LOOP n).portIrq n 10 else s
  let s := s.relayRequest n (stamp + 7 * tWord (s.portGen n))
  let outs := s.relayPorts n f
  (outs.any (fun o => s.cutsThrough n o f && s.relayGate o stamp (fSlot f)),
   outs.foldl (fun s o => s.relayOnto n o stamp stop f crc close coll) (s.leadIns n stamp stop f))

/-! ### The checks (R84, R97 steps 3 to 9) -/

/-- A contended slot's countdown of R118, where the frame came through one: S_s then counts from its end. -/
def State.contendOfs (s : State) (e : Slot) (stamp : Nat) : Nat :=
  if e.mode = 4 && bit s.sched.genset 0 && s.base + e.start + 384000 ≤ stamp + s.g then 384000 else 0

/-- The entry a frame's window is counted from. -/
def State.entryFor (s : State) (f : List Nat) (stamp : Nat) : Option Slot :=
  (s.slot (fSlot f)).map (fun e =>
    let o := s.contendOfs e stamp
    { e with start := e.start + o, len := e.len - o })

/-- Step 5. -/
def State.windowOk (s : State) (f : List Nat) (stamp stop : Nat) : Bool :=
  match s.entryFor f stamp with
  | some e =>
    let src := if s.on F.SETO_TAB_HI_PENDING (fSrc f - 1) then 0 else fSrc f
    fCourse f == s.course % 2 ^ 32 && s.inWindow src e stamp stop (fLen f)
  | none => false

/-- Step 6: SRC owns the slot, or may use a contended one; a provisional datum uses the datum's slots (R132). -/
def State.ownerOk (s : State) (f : List Nat) : Bool :=
  match s.slot (fSlot f) with
  | none => false
  | some e =>
    if e.mode = 4 then true
    else if e.mode = 3 then fSrc f == 1 || (s.so.alt != 0 && fSrc f == s.so.alt)
    else fSrc f != 0 && s.ownerOf (fSlot f) == fSrc f

/-- Step 7. -/
def State.lenOk (s : State) (n : Nat) (f : List Nat) : Bool :=
  let lim := min (if s.portGen n = 1 then 124 else 748) (match s.slot (fSlot f) with | some e => e.maxLen | none => 0)
  match fKind f with
  | 0 => fLen f ≤ lim
  | 1 => 2 ≤ fLen f && fLen f ≤ lim
  | 2 => fLen f == 4
  | 3 => fLen f == (if fSlot f = 0x3FF then 14 else 10)
  | 4 => fLen f == 0
  | 5 => fLen f == 8
  | 6 => fLen f == (if bit (fFlags f) 0 then 4 else 0)
  | _ => fLen f == 2

/-- Reserved flag bits or W3[1:0] are set (R93). -/
def reservedBits (f : List Nat) : Bool :=
  (f.getD 3 0) % 4 != 0 || (fKind f == 0 && bit (fFlags f) 0) || ((fKind f == 2 || fKind f == 7) && fFlags f != 0)

/-- One of the error counters of a port, and ERR. -/
def State.rxError (s : State) (n : Nat) (f : Fld) : State := (s.inc f n).portIrq n 10

/-- How the tag and the sender are judged (R135 to R138): consumed, or dropped as a stranger. A PLAN or ABORT of another
composition carries that composition's datum as its SRC (`exempt`), a PROBE or TIMING frame any position. -/
def State.stranger? (s : State) (n : Nat) (f : List Nat) (exempt : Bool) : Bool × State :=
  let uid := frameUid f
  if fKind f = 7 then (false, s)
  else match s.tagSlot f with
  | none => (true, s.stranger uid (fSrc f) n 0)
  | some k =>
    let probe := fKind f = 3 && (fSlot f = 1 || fSlot f = 0x3FF)
    let known := (s.posOf (s.pairUid uid)).isSome
      || (fKind f == 3 && fSlot f == 4 && (s.posOf (min uid (wordsVal (((fPayload f).drop 5).take 3)))).isSome)
    let pending := fSrc f != 0 && s.on F.SETO_TAB_HI_PENDING (fSrc f - 1)
    let prober := s.so.probes.any (fun q => q.passed != 0 && (q.uid == uid || q.outer == uid))
    if !probe && !(exempt && fSlot f == 3) && s.count < fSrc f then (true, s.stranger uid (fSrc f) n 2)
    else if !probe && !prober && (fKind f == 3 || fKind f == 5) && uid != 0xFFFFFFFFFFFF && !known && !pending then
      (true, s.stranger uid (fSrc f) n 1)
    else
      let s := if 2 ≤ k then s.stranger uid (fSrc f) n 3 else s
      let twice := probe && fSlot f = 1 && known && !(fGen f == s.gen && bits ((fPayload f).getD 3 0) 6 6 == s.count)
      (false, if twice then s.stranger uid (fSrc f) n 4 else s)

/-! ### Messages (R99, R100, R202, R203) -/

/-- The context number of a partial message. -/
def partialCtx (src stream : Nat) : Nat := 0x10000000 + src * 65536 + stream

/-- A partial message is discarded (R100). -/
def State.dropPartial (s : State) (m : RxMsg) : State :=
  let chans := (s.trw.ctxs.filter (fun x => x.slot == partialCtx m.src m.stream)).map (·.chan)
  let s := chans.foldl (fun s c => s.ctxFree c (partialCtx m.src m.stream)) s
  ({ s with trw := { s.trw with rx := s.trw.rx.erase m, broken := (m.uid, m.stream, m.id) :: s.trw.broken } }).inc F.TRW_MSG_DISCARD

/-- The identifier of a message that has been delivered is kept for its sender and stream (R203). -/
def State.givenMsg (s : State) (m : RxMsg) : State :=
  { s with trw := { s.trw with given := (m.uid, m.stream, m.id) :: s.trw.given.filter (fun g => !(g.1 == m.uid && g.2.1 == m.stream)) } }

/-- A complete message: a repeat of one delivered is discarded, and otherwise a map entry or the lowest-numbered matching
receive queue takes it (R202, R203, R221). DESIGN CHOICE: a message that a map entry or a descriptor took counts as
delivered, whatever status the descriptor ends with (log entry 99). -/
def State.deliverMsg (s : State) (m : RxMsg) (stamp : Nat) (desc : List Nat) : State :=
  if s.trw.given.contains (m.uid, m.stream, m.id) then s.inc F.TRW_MSG_DUP
  else
    let restart := s.trw.broken.contains (m.uid, m.stream, m.id)
    let s := { s with trw := { s.trw with broken := s.trw.broken.filter (fun g => !(g.1 == m.uid && g.2.1 == m.stream)) } }
    let (taken, s) := s.mapUnpack m.stream m.src m.words
    if taken then s.givenMsg m
    else match ((List.range 64).map (· + 64)).find? (fun q => s.on F.Q_BASE_HI_EN q && s.get F.Q_BIND_CLASS q == 0
        && s.get F.Q_BIND_TARGET q == m.stream && (s.get F.Q_BIND_SRC q == 0 || s.get F.Q_BIND_SRC q == m.src)) with
    | some q =>
      let (given, s) := s.rxOffer q (leBytes m.words) m.src (m.deferred.toNat + 2 * restart.toNat) m.id stamp desc
      if given then s.givenMsg m else s
    | none => s.inc F.TRW_RX_NOQ

/-- A fragment has passed through the context of its message, which waits for the next one: MOVING, then WAITING (R197). -/
def State.fragHeard (s : State) (src stream : Nat) (f : List Nat) (stamp : Nat) : State :=
  let chans := (s.trw.ctxs.filter (fun x => x.slot == partialCtx src stream)).map (·.chan)
  chans.foldl (fun s c => (s.ctxMove c (partialCtx src stream) f none stamp).ctxState c (partialCtx src stream) 5) s

/-- An MSG frame on port `n` (R99, R100). -/
def State.msgRx (s : State) (n : Nat) (f : List Nat) (e : Slot) (stamp : Nat) (desc : List Nat) : State :=
  let p := fPayload f
  let uid := s.tabUid (fSrc f)
  let id := p.getD 0 0
  let ix := p.getD 1 0 / 256
  let last := p.getD 1 0 % 256
  let old := s.trw.rx.find? (fun m => m.uid == uid && m.stream == e.stream)
  let fresh : RxMsg := ⟨uid, fSrc f, e.stream, id, 1, last, p.drop 2, fSeq f, s.course, false, false, stamp⟩
  match fFlags f with
  | 0 =>
    let s := match old with | some m => s.dropPartial m | none => s
    if ix = 0 && last = 0 then s.deliverMsg fresh stamp desc else s
  | 1 =>
    let s := match old with | some m => s.dropPartial m | none => s
    if ix != 0 || last = 0 then s
    else
      let (got, s) := s.ctxAlloc n 1 (partialCtx (fSrc f) e.stream)
      if !got then s
      else
        let s := s.fragHeard (fSrc f) e.stream f stamp
        { s with trw := { s.trw with rx := s.trw.rx ++ [fresh] } }
  | c =>
    match old with
    | none => s
    | some m =>
      let whole := c = 3
      if m.id != id || m.next != ix || m.last != last || fSeq f != (m.seq + 1) % 65536 || (whole != (ix == last)) then s.dropPartial m
      else
        let m' : RxMsg := { m with next := ix + 1, words := m.words ++ p.drop 2, seq := fSeq f, course := s.course, stamp := stamp, src := fSrc f }
        if whole then
          let chans := (s.trw.ctxs.filter (fun x => x.slot == partialCtx m.src m.stream)).map (·.chan)
          let s := chans.foldl (fun s c => s.ctxFree c (partialCtx m.src m.stream)) s
          ({ s with trw := { s.trw with rx := s.trw.rx.erase m } }).deliverMsg m' stamp desc
        else
          let s := s.fragHeard m.src m.stream f stamp
          { s with trw := { s.trw with rx := s.trw.rx.map (fun x => if x = m then m' else x) } }

/-- A partial message whose last fragment lies 16 courses back is discarded at the horizon (R100). -/
def State.reassemblyTimeout (s : State) : State :=
  if s.inFlight s.base then s else (s.trw.rx.filter (fun m => m.course + 16 ≤ s.course)).foldl (fun s m => s.dropPartial m) s

/-! ### What the kinds do -/

/-- The datum is in courses n + 13 to n + 15 of an announcement it has not withdrawn: an AWAKE vote or a REPORT no longer
withdraws it, and nothing answers them before the sleep, which drops them (R438; log entry 105). -/
def State.lateForSleep (s : State) : Bool :=
  match s.pwr.announce with
  | some n => !s.pwr.withdrawn && n + 13 ≤ s.course && s.course ≤ n + 15
  | none => false

/-- A REPORT that reached this node (R117, R120, R132, R438). -/
def State.reportRx (s : State) (f : List Nat) : State :=
  let p := fPayload f
  let s := if p.getD 3 0 % 4 = 2 && !s.so.provis then
      { s with so := { s.so with alt := (s.posOf (s.pairUid (wordsVal ((p.drop 5).take 3)))).getD (fSrc f)
                                 orphanAt := none } }
    else s
  if !s.actsDatum then s
  else
    let s := { s with pwr := { s.pwr with awake := true } }
    if s.lateForSleep then s.inc F.WAKE_LATE else s.answerLater p

/-- A REPORT that the node's own REPORT of this course keeps from being relayed is stored, four at most (R117). -/
def State.storeReport (s : State) (n : Nat) (f : List Nat) : State :=
  let kept := s.so.relayed && (s.alien n f || (fDst f != s.pos && fSrc f != s.pos)) && s.ownPorts.any (fun o => o != n)
  if !kept then s
  else if 4 ≤ s.so.stored.length then s.inc F.SETO_RPT_OVF
  else { s with so := { s.so with stored := s.so.stored ++ [(fDst f, fPayload f)] } }

/-- A PLAN: the node holds it, and the directory of the host's transmit buffer follows it where it serves the commit
course (R140, R208). -/
def State.planTaken (s : State) (n : Nat) (f : List Nat) : State :=
  let s := s.planRx (fGen f) (s.joinsBy n f) (fPayload f)
  let commit := wordsVal ((fPayload f).take 2)
  if commit = s.course + 1 && s.so.plan.isSome then s.planDirectory s.preview commit else s

/-- A SETOUT frame in its slot. -/
def State.setoutRx (s : State) (n stamp : Nat) (f : List Nat) (inst : Bool) : State :=
  match fSlot f, fFlags f with
  | 1, 0 => s.probeRx n stamp (fPayload f) inst
  | 2, 1 => s.reportRx f
  | 3, 2 => s.planTaken n f
  | 3, 3 => s.abortRx (fPayload f)
  | 4, 0 => s.rollRx (fPayload f)
  | _, _ => s

/-- A VOTE frame (R436 to R438). -/
def State.voteRx (s : State) (f : List Nat) : State :=
  let p := fPayload f
  let ann := bit (fFlags f) 0
  if fSlot f = 7 then (if ann then s.holdStop (wordsVal (p.take 2)) (p.getD 2 0 % 8) else s)
  else if !s.actsDatum then s
  else if bit (fFlags f) 1 && !ann then
    { s with pwr := { s.pwr with voted := s.pwr.voted ++ [(fSrc f, fSlot f)] } }
  else
    let s := { s with pwr := { s.pwr with awake := true } }
    if s.lateForSleep then s.inc F.WAKE_LATE else s

/-- A valid SYNC of the node's own generation: ε of R150 item 2, and the marks of the course. The standby of the datum's pair
hears its own position over the coupling, whose delay is CPL_D (R240). -/
def State.syncRx (s : State) (stamp : Nat) (f : List Nat) : State :=
  let t := wordsVal ((fPayload f).take 4)
  let d := if s.standby && fSrc f == s.pos then some (s.get F.TWIN_CPL_CPL_D) else s.pathD (s.tabUid (fSrc f)) (fLen f)
  let eps := d.map (fun d => (t : Int) + d - stamp)
  { s with pace := { s.pace with syncEps := eps.or s.pace.syncEps }, so := { s.so with syncSeen := true } }

/-- The last two SYNCs of a survivor (R155). -/
def State.survivorSync (s : State) (f : List Nat) : State :=
  let x := (fCourse f, wordsVal ((fPayload f).take 4))
  { s with so := { s.so with syncs := x :: (s.so.syncs.filter (fun y => y.1 != x.1)).take 1 } }

/-- A frame that passed every check and is addressed to this node. -/
def State.consume (s : State) (n stamp : Nat) (f : List Nat) (inst : Bool) (desc : List Nat) : State :=
  let s := s.ctxState n (0x30000000 + fSlot f) 4
  match fKind f with
  | 0 => (match s.slot (fSlot f) with
          | some e => if e.kind = 6 then s.storeRx s.rxFilling (fSlot f) (1 + 2 * (bit (fFlags f) 1).toNat) (fPayload f) else s
          | none => s)
  | 1 => (match s.slot (fSlot f) with | some e => s.msgRx n f e stamp desc | none => s)
  | 2 => s.syncRx stamp f
  | 3 => s.setoutRx n stamp f inst
  | 4 => (match s.slot (fSlot f) with
          | some e => if e.kind = 6 then s.storeRx s.rxFilling (fSlot f) (4 + 8 * fFlags f) [] else s
          | none => s)
  | 5 => (if fSlot f = 6 then s.claimDecided (fFlags f == 2) (fPayload f) else s.claimHeard (fFlags f == 3) (fPayload f))
  | 6 => s.voteRx f
  | _ => s

/-- A frame is addressed to this node: all, its own position, or an unassigned node (R91). -/
def State.addressed (s : State) (f : List Nat) : Bool :=
  fDst f == 63 || fDst f == s.pos || (fDst f == 0 && fKind f == 3)

/-- A valid frame stamped at `stamp` keeps a line wake where the stamp lies before the deadline (R443). -/
def State.confirmWake (s : State) (stamp : Nat) : State :=
  match s.pwr.confirm with
  | some d => if s.clk.now - (s.clk.lt - stamp) < d then { s with pwr := { s.pwr with confirm := none } } else s
  | none => s

/-- A SYNC that passes every check yet comes from another composition (R131, R155): on a port under probe, at a datum, or
beside the SYNCs that the datum-facing port gives. -/
def State.surveySync (s : State) (n : Nat) (f : List Nat) : Bool :=
  !(s.standby && fSrc f == s.pos) && (s.so.probes.any (fun q => q.port == n) || s.pos == 1
    || (s.so.facing.isSome && s.so.facing != some n && s.get F.LINE_STAT_SYNC_MISS == 0 && s.so.alt == 0 && !s.so.provis))

/-- A node that does not know its datum-facing port learns it from slot 0 (R114). -/
def State.faceSync (s : State) (n : Nat) (f : List Nat) : State :=
  if s.so.facing.isSome || s.pos = 1 || s.so.provis || (s.standby && fSrc f == s.pos) then s
  else
    let s := { s with so := { s.so with facing := some n } }
    if s.on F.SETO_STAT_ORIENT_SRC || s.on F.SETO_STAT_ORIENT == (n == 0) then s
    else
      let s := (s.setB F.SETO_STAT_ORIENT (n == 0)).irq 0x11 12
      s.setEntry s.pos { s.entry s.pos with orient := n == 0 }

/-- Port `n` is under probe: what arrives there comes from another composition, and observes no member (R154). -/
def State.underProbe (s : State) (n : Nat) : Bool := s.so.probes.any (fun q => q.port == n)

/-- A frame that passed every check of R97 (R154, R443): the path model takes its observation, a line wake is confirmed,
and it is counted and consumed where it is addressed to the node. -/
def State.accepted (s : State) (n stamp : Nat) (f : List Nat) (exempt inst : Bool) (desc : List Nat) : State :=
  let s := if fKind f = 7 then s else s.confirmWake stamp
  let uid := s.tabUid (fSrc f)
  let own := s.standby && fSrc f == s.pos
  let before := s
  let s := if fKind f = 2 && s.addressed f then
      (if s.surveySync n f then (s.inc F.SPK_RX_OK n).survivorSync f else ((s.inc F.SPK_RX_OK n).consume n stamp f inst desc).faceSync n f)
    else s
  let s := match s.entryFor f stamp with
    | some e => if exempt || own || fSrc f = 0 || uid = 0 || (fKind f = 3 && fSlot f = 1) || s.underProbe n then s
                else s.observe uid (fLen f) ((stamp : Int) - (s.base + e.start : Nat))
    | none => s
  let data := fKind f = 0 || fKind f = 1 || fKind f = 4 || (fKind f = 6 && 8 ≤ fSlot f)
  if fKind f = 2 || !(before.addressed f) || (data && !exempt && fSrc f == s.pos) then s else (s.inc F.SPK_RX_OK n).consume n stamp f inst desc

/-- A frame stamped at `stamp` on port `n` lies where R251 has the standby hear its position: on its one port, in
[S_s - g, S_s + CPL_D + g). -/
def State.plumbHears (s : State) (n : Nat) (f : List Nat) (stamp : Nat) : Bool :=
  n == s.plumbPort && (match s.entryFor f stamp with
    | some e => s.base + e.start ≤ stamp + s.g && decide (stamp < s.base + e.start + s.get F.TWIN_CPL_CPL_D + s.g)
    | none => false)

/-- Steps 3 to 9 of R97 for a frame whose relaying is decided. `cut` tells it was relayed cut-through. -/
def State.judge97 (s : State) (n stamp stop : Nat) (f : List Nat) (cut : Bool) (desc : List Nat) : State :=
  let crc := fcrcOk f
  let kind := fKind f
  let slot := fSlot f
  let p := fPayload f
  let exempt := kind = 3 && (s.so.probes.any (fun q => q.port == n) || fGen f != s.gen || s.joinsBy n f)
  let own := s.standby && fSrc f == s.pos && s.pos != 0
  let s := if own && s.plumbHears n f stamp then s.plumbHeard f crc else s
  let s := if own then s.pairStraps f else s
  if kind = 2 && slot = 0 && !(s.on F.LINE_STAT_LOCK) && !s.isSource && fGen f == s.gen && crc && (s.tagSlot f).isSome && fLen f = 4 then
    (s.inc F.SPK_RX_OK n).reacquire (wordsVal (p.take 4)) stamp (fLen f) (fCourse f)
  else if !exempt && s.base + s.gapAt ≤ stop then ((s.pairFault f).inc F.SPK_LATE n).portIrq n 11 |>.portIrq n 10
  else if 8 ≤ kind then (s.pairFault f).rxError n F.SPK_KIND_ERR
  else
    let s := if reservedBits f then s.rxError n F.SPK_KIND_ERR else s
    let genOk := kind = 3 || kind = 7 || fGen f == s.gen
    let win := exempt || kind = 7 || s.windowOk f stamp stop
    let own := exempt || kind = 7 || s.ownerOk f
    let len := s.lenOk n f
    if genOk && win && own && len && crc then
      let (drop, s) := s.stranger? n f exempt
      if drop then s.pairFault f
      else s.accepted n stamp f exempt ((s.tagSlot f).any (fun k => 2 ≤ k)) desc
    else
      let tag := (s.tagSlot f).isSome
      let s := s.pairFault f
      let s' := if !genOk then s.rxError n F.SPK_STALE_GEN else if !win then s.rxError n F.SPK_WINDOW_ERR
        else if !own then s.rxError n F.SPK_OWNER_ERR else if !len then s.rxError n F.SPK_LEN_ERR
        else if cut then (s.rxError n F.SPK_CRC_ERR).rxError n F.SPK_RELAY_CRC else s.rxError n F.SPK_CRC_ERR
      let s' := if kind = 2 && slot = 0 && len && crc && tag && (!genOk || !win) then s'.survivorSync f else s'
      let s' := if kind = 2 && slot = 0 && !genOk && win && own && len && crc && tag then
          { s' with so := { s'.so with foreign := true } } else s'
      let uid := s.tabUid (fSrc f)
      if genOk && !win && own && len && crc && tag && fSrc f != 0 && fSrc f ≤ s.count && uid != 0
          && !(kind = 3 && slot = 1) && !(s.standby && fSrc f == s.pos) && !(s.underProbe n) then
        (match s.entryFor f stamp with
         | some e => s'.observe uid (fLen f) ((stamp : Int) - (s.base + e.start : Nat))
         | none => s')
      else s'

/-- A TIMING frame: steps 5 and 6 do not apply (R147). -/
def State.timingFrame (s : State) (n stamp stop : Nat) (f : List Nat) : State :=
  let s := if reservedBits f then s.rxError n F.SPK_KIND_ERR else s
  if !(s.lenOk n f) then (s.pairFault f).rxError n F.SPK_LEN_ERR
  else if !(fcrcOk f) then (s.pairFault f).rxError n F.SPK_CRC_ERR
  else
    let (drop, s) := s.stranger? n f true
    if drop then s.pairFault f
    else if !(s.addressed f) then s
    else ((s.inc F.SPK_RX_OK n).timingRx n stamp stop (fPayload f)).confirmWake stamp

/-- The port islands run courses: start-up is complete, and the power state is RUN with no entry and no WAKING phase. What
they do alone - branch gates, the watches of R174, SYNC tokens - does not wait for the Trowel. -/
def State.portsLive (s : State) : Bool :=
  decide (8 ≤ s.isl.started) && s.power == 0 && !(s.on F.PWR_STAT_ENTERING) && !(s.on F.PWR_STAT_WAKING)

/-- What the port island alone makes of a frame that passed HCHK and that a branch gate, where there is one, let through:
the Heard watch (R174, R182) and the SYNC token (R167). -/
def State.portHears (s : State) (n stamp : Nat) (f : List Nat) : State :=
  let timing := fKind f = 3 && fSlot f = 0x3FF
  let s := if s.ownerOf (fSlot f) = fSrc f && fSrc f != 0 && !timing then s.hear (fSrc f) else s
  if fKind f = 2 && fSlot f = 0 && (n < 2 || s.so.facing = some n)
      && ((s.line n).map.map (·.gen)) = some (fGen f) && !s.isSource then s.syncToken stamp else s

/-- A frame that the Trowel takes from port `n`: a context, the checks of R97, and what the frame does. -/
def State.deliverFrame (s : State) (n stamp stop : Nat) (f : List Nat) (short cut : Bool) (desc : List Nat) : State :=
  if s.fallsShort short then s.inc F.TRW_SHORT_DROP
  else
    let (got, s) := s.ctxFrame n (0x30000000 + fSlot f) f stamp
    if !got then s
    else
      let s := if fKind f = 3 && fSlot f = 0x3FF && fFlags f = 0 then s.timingFrame n stamp stop f else s.judge97 n stamp stop f cut desc
      s.ctxFree n (0x30000000 + fSlot f)

/-- A frame that passed HCHK and, on a branch port, its gate: relayed where `relayed` says so, cut at `close` where the gate
cut it, and otherwise taken by the Trowel (R97, R180). -/
def State.trowelTakes (s : State) (n stamp stop : Nat) (f : List Nat) (relayed : Bool) (close : Option Int) (short : Bool)
    (desc : List Nat) (coll : Nat) : State :=
  let (cut, s) := if relayed then s.relay n stamp stop f (fcrcOk f) close coll else (false, s)
  if close.isSome then s
  else
    let s := if fKind f = 3 && fSlot f = 2 && fFlags f = 1 && fcrcOk f && (s.tagSlot f).isSome then s.storeReport n f else s
    s.deliverFrame n stamp stop f short cut desc

/-- A header crosses to the Trowel; while a slice isolates the engine the port island holds the crossing (R194). -/
def State.crosses (s : State) (n stamp stop : Nat) (f : List Nat) (relayed : Bool) (close : Option Int) (short : Bool)
    (desc : List Nat) (coll : Nat) : State :=
  if s.engineHeld then { s with trw := { s.trw with crossing := s.trw.crossing ++ [Crossing.mk n stamp stop f relayed close short desc coll] } }
  else s.trowelTakes n stamp stop f relayed close short desc coll

/-- The slice of the engine is over: the crossings that port islands held go on, in their order, and local frames that waited
are taken (R194, R227). -/
def State.engineBack (s : State) : State :=
  if s.engineHeld then s
  else
    let held := s.trw.crossing
    (held.foldl (fun (s : State) (c : Crossing) => if s.running then s.trowelTakes c.port c.stamp c.stop c.words c.relayed c.close c.short c.desc c.coll else s)
      { s with trw := { s.trw with crossing := [] } }).drainLocal

/-- A frame arrives on port `n`: `stamp` of its W0 by the node's line time, its words as received. `short` tells that
the port's channel lacked the wheel share to finish it in time (R189), `desc` is what host memory answers for a receive
descriptor, `coll` names the Spaka-A ports on which read-back finds a mismatch while it is relayed (R69). -/
def State.frameReceive (s : State) (n stamp : Nat) (f : List Nat) (short : Bool) (desc : List Nat) (coll : Nat) : State :=
  let cfg := s.get F.SPK_CFG_GEN n
  let gen := if cfg = 1 then 1 else s.portGen n
  let stop := stamp + (f.length - 1) * tWord gen
  let s := s.elapseLt stop
  let down := cfg = 0 || (cfg != 1 && !(s.up n)) || s.get F.SPK_TEST n != 0 || s.islandAsleep n || 8 ≤ n
  if down || (n = 1 && cfg = 1 && s.on F.SPK_LINK_JOINED 1) then s
  else if !(hchkOk f) then
    let s := (s.pairFault f).rxError n F.SPK_HDR_ERR
    let s := if s.gated n then s else s.leadIns n stamp stop f
    if s.standby && s.ownerOf (fSlot f) = s.pos && s.plumbHears n f stamp then s.plumbHeard f false else s
  else
    let s := if cfg = 1 then (s.setLine n { s.line n with lastRx := s.clk.now - (s.clk.lt - stamp) }).linkUp n 1 false else s
    if !s.portsLive then s
    else if !(s.gated n) then
      let s := s.portHears n stamp f
      if s.running then s.crosses n stamp stop f true none short desc coll else s
    else
      let cutBr := s.get F.HUB_BR_STAT_STATE n != 0
      let closed := s.lintel n != 1
      match s.branchGate n stamp stop f with
      | .violation => s.branchViolation n (fSlot f) (fSrc f)
      | .drop => s
      | .overrun close =>
        let s := s.branchViolation n (fSlot f) (fSrc f)
        if cutBr || closed || !s.running then s else s.crosses n stamp stop f true (some close) short desc coll
      | .deliver => if cutBr || !s.running then s else s.crosses n stamp stop f false none short desc coll
      | .pass =>
        if cutBr then s
        else
          let s := (s.inc F.HUB_BR_FWD n).portHears n stamp f
          if s.running then s.crosses n stamp stop f (!closed) none short desc coll else s

end Sys2Proof.Machine
end

