-- ==== Sys2Proof/Machine/TwinRec.lean ====
section
/-! DEFINITION. The course state record (R244 to R249, R240, R253, R400): its bytes, sending it, and what a standby does
with one it receives. -/

namespace Sys2Proof.Machine

/-! ### Digests and sections -/

/-- The transmit messages in progress, by ascending stream: the first of each stream, with a fragment sent. -/
def State.openMsgs (s : State) : List TxMsg :=
  let ms := s.trw.tx.filter (fun t => 0 < t.frag)
  let streams := ((ms.map (fun t => (t.stream, 0))).foldr insertSlot []).map (·.1)
  streams.eraseDups.filterMap (fun x => ms.find? (fun t => t.stream == x))

/-- The channel code of a transmit message: 11 host queues, 9 and 10 the local map entries (R185). -/
def TxMsg.channel (t : TxMsg) : Nat := if t.q < 0x100 then 11 else if t.q < 0x200 then 9 else 10

/-- The context digests (R245). -/
def State.ctxDigests (s : State) : List Nat :=
  (List.range 16).map (fun c =>
    let ms := s.openMsgs.filter (fun t => t.channel == c)
    if ms.isEmpty then 0 else crc32r ((ms.map (fun t => le 2 t.stream ++ le 2 t.id ++ [t.frag])).flatten))

/-- The table digest: SETO_TAB entries 1 to count (R246). -/
def State.tableDigest (s : State) : Nat :=
  crc32r (((List.range s.count).map (fun i =>
    le 4 (s.get F.SETO_TAB_LO i) ++ le 4 (s.get F.SETO_TAB_HI_UID i + 2 ^ 16 * s.get F.SETO_TAB_HI_PENDING i
      + 2 ^ 17 * s.get F.SETO_TAB_HI_ORIENT i + 2 ^ 18 * s.get F.SETO_TAB_HI_TWIN i + 2 ^ 19 * s.get F.SETO_TAB_HI_PREF i))).flatten)

/-- The stream table's entries in use, ascending: stream, next sequence, next identifier, next fragment, MSG_OPEN. -/
def State.streamRows (s : State) : List (Nat × Nat × Nat × Nat × Bool) :=
  let names := (((s.trw.streams.map (fun x => (x.1, 0))).foldr insertSlot []).map (·.1)).eraseDups
  names.map (fun x =>
    let n := s.streamNext x
    match s.openMsgs.find? (fun t => t.stream == x) with
    | some t => (x, n.1, n.2, t.frag, true)
    | none => (x, n.1, n.2, 0, false))

/-- The stream table (R245). -/
def State.streamTable (s : State) : List Nat :=
  let rows := s.streamRows.take 1024
  (rows.map (fun r => le 2 r.1 ++ le 2 r.2.1 ++ le 2 r.2.2.1 ++ [r.2.2.2.1, r.2.2.2.2.toNat])).flatten
    ++ (List.replicate (1024 - rows.length) [0xFF, 0xFF, 0, 0, 0, 0, 0, 0]).flatten

/-- The path models of positions 1 to 62, padded to 512 bytes (R245). -/
def State.modelTable (s : State) : List Nat :=
  ((List.range 62).map (fun i =>
    match (if i < s.count then s.pace.models.find? (fun m => m.1 == s.tabUid (i + 1)) else none) with
    | some (_, d0, l1, k) => le 4 (min d0 0xFFFFFFFF) ++ le 2 (min (k.getD 0) 0xFFFF) ++ le 2 (1 + 2 * k.isSome.toNat + 4 * min l1 0x3FF)
    | none => List.replicate 8 0)).flatten ++ List.replicate 16 0

/-- δ and θ of the ports (R245). -/
def State.portTable (s : State) : List Nat :=
  ((List.range 8).map (fun n => le 4 (s.get F.LINE_P_DLY_DELAY n) ++ le 4 (s.get F.LINE_P_THETA n))).flatten

/-- The host block the active sends with course `k`: none on a single lane (R244, R247). -/
def State.hostBlock (s : State) (k : Nat) : Option (List Nat) × State :=
  if !(s.on F.TWIN_CFG_HOST_EN) || s.on F.TIE_STAT_SINGLE then (none, s)
  else
    let h := s.get F.TWIN_HOST_LEN
    let (st, bs, s) := s.qRead 8 (s.get F.TWIN_HOST_TX * 8 + k % 2 * h) h
    (if st = .ok then some bs else none, s)

/-- The record of the course that has closed (R245, R246): `swapAt` 0 where no swap is proposed. -/
def State.recordBytes (s : State) (swapAt : Nat) (block : Option (List Nat)) : List Nat :=
  let b := block.getD []
  let k := s.course - 1
  let head := le 2 0x7E51 ++ [1, (swapAt != 0).toNat + 2 * block.isSome.toNat] ++ le 4 k ++ le 2 s.gen ++ [s.pos, s.count]
    ++ le 4 s.sched.id ++ le 8 s.base ++ le 4 swapAt ++ le 4 s.tableDigest ++ le 4 s.twin.ownDigest ++ le 2 s.twin.ownCount ++ le 2 0
    ++ le 4 b.length ++ le 4 (s.get F.MARK_NEXT_SEQ) ++ le 2 (s.get F.MARK_STAT_GEN) ++ le 2 0 ++ le 4 (s.get F.TWIN_HEALTH)
    ++ le 4 (0x3004 + b.length) ++ le 4 0
  let body := head ++ (s.ctxDigests.map (le 4)).flatten ++ s.streamTable ++ ((List.range 48).map s.loadEntry).flatten
    ++ ((List.range 48).map s.mtrEntry).flatten ++ s.modelTable ++ s.portTable ++ List.replicate 320 0 ++ b
  body ++ le 4 (crc32r body)

/-! ### Sending (R33 step 9) -/

/-- The twin that was active (`was` 1) in the course that has closed sends its record, after a swap as well; a twin that
goes OUT sends none. A standby freezes its snapshot (R237, R244, R248, R262 step 7). -/
def State.recordBoundary (s : State) (was : Nat) : State :=
  if !s.boot.twin then s
  else
  let s :=
    if was = 1 && s.baseRole != 2 then
      let (at_, s) := s.propose
      let (block, s) := s.hostBlock (s.course - 1)
      let s := s.tieSend 1 (s.course - 1) (s.recordBytes at_ block)
      { s.set F.TWIN_REC_COURSE (s.course - 1) with twin := { s.twin with ackOk := false } }
    else s
  if s.baseRole = 1 then s
  else
    let s : State := { s with twin := { s.twin with
      snapshot := s.streamRows.map (fun (r : Nat × Nat × Nat × Nat × Bool) => (r.1, r.2.1, r.2.2.1)),
      snapFrags := s.openMsgs.map (fun (t : TxMsg) => (t.stream, t.frag)),
      snapDigest := s.ctxDigests, snapTable := s.tableDigest, snapHead := [s.gen, s.pos, s.count, s.sched.id] } }
    s.loadBoundary.meterBoundary

/-! ### Receiving (R248, R249) -/

/-- A record is whole, of this version, and of the course that has just closed. -/
def State.recordOk (s : State) (r : List Nat) : Bool :=
  0x3004 ≤ r.length && r.take 3 == [0x51, 0x7E, 1] && leVal ((r.drop 0x38).take 4) == r.length
    && r.drop (r.length - 4) == le 4 (crc32r (r.take (r.length - 4))) && leVal ((r.drop 4).take 4) + 1 == s.course

/-- A counter rebased: record + (live − snapshot), modulo its width (R248). -/
def rebase (w rec live snap : Nat) : Nat := (rec + (live + 2 ^ w - snap)) % 2 ^ w

/-- One entry of the record's stream table is carried. -/
def State.carryStream (s : State) (e : List Nat) : State :=
  let v (o k : Nat) : Nat := leVal ((e.drop o).take k)
  let x := v 0 2
  if x = 0xFFFF then s else
    let live := s.streamNext x
    let snap := look (0, 0) x (s.twin.snapshot.map (fun r => (r.1, (r.2.1, r.2.2))))
    let seq := rebase 16 (v 2 2) live.1 snap.1
    let id := rebase 16 (v 4 2) live.2 snap.2
    let frag0 := look 0 x s.twin.snapFrags
    let tx := match s.trw.tx.find? (fun t => t.stream == x) with
      | some t =>
        let frag := rebase 8 (v 6 1) t.frag frag0
        s.trw.tx.map (fun y => if y = t then { y with frag := frag, bound := frag + (y.bound - y.frag) } else y)
      | none => s.trw.tx
    { s with trw := { s.trw with streams := put x (seq, id) s.trw.streams, tx := tx } }

/-- The path models of the members are set from the record (R240). -/
def State.carryModels (s : State) (t : List Nat) : State :=
  let adj := signed 16 (s.get F.TWIN_CPL_D_ADJ)
  (List.range s.count).foldl (fun s i =>
    let v (o k : Nat) : Nat := leVal ((t.drop (8 * i + o)).take k)
    if i + 1 = s.pos then s
    else if bit (v 6 1) 0 then
      let k := if bit (v 6 1) 1 then some (v 4 2) else none
      { s with pace := { s.pace with models := put (s.tabUid (i + 1)) (((v 0 4 : Int) + adj).toNat, v 6 2 / 4 % 1024, k) s.pace.models } }
    else { s with pace := { s.pace with models := s.pace.models.filter (fun m => m.1 != s.tabUid (i + 1)) } }) s

/-- The differences between the record and the standby's snapshot, other than in context digests: generation, position,
count, SCHED_ID, table, the entries of the stream table and channel statuses (R248). DEDUCED: what the two twins hold by
their own measurement or numbering - path models, port delays, metering (R370), the Mark head (R400) - is not compared (log
entry 102). -/
def State.recordDiffs (s : State) (r : List Nat) (statuses : Nat) : Nat :=
  let v (o k : Nat) : Nat := leVal ((r.drop o).take k)
  let head := [v 8 2, v 10 1, v 11 1, v 12 4]
  let h := ((List.range 4).filter (fun i => head.getD i 0 != s.twin.snapHead.getD i 0)).length
  let streams := ((List.range 1024).filter (fun i =>
    let o := 0x80 + 8 * i
    let x := v o 2
    x != 0xFFFF && ((v (o + 2) 2, v (o + 4) 2) != look (0, 0) x (s.twin.snapshot.map (fun q => (q.1, (q.2.1, q.2.2))))
      || v (o + 6) 1 != look 0 x s.twin.snapFrags || bit (v (o + 7) 1) 0 != s.twin.snapFrags.any (fun q => q.1 == x)))).length
  let gone := (s.twin.snapshot.filter (fun q => !((List.range 1024).any (fun i => v (0x80 + 8 * i) 2 == q.1)))).length
  h + gone + (v 0x1C 4 != s.twin.snapTable).toNat + streams + statuses

/-- A valid record is taken (R240, R247, R248, R253, R262 step 3, R370, R400). -/
def State.acceptRecord (s : State) (r : List Nat) : State :=
  let v (o k : Nat) : Nat := leVal ((r.drop o).take k)
  let k := v 4 4
  let ctx := ((List.range 16).filter (fun c => v (0x40 + 4 * c) 4 != s.twin.snapDigest.getD c 0)).length
  let table := v 0x1C 4 != s.twin.snapTable
  let (bad, s1) := (List.range 48).foldl (fun (x : Nat × State) n =>
    let (d, s) := x.2.carryLoad n ((r.drop (0x2080 + 32 * n)).take 32)
    (x.1 + d.toNat, s)) (0, s)
  let diffs := s.recordDiffs r bad
  let s := s1.add F.TWIN_CTX_DIFF ctx
  let s := s.add F.TWIN_STATE_DIFF diffs
  let s := (List.range 1024).foldl (fun s i => s.carryStream ((r.drop (0x80 + 8 * i)).take 8)) s
  let entry (n : Nat) : List Nat := (r.drop (0x2680 + 32 * n)).take 32
  let s := (List.range 48).foldl (fun s n => s.carryMeter n (entry n)) s
  let s := match (List.range 48).find? (fun n => entry n != List.replicate 32 0) with
    | some n => s.carrySeq (leVal (((entry n).drop 20).take 4))
    | none => s
  let s := s.carryModels ((r.drop 0x2C80).take 512)
  let self := v 0x20 4 != s.twin.lastHeard
  let s := (s.set F.PLMB_SELF (v 0x20 4)).setB F.PLMB_STAT_SELF_DIFF self
  let s := if self then (s.inc F.PLMB_SELF_DIFF).irq 0x1E 10 else s
  let s := { s with twin := { s.twin with recAt := some k, selfDiff := s.twin.selfDiff || self, stateDiff := s.twin.stateDiff || diffs + ctx != 0,
                                          staleTable := s.twin.staleTable || table, recSeq := v 0x2C 4, recGen := v 0x30 2 } }
  let s := (s.set F.TWIN_REC_COURSE k).atLeastSeq (v 0x2C 4)
  let s := if bit (v 3 1) 1 then
      let h := v 0x28 4
      let (st, s) := s.qWrite 8 (s.get F.TWIN_HOST_RX * 8 + k % 2 * s.get F.TWIN_HOST_LEN) ((r.drop 0x3000).take h)
      if st = .ok then s.set F.TWIN_STAT_HOST_BUF (k % 2) else s
    else s
  let s := s.staleEval
  let at_ := if bit (v 3 1) 0 then v 0x18 4 else 0
  let agrees := at_ = s.course + 1 && s.roleCmd = 1 && !(s.on F.TWIN_STAT_STALE) && !s.killed
  let s := if agrees then { s.set F.TWIN_STAT_SWAP 2 with twin := { s.twin with swapAt := at_, commit := false } } else s
  s.tieSend 3 k (le 4 k ++ le 4 (if agrees then at_ else 0))

/-- A REC frame has arrived whole (TIE_RECORD_RX): `start` and `stop` are the line times of its first and last word. -/
def State.recordRx (s : State) (f : List Nat) (start stop : Nat) : State :=
  match s.tieTake f with
  | (some (1, _, r), s) =>
    if !s.standby then s
    else
      let s := s.set F.TIE_REC_NS (stop - start)
      if start < s.base then s.inc F.TWIN_REC_LATE
      else if !(s.recordOk r) then s.inc F.TWIN_REC_BAD
      else s.acceptRecord r
  | (_, s) => s

end Sys2Proof.Machine
end

