-- ==== Sys2Proof/Machine/Course.lean ====
section
/-! DEFINITION. The course boundary in the step order of R33, a joiner's adoption, links and link attempts, PLLs. -/

namespace Sys2Proof.Machine

/-! ### Sleep votes at a boundary (R437, R438) -/

/-- Every other position voted SLEEP in every VOTE slot it owns in the course that closes, none of them PENDING. -/
def State.unanimousOthers (s : State) : Bool :=
  (((List.range s.count).map (· + 1)).filter (· != s.pos)).all (fun p =>
    let mine := (List.range s.sched.slots.length).filter (fun i =>
      (match s.slot i with | some e => e.kind == 8 | none => false) && s.ownerOf i == p)
    !mine.isEmpty && !(s.on F.SETO_TAB_HI_PENDING (p - 1)) && mine.all (fun i => s.pwr.voted.contains (p, i)))

/-- The datum counts the closing course, and withdraws an announcement it no longer agrees with. -/
def State.sleepBoundary (s : State) : State :=
  let good := s.unanimousOthers && !s.pwr.awake
  let clear (s : State) : State := { s with pwr := { s.pwr with voted := [], awake := false } }
  if !s.actsDatum || s.so.provis then clear { s.set F.WAKE_STAT_UNANIMOUS 0 with pwr := { s.pwr with announce := none, withdrawn := false } }
  else
    let una := good && s.on F.WAKE_STAT_VOTING_SLEEP && s.soState == 2
    let s := s.set F.WAKE_STAT_UNANIMOUS (if una then min 8 (s.get F.WAKE_STAT_UNANIMOUS + 1) else 0)
    match s.pwr.announce with
    | none => clear s
    | some n =>
      if n + 1 ≤ s.course && s.course ≤ n + 12 && !good && !s.pwr.withdrawn then
        clear { (s.inc F.WAKE_WITHDRAWN).set F.WAKE_STAT_UNANIMOUS 0 with pwr := { s.pwr with withdrawn := true } }
      else if n + 15 ≤ s.course && s.pwr.withdrawn then
        clear { s with pwr := { s.pwr with announce := none, withdrawn := false } }
      else clear s

/-- The count of unanimous courses has reached 8 at the boundary ending course n: the announcement begins (R437). -/
def State.sleepUnanimous (s : State) : State :=
  if s.actsDatum && s.get F.WAKE_STAT_UNANIMOUS = 8 && s.pwr.announce.isNone then
    { s with pwr := { s.pwr with announce := some (s.course - 1), withdrawn := false } }
  else s

/-! ### The boundary -/

/-- Contexts bound for own slots of the course that closes are freed, fragments bound to them wait for a slot again, and the
relay requests of that course are over. -/
def State.freeSlotContexts (s : State) : State :=
  let s := ((s.trw.ctxs.filter (fun x => x.slot < 1024)).foldl (fun s x => s.ctxFree x.chan x.slot) s).unbindFrags
  { s with trw := { s.trw with relays := [] } }

/-- What a commit brings with it beside the composition: messages in progress begin again (R100, R203), and a standby's
table is compared afresh (R248). -/
def State.afterCommit (s : State) (oldGen : Nat) : State :=
  if s.gen = oldGen then s
  else { s.restartMsgs with twin := { s.restartMsgs.twin with staleTable := false } }

/-- IS_DATUM follows a role change: the active twin of the pair at position 1 is the datum (R39's table, R234), and its trim is
0 (R142). -/
def State.datumRole (s : State) (before : Nat) : State :=
  if !s.boot.twin || s.baseRole = before then s
  else
    let s := s.setB F.SETO_STAT_IS_DATUM (s.baseRole == 1 && s.pos == 1)
    (if s.isDatum then s.set F.LINE_TRIM 0 else s).sourceRegs

/-- The boundary token reaches the islands that are on (R31): the always-on island commits what waits for the course
(R381) and the load channels latch (R33 step 7, R346). -/
def State.boundaryToken (s : State) (images : Bool) : State :=
  (({ s with isl := { s.isl with token := s.course } }).commitAtCourse s.course).latchLoads images

/-- Steps 3 to 9 of R33; the boundary token acknowledges a wake (R445). `old` is the node in the course that closes, `silent`
tells that that course was silent (R236). -/
def State.boundaryTail (s old : State) (silent : Bool) : State :=
  let s := s.claimBoundary
  let role := s.baseRole
  let s := s.roleBoundary silent
  let s := s.datumRole role
  let s := if s.boot.twin && role != 1 && s.baseRole = 1 then s.meterTakeover else s
  let s := (List.range 8).foldl (fun s n => s.lintelBoundary n) s
  let s := s.freeSlotContexts.swapImages old s.preview
  let s := { s with so := { s.so with sending := s.so.sending.filter (fun x => s.course ≤ x.1) }
                    twin := { s.twin with sawCarrier := false } }
  let s := s.boundaryToken true
  let s := (s.healthBoundary.recordBoundary role).arbBoundary
  let s := { s with pwr := { s.pwr with wokeBy := none } }
  s.branchRegs.emit (.pulse "COURSE_OUT")

/-- The work on the course that closes: the Plumb, the watches, sleep votes, sync, probes, CAN bundles. -/
def State.closeCourse (s : State) : State :=
  let s := s.sleepBoundary
  let s := (s.silentBoundary.ownCarBoundary).branchBoundary
  (s.syncBoundary.probeBoundary).closeBundles

/-- With PLL_TRW lost the Trowel takes no boundary, but the port islands run on: their timers reach the next boundary, and the
watches of the course that closes are taken (R42, R167, R174). -/
def State.haltBoundary (s : State) : State :=
  let into := s.into
  let s := s.elapseTo (s.pace.haltAt + (s.pace.haltN + 1) * s.courseNs - into)
  let s := (s.silentBoundary.ownCarBoundary).branchBoundary
  { s with pace := { s.pace with haltN := s.pace.haltN + 1 }
           lines := s.lines.map (fun (l : Line) => { l with ofs := l.ofs + s.courseNs, lead := l.lead + 1, sending := none, relaying := none }) }

/-- Line time reaches the start of the next course (R33). In HOLD and NAP, and while a state is entered, the course number
advances and the token reaches the islands that are on (R31, R428); no images swap. A backward step leaves the boundary to
be reached again (R152). -/
def State.courseBoundary (s : State) : State :=
  let b := s.base + s.courseNs
  if s.isl.started < 8 || s.on F.PWR_STAT_WAKING || 3 ≤ s.power then s
  else if !s.clk.ltOn then (if s.portsLive && s.isl.pllLost.contains 8 && !(s.isl.frozen.contains 8) then s.haltBoundary else s)
  else
    let s := s.elapseLt b
    if s.power != 0 || s.on F.PWR_STAT_ENTERING then
      ({ s.closeBundles with course := (s.course + 1) % 2 ^ 32, base := b }).boundaryToken false
    else
      let steps := s.stepsNow
      let eps := s.epsilon
      let (take, s) := s.correct
      let s := if steps then s.loadStep (eps.getD 0) else s
      if !take then s
      else
        let closing := s.course
        let silent := s.silentCourse
        let s := s.closeCourse
        let old := s
        let s := { s with course := (s.course + 1) % 2 ^ 32, base := b }
        let s := s.plumbBoundary closing
        let gen := s.gen
        let s := (s.commitBoundary).afterCommit gen
        let s := { s with test := { s.test with nine := s.on F.LANE_REST_DEGRADED } }
        s.boundaryTail old silent

/-- A joiner at the instant it adopts the survivor's line time (R131, R155): the boundary of the commit course is
taken, its open course cut short. -/
def State.joinerAdoption (s : State) : State :=
  if !((s.so.plan.map (·.joining)).getD false) then s
  else
    let closing := s.course
    let old := s
    let gen := s.gen
    let before := s.clk.lt
    let (adopted, s) := s.adoptJoiner
    if !adopted then s
    else
      let s := s.loadStep ((s.clk.lt : Int) - before)
      let s := (s.plumbBoundary closing).closeBundles
      (s.afterCommit gen).boundaryTail old false

/-! ### Links (R74, R75, R71, R524 to R526) -/

/-- The LFSR's step. -/
def lfsrNext (r : Nat) : Nat :=
  let fb := (r / 2 ^ 15 + r / 2 ^ 13 + r / 2 ^ 12 + r / 2 ^ 10) % 2
  (r * 2 + fb) % 65536

/-- Its seed at a start. -/
def lfsrSeed (uid : Nat) : Nat :=
  let x := (uid % 65536).xor ((uid / 65536 % 65536).xor (uid / 2 ^ 32 % 65536))
  if x = 0 then 1 else x

/-- The PHY of port `n` may run: B or C configured, no PMA test, its island up. -/
def State.phyOn (s : State) (n : Nat) : Bool :=
  let g := s.get F.SPK_CFG_GEN n
  (g == 2 || g == 3 || g == 4) && s.get F.SPK_TEST n == 0 && !(s.islandAsleep n) && n < 8 && 8 ≤ s.isl.started && s.power == 0

/-- One link attempt on a Spaka-B or Spaka-C port (R74): the register steps, role and generation follow. A listening
twin trains no link (R526). -/
def State.linkAttempt (s : State) (n : Nat) : State :=
  if !(s.phyOn n) || s.up n || !s.phyDrives then s
  else
    let s := match (s.line n).attempt with | some (t, _, _) => s.elapseTo t | none => s
    let l := s.line n
    let r := lfsrNext l.lfsr
    let gen := match s.get F.SPK_CFG_GEN n with | 2 => 2 | 3 => 3 | _ => if bits r 1 2 = 0 then 2 else 3
    let master := if s.on F.SPK_CFG_ROLE_MODE n then s.on F.SPK_CFG_ROLE n else bit r 0
    s.setLine n { l with lfsr := r, attempt := some (s.clk.now + (if gen = 2 then 40000000 else 120000000), gen, master) }

/-- The PHY of port `n` reports link and both receivers OK (R75): on a driving port with the role and generation of the
attempt, on a listening twin with those of the driving PHY, where SPK_CFG.GEN admits them (R526). -/
def State.phyLinkUp (s : State) (n gen : Nat) (master : Bool) : State :=
  if !(s.phyOn n) then s
  else if s.phyDrives then
    (match (s.line n).attempt with
     | some (_, g, m) => (s.setLine n { s.line n with attempt := none }).linkUp n g m
     | none => s)
  else if (gen = 2 || gen = 3) && (s.get F.SPK_CFG_GEN n = gen || s.get F.SPK_CFG_GEN n = 4) then s.linkUp n gen master
  else s

/-- The PHY of port `n` reports the loss of its link (R75): in HOLD too, where links are kept (R425). -/
def State.phyLinkDown (s : State) (n : Nat) : State :=
  let g := s.get F.SPK_CFG_GEN n
  if !(g == 2 || g == 3 || g == 4) || 8 ≤ n || s.isl.started < 8 || s.islandAsleep n then s else s.linkDown n

/-- A Spaka-A port that has received no frame in the last 30 ms goes down (R71), decided at the horizon. -/
def State.spakaAExpiry (s : State) (n : Nat) : State :=
  let t := (s.line n).lastRx + 30000001
  if s.get F.SPK_CFG_GEN n != 1 || !(s.up n) || s.inFlight (s.asLine t) then s
  else (s.elapseTo (t + horizonNs)).linkDown n

/-- A write of SPK_CFG that changed GEN, ROLE_MODE or ROLE (R525), or a PMA test mode (R524): the port goes down, and a
link attempt starts afresh. -/
def State.portRestart (s : State) (n : Nat) : State :=
  let s := s.linkDown n
  ((s.setLine n { s.line n with attempt := none }).wheelCheck).lintelFollow n

/-! ### PLLs (R42, R153) -/

/-- A PLL loses lock: the islands it clocks halt. Links whose port PLL is lost go down, and the Tie lanes with PLL_TIE. -/
def State.pllLost (s : State) (p : Nat) : State :=
  if 13 ≤ p || s.isl.pllLost.contains p then s
  else
    let s := { s with isl := { s.isl with pllLost := p :: s.isl.pllLost }, twin := { s.twin with pllLost := true } }
    let s := ((s.clrBit F.ISL_PLL_LOCKED p).orBit F.ISL_PLL_LOST p).inc F.ISL_PLL_CNT
    let s := (s.irq 0x02 8).urgent 4
    let s := if (pllIslands p).any (fun i => powerIsland s.power i != 0) then s.irq 0x02 9 else s
    let s := if p < 8 then s.linkDown p else s
    let s := if p = 8 then { s with clk := { s.clk with ltOn := false }, pace := { s.pace with haltAt := s.clk.now, haltN := 0 } } else s
    if p = 10 then s.tieLanes 0 false 0 else s

/-- A PLL locks again: PLL_TRW starts line time again where it stopped, and the Lintels' timers stand ahead of it by the halt
(R167). A node that is not a source has lost LOCK, and its sync loss is counted afresh (R153, R527); on a source LOCK comes
back at once. -/
def State.pllRelock (s : State) (p : Nat) : State :=
  if !(s.isl.pllLost.contains p) then s
  else
    let s := { s with isl := { s.isl with pllLost := s.isl.pllLost.filter (· != p) } }
    let s := s.orBit F.ISL_PLL_LOCKED p
    if p = 8 then
      let halted := s.clk.now - s.pace.haltAt
      let s := { s with clk := { s.clk with ltOn := true }, lines := s.lines.map (fun (l : Line) => { l with ofs := l.ofs - halted }) }
      if s.isSource then (s.setLock false).setLock true
      else { (s.set F.LINE_STAT_SYNC_MISS 0).setLock false with so := { s.so with syncSeen := false } }
    else s

/-- A PLL has locked again: with the Trowel's, the local frames that waited are taken (R227). -/
def State.pllBack (s : State) (p : Nat) : State := (s.pllRelock p).drainLocal

end Sys2Proof.Machine
end

