-- ==== Sys2Proof/Machine/Regs.lean ====
section
/-! DEFINITION. Reading registers (chapter 02): which register an address names, the fields that show something the node
holds elsewhere, what a page of an island that cannot serve reads as, snapshots, shadows, and values that span several
registers (R60). -/

namespace Sys2Proof.Machine

/-! ### Which register an address names -/

/-- Offset `off` lies in the register, or array of registers, `r`. -/
def Row.has (r : Row) (off : Nat) : Bool :=
  if r.stride = 0 then off == r.off else r.off ≤ off && (off - r.off) % r.stride == 0 && decide ((off - r.off) / r.stride < r.count)

/-- The register at offset `off` of page `p`; `none` where no register lies (R46, R47). -/
def rowAt (p off : Nat) : Option Row :=
  if pageReserved p || 64 ≤ p then none
  else if off < 0x100 then Tab.header.find? (fun r => r.has off)
  else if p = 0x23 ∧ 0x200 ≤ off ∧ off < 0xE00 then some (if (off - 0x200) / 4 % 12 < 8 then Tab.rprRow else Tab.rprCol)
  else (pageRows p).find? (fun r => r.has off)

/-- The instance of a field whose register lies at BAR0 address `a`. -/
def Fld.inst (f : Fld) (a : Nat) : Nat := if f.stride = 0 then 0 else (a - f.base) / f.stride

/-- Every register field of a page above its header, with the address of its register. -/
def pageFields (p : Nat) : List (Nat × FieldDef) :=
  let rows := (pageRows p).map (fun r => (List.range r.count).map (fun k => r.fields.map (fun f => (p * 0x1000 + r.off + k * r.stride, f))))
  let rpr := if p = 0x23 then (List.range 768).map (fun k =>
      (if k % 12 < 8 then Tab.rprRow else Tab.rprCol).fields.map (fun f => (0x23200 + 4 * k, f))) else []
  (rows.flatten ++ rpr).flatten

/-- The access code of the field that a key of the register file names. -/
def keyAcc (k : Nat) : Option Acc :=
  match rowAt (k / 32 / 0x1000) (k / 32 % 0x1000) with
  | some r => (r.fields.find? (fun f => f.fld.lo == k % 32)).map (·.acc)
  | none => none

/-! ### Interrupt vectors (R457) -/

/-- PG_IRQ_PEND of a page. -/
def State.pgPend (s : State) (p : Nat) : Nat := (s.get F.PG_IRQ_RAW p).land (s.get F.PG_IRQ_EN p)

/-- Bit p: PG_IRQ_PEND of page p is not zero. -/
def State.irqPages (s : State) : List Nat := (List.range 64).filter (fun p => !(pageReserved p) && s.pgPend p != 0)

/-- The vector of page `p`. -/
def State.pageVec (s : State) (p : Nat) : Nat := s.get (F.IRQ_MAP_VEC (p % 4)) (p / 4)

/-- Vectors pending: bit 0 the urgent sources, bit v the pages mapped to v. -/
def State.vecPend (s : State) : Nat :=
  let urg := (s.get F.IRQ_URG_RAW).land (s.get F.IRQ_URG_EN) != 0
  s.irqPages.foldl (fun m p => setBit m (s.pageVec p) true) urg.toNat

/-! ### Fields that show what the node holds elsewhere -/

/-- PG_STAT.FLAGS of page `p` (R48); on a distributed page each of the first three is set when any port block has it (R28). -/
def State.pgFlags (s : State) (p : Nat) : Nat :=
  let i := ownerIsland p
  let blocks (f : Nat → Bool) : Bool := (p == 0x13 || p == 0x14) && (List.range 8).any f
  (s.testing p 0 || blocks (fun n => s.testing p (0x200 + 0x40 * n))).toNat
    + 2 * (s.islandAsleep i || blocks s.islandAsleep).toNat + 4 * (s.islandFenced i || blocks s.islandFenced).toNat
    + 8 * (!(s.host.reset.any (fun r => r.1 == p)) && s.host.staged.any (fun x => x.addr / 0x1000 == p)).toNat + 16 * (s.get F.PG_LOCK p)
    + 32 * (s.host.reset.any (fun r => r.1 == p)).toNat + 64 * (s.on F.PG_CTRL_FREEZE p && p != 1).toNat

/-- VFUSE lies in the range of R296. -/
def State.vfuseOk (s : State) : Bool := 1710 ≤ s.mon.vfuse && s.mon.vfuse ≤ 1890

/-- Tj lies in the range of R296. -/
def State.tjOk (s : State) : Bool := 0 ≤ s.mon.tj && decide (s.mon.tj ≤ 850)

/-- Fields of the always-on, host and Trowel pages that are computed. -/
def State.viewLow (s : State) (f : Fld) (i : Nat) : Option Nat :=
  if f = F.PG_IRQ_PEND then some (s.pgPend i)
  else if f = F.PG_STAT_FLAGS then some (s.pgFlags i)
  else if f = F.ISL_STATE then some (((List.range 8).map (fun k => s.islandState (8 * i + k) * 16 ^ k)).sum)
  else if f = F.ISL_OSC_OSC16 then some 1
  else if f = F.ISL_OSC_OSC_DMP then some (s.power ≤ 1 : Bool).toNat
  else if f = F.ISL_OSC_OSC_VLT then some (s.power ≤ 1 || s.on F.TALY_STAT_SAVING : Bool).toNat
  else if f = F.ISL_OSC_XT32 then some s.clk.xtal.toNat
  else if f = F.WAKE_STAT_BACKOFF then some s.pwr.backoff.isSome.toNat
  else if f = F.WAKE_STAT_SW_LEVEL then some s.pwr.swLevel
  else if f = F.WAKE_BACKOFF_LEFT then some (s.pwr.backoff.getD 0 - s.clk.sec)
  else if f = F.HOST_STAT_BME then some s.host.bme.toNat
  else if f = F.IRQ_PAGE_LO then some (s.irqPages.foldl (fun m p => if p < 32 then setBit m p true else m) 0)
  else if f = F.IRQ_PAGE_HI then some (s.irqPages.foldl (fun m p => if 32 ≤ p then setBit m (p - 32) true else m) 0)
  else if f = F.IRQ_VEC_PEND then some s.vecPend
  else if f = F.LINE_NOW_LO then some (s.clk.lt % 2 ^ 32)
  else if f = F.LINE_NOW_HI then some (s.clk.lt / 2 ^ 32)
  else if f = F.GRD_P_STAT_STATE then some (if (s.line i).hold then 0 else s.lintel i)
  else if f = F.GRD_P_STAT_TESTING then some (s.testing 0x13 (0x200 + 0x40 * i)).toNat
  else if f = F.GRD_P_STAT_ASLEEP || f = F.HUB_BR_STAT_ASLEEP then some (s.islandAsleep i).toNat
  else if f = F.GRD_P_STAT_FENCED || f = F.HUB_BR_STAT_FENCED then some (s.islandFenced i).toNat
  else if f = F.HUB_BR_STAT_TESTING then some (s.testing 0x14 (0x200 + 0x40 * i)).toNat
  else none

/-- Fields of the other pages that are computed. -/
def State.viewHigh (s : State) (f : Fld) (i : Nat) : Option Nat :=
  let sel := s.get F.VLT_WEAR_SEL
  let w := s.physInfo sel
  if f = F.TWIN_ARB_SWAP_LEFT then some s.swapLeft
  else if f = F.QRY_SEMN_LEASE then some (s.semLeft i)
  else if f = F.RPR_STAT_VFUSE_OK || f = F.FUSE_STAT_VFUSE_OK then some s.vfuseOk.toNat
  else if f = F.RPR_STAT_TJ_OK || f = F.FUSE_STAT_TJ_OK then some s.tjOk.toNat
  else if f = F.MRCH_STAT_ELEMENT then some s.marchElement
  else if f = F.LBST_STAT_MODE then some s.testMode
  else if f = F.LDC_STAT then some s.hiZ.toNat
  else if f = F.LBST_D_CFG_EN then some (s.get F.LBST_D_CFG_EN (if i ≤ 9 then 0 else i))
  else if f = F.LDS_STAT_GATE then
    let n := i / 32 * 12 + i % 32
    some (if s.safeLevel n then (s.ldsOn F.LDS_CFG_SAFE n && s.kind n != 0).toNat else s.get f i)
  else if f = F.LDS_STAT_SAFE_HELD then
    let n := i / 32 * 12 + i % 32
    some ((s.chan n).held || s.safeLevel n).toNat
  else if f = F.MTR_CNT_LO then some ((s.mchan i).counter % 2 ^ 32)
  else if f = F.MTR_CNT_HI then some ((s.mchan i).counter / 2 ^ 32)
  else if f = F.MTR_PER_LO then some (((s.mchan i).counter + 2 ^ 64 - (s.mchan i).atOpen) % 2 ^ 64 % 2 ^ 32)
  else if f = F.MTR_PER_HI then some (((s.mchan i).counter + 2 ^ 64 - (s.mchan i).atOpen) % 2 ^ 64 / 2 ^ 32)
  else if f = F.MTR_COV then some (min ((s.mchan i).cov / 1000) 0xFFFFFFFF)
  else if f = F.MTR_CH_FLAGS then some (s.mchan i).flags
  else if f = F.TALY_Q_OLD then some s.talyOld
  else if 0x32100 ≤ f.base && f.base ≤ 0x32110 && !s.timeValid then some 0
  else if f = F.RTC_NOW_SUB then some s.clk.sub
  else if f = F.RTC_NOW_SEC_LO then some (s.clk.sec % 2 ^ 32)
  else if f = F.RTC_NOW_SEC_HI then some (s.clk.sec / 2 ^ 32)
  else if f = F.RTC_CAL_DATE_YEAR_OFS then some (calOf s.clk.sec).yearOfs
  else if f = F.RTC_CAL_DATE_MONTH then some (calOf s.clk.sec).month
  else if f = F.RTC_CAL_DATE_DAY then some (calOf s.clk.sec).day
  else if f = F.RTC_CAL_DATE_WEEKDAY then some (calOf s.clk.sec).weekday
  else if f = F.RTC_CAL_TIME_SEC then some (calOf s.clk.sec).sec
  else if f = F.RTC_CAL_TIME_MIN then some (calOf s.clk.sec).min
  else if f = F.RTC_CAL_TIME_HOUR then some (calOf s.clk.sec).hour
  else if f = F.BKP_STAT_MAIN_VALID then some s.pins.main.toNat
  else if f = F.BKP_VAO then some s.mon.vao
  else if f = F.VLT_MAX_WEAR then some s.maxWear
  else if f = F.VLT_WEAR_COUNT then some w.count
  else if f = F.VLT_WEAR_STATE then some (match w.state with | .inUse => 0 | .spare => 1 | .retired => 2 | .failed => 3)
  else if f = F.VLT_WEAR_PROG_SLOW then some w.slow.toNat
  else if f = F.VLT_WEAR_OVER_LIMIT then some w.overLimit.toNat
  else if f = F.VLT_WEAR_ERASE_INCOMPLETE then some w.incomplete.toNat
  else if f = F.VLT_MAP then some (s.logicalOf sel)
  else if f = F.FUSE_VFUSE then some s.mon.vfuse
  else if f = F.FUSE_TJ then some (unsigned 16 s.mon.tj)
  else none

/-- A block of the TWIN page that the role does not use: its registers read 0 (chapter 09, TWIN registers). -/
def State.twinUnused (s : State) (f : Fld) : Bool :=
  (0x1C100 ≤ f.base && f.base < 0x1C200 && !s.boot.twin) || (0x1C200 ≤ f.base && f.base < 0x1D000 && s.boot.role != 3)

/-- What instance `i` of a field shows. -/
def State.view (s : State) (f : Fld) (i : Nat) : Nat :=
  if s.twinUnused f then 0 else
  match (if f.base < 0x16000 then s.viewLow f i else s.viewHigh f i) with
  | some v => v % 2 ^ f.width
  | none => s.get f i

/-! ### Values of registers and pages -/

/-- The field as a read of the register at `a` gives it: WO fields read 0, and a frozen page shows its snapshot (R50). -/
def State.shown (s : State) (a : Nat) (f : FieldDef) : Nat :=
  let p := a / 0x1000
  let i := f.fld.inst a
  match f.acc with
  | .wo => 0
  | .ro | .w1cCnt =>
    if s.on F.PG_CTRL_FREEZE p && p != 1 then
      (match s.host.frozen.find? (fun x => x.1 == p) with
       | some x => (rfFind (f.fld.key i) x.2).getD (s.view f.fld i)
       | none => s.view f.fld i)
    else s.view f.fld i
  | _ => s.view f.fld i

/-- The register at BAR0 address `a`, live; 0 where no register lies. -/
def State.regValue (s : State) (a : Nat) : Nat :=
  match rowAt (a / 0x1000) (a % 0x1000) with
  | some r => (r.fields.map (fun f => s.shown a f * 2 ^ f.fld.lo)).sum
  | none => 0

/-- The register as it lies in the owning island: what FREEZE shows and WO fields apart, as a write leaves it. -/
def State.regLive (s : State) (a : Nat) : Nat :=
  match rowAt (a / 0x1000) (a % 0x1000) with
  | some r => (r.fields.map (fun f => if f.acc = .wo then 0 else s.view f.fld (f.fld.inst a) * 2 ^ f.fld.lo)).sum
  | none => 0

/-- What a register of a port block of GRD or HUB reads while its port island is off, halted or frozen: the status field
shows ASLEEP alone, every other offset 0 (R28). -/
def blockAsleep (p off : Nat) : Nat :=
  if (off - 0x200) % 0x40 = 0 then (if p = 0x13 then 0x10 else 0x20) else 0

/-- What a host read of the register at `a` gives (R28, R46, R47, R62 to R64). -/
def State.readReg (s : State) (a : Nat) : Nat :=
  let p := a / 0x1000
  let off := a % 0x1000
  if pageReserved p || 64 ≤ p then 0
  else if s.islandAsleep (regIsland p off) then
    (if regIsland p off < 8 && (p = 0x13 || p = 0x14) then blockAsleep p off
     else if off = 0 || off = 4 then s.regValue a else if off = 0xC then 2 else 0)
  else if s.testing p off && off != 0xC then look (s.regValue a) a s.test.shadow
  else s.regValue a

/-- The read-only fields of the header that a snapshot holds: the page's status and counters (R50). PG_STAT's flags, which
show the snapshot itself, and PG_IRQ_PEND, which follows PG_IRQ_RAW, read live. -/
def headerFrozen : List Fld :=
  [F.PG_STAT_STATUS, F.PG_CLAMP_OFFSET, F.PG_CLAMP_CAUSE, F.PG_CLAMP_FIELD, F.PG_CLAMP_COUNT, F.PG_CLAMP_VAL, F.PG_CLAMP_RES,
   F.PG_SEQ]

/-- The snapshot of R50 for page `p`. -/
def State.snapshotPage (s : State) (p : Nat) : List (Nat × Nat) :=
  headerFrozen.map (fun f => (f.key p, s.view f p))
  ++ ((pageFields p).filter (fun x => x.2.acc == .ro || x.2.acc == .w1cCnt)).map
    (fun x => (x.2.fld.key (x.2.fld.inst x.1), s.view x.2.fld (x.2.fld.inst x.1)))

/-! ### Shadows of blocks under a slice (R64) -/

/-- The registers that read their shadow while a slice of domain `d` runs: those of its pages, header included, or of the
port's block on GRD (R28, R297). -/
def shadowRegs (d : Nat) : List Nat :=
  (domainPages d).flatMap (fun p =>
    if p = 0x13 then (List.range 16).map (fun k => 0x13200 + 0x40 * (d - 10) + 4 * k)
    else (List.range 12).map (fun k => p * 0x1000 + 4 * k)
      ++ (pageRows p).flatMap (fun r => (List.range r.count).map (fun k => p * 0x1000 + r.off + k * r.stride)))

/-- The slices that have started since `before` take the shadow of their block: every register as it stands now. -/
def State.takeShadows (before s : State) : State :=
  let new := (s.test.slices.map (·.1)).filter (fun d => !(before.test.slices.any (fun x => x.1 == d)))
  { s with test := { s.test with shadow := s.test.shadow ++ (new.flatMap shadowRegs).map (fun a => (a, s.regValue a)) } }

/-! ### Values that span several registers (R60) -/

/-- The registers that form one value with the one at `a`, least significant first; empty where it stands alone. -/
def regGroup (a : Nat) : List Nat :=
  let o := a % 0x1000
  let pair (base : Nat) : List Nat := let l := a - (o - base) % 8; [l, l + 4]
  match a / 0x1000 with
  | 0x00 => if o = 0x104 || o = 0x108 then [0x104, 0x108] else []
  | 0x05 => if 0x10C ≤ o && o ≤ 0x118 then pair 0x10C
            else if 0x200 ≤ o && o < 0x280 && (o - 0x200) % 0x20 < 0x10 then pair 0x200 else []
  | 0x10 => if o = 0x10C || o = 0x110 then [0x1010C, 0x10110] else if o = 0x114 || o = 0x118 then [0x10114, 0x10118]
            else if 0x128 ≤ o && o ≤ 0x13C then pair 0x128 else if o = 0x30C || o = 0x310 then [0x1030C, 0x10310] else []
  | 0x11 => if o = 0x114 || o = 0x118 then [0x11114, 0x11118] else if o = 0x130 || o = 0x134 then [0x11130, 0x11134]
            else if 0x200 ≤ o && o < 0x3F0 then pair 0x200 else []
  | 0x15 => if 0x200 ≤ o && o < 0x400 then let l := a - (o - 0x200) % 16; [l, l + 4, l + 8, l + 12] else []
  | 0x19 => if 0x800 ≤ o && (o - 0x800) % 16 < 8 then pair 0x800 else []
  | 0x30 => if 0x110 ≤ o && o ≤ 0x11C then pair 0x110
            else if 0x200 ≤ o && o < 0x800 && (o - 0x200) % 0x20 < 0x10 then pair 0x200 else []
  | 0x32 => if 0x100 ≤ o && o ≤ 0x110 then [0x32100, 0x32104, 0x32108, 0x3210C, 0x32110]
            else if o = 0x124 || o = 0x128 then [0x32124, 0x32128] else if o = 0x134 || o = 0x138 then [0x32134, 0x32138]
            else if o = 0x140 || o = 0x144 then [0x32140, 0x32144] else []
  | 0x38 => if 0x200 ≤ o && o < 0x400 && ((o - 0x200) % 0x40 = 8 || (o - 0x200) % 0x40 = 12) then pair 0x208 else []
  | _ => []

/-- The island of the register cannot serve: no part of a value is latched there. -/
def State.pageSilent (s : State) (a : Nat) : Bool :=
  pageReserved (a / 0x1000) || s.islandAsleep (regIsland (a / 0x1000) (a % 0x1000))

/-- A host read of the aligned register at `a` by an interface (R60): the value, and the latches it leaves. -/
def State.hostRead (s : State) (ifc a : Nat) : Nat × State :=
  let g := regGroup a
  if s.pageSilent a || g.isEmpty then (s.readReg a, s)
  else if g.headD 0 = a then
    let l := (g.drop 1).map (fun b => (ifc, b, s.readReg b))
    (s.readReg a, { s with host := { s.host with latch := l ++ s.host.latch.filter (fun x => !(x.1 == ifc && g.contains x.2.1)) } })
  else match s.host.latch.find? (fun x => x.1 == ifc && x.2.1 == a) with
    | some x => (x.2.2, s)
    | none => (s.readReg a, s)

end Sys2Proof.Machine
end

