-- ==== Sys2Proof/Machine/Burn.lean ====
section
/-! DEFINITION. March runs and repair in service (R290 to R295), and fuse burns (R296, R311, R423, R424). What a run
finds and which fuses verify are physical facts that the commands give. -/

namespace Sys2Proof.Machine

/-! ### March runs -/

/-- A transparent run goes on (R290): the segment under test ends, what it held is delivered, and 64 µs later the next
segment begins. An aborted run ends at the segment boundary (R292). -/
def State.marchSegment (s : State) : State :=
  match s.qry.march with
  | none => s
  | some r =>
    if r.destructive then s
    else
      let ended := r.inSegment
      let s := if ended then s.elapseTo (r.segEnd + 7040) else s
      let r := if ended then { r with inSegment := false, segEnd := max s.clk.now (r.segEnd + 7040), segment := r.segment + 1 } else r
      let s := { s with qry := { s.qry with march := some r } }
      let s := if ended then s.deliverHeld else s
      if r.aborting then s.marchFinish r 4
      else
        let wrap := r.segment = 256
        let last := wrap && (!r.full || r.background = 3)
        if last then s.set F.MRCH_STAT_SEGMENT 255
        else
          let r := if wrap then { r with segment := 0, background := r.background + 1 } else r
          let s := s.elapseTo (r.segEnd + 64000)
          { s.set F.MRCH_STAT_SEGMENT r.segment with
            qry := { s.qry with march := some { r with inSegment := true, segEnd := s.clk.now } } }

/-- The run ends (R288, R290, R292, R294): at 1.645 ms per background where it is destructive. -/
def State.marchDone (s : State) (f : MarchFacts) : State :=
  match s.qry.march with
  | none => s
  | some r =>
    if r.aborting then
      (s.elapseTo (if r.destructive then s.elementEnd r else if r.inSegment then r.segEnd + 7040 else s.clk.now)).marchFinish { r with inSegment := false } 4
    else
      let s := if r.destructive then s.elapseTo (r.segEnd + 1645000 * (if r.full then 4 else 1)) else s
      let f := { f with bank := r.bank }
      let (s, code, n) := (s.marchFail f).marchResult f
      let s := s.add F.RPR_SOFT_ADDED n
      s.marchFinish { r with inSegment := false } code

/-- MRCH_CMD.ABORT accepted: the run ends at its next boundary. -/
def State.marchAbort (s : State) : State :=
  { s with qry := { s.qry with march := s.qry.march.map (fun (r : MarchRun) => { r with aborting := true }) } }

/-- A soft entry has become VALID (R295): a row copy holds accesses to the row, and a column copy puts the bank in
REPAIRING, until it completes. -/
def State.spareEnabled (s : State) (k : Nat) : State :=
  let s := ((s.inc F.RPR_SOFT_ADDED).irq 0x23 8).noteExhausted (k / 12)
  let served := s.bank (k / 12) = 2 || s.bank (k / 12) = 7 || (k % 12 < 8 && s.bank (k / 12) = 5)
  if !served then s
  else
    let s := if k % 12 < 8 then s else s.setBank (k / 12) 7
    { s with qry := { s.qry with copies := s.qry.copies ++ [k] } }

/-- A copy completes: the bank serves again when no other copy runs in it, and held accesses resume. -/
def State.copyDone (s : State) (k : Nat) : State :=
  if !(s.qry.copies.contains k) then s
  else
    let s := { s with qry := { s.qry with copies := s.qry.copies.filter (· != k) } }
    let columns := s.qry.copies.any (fun c => c / 12 == k / 12 && 8 ≤ c % 12)
    (if s.bank (k / 12) = 7 && !columns then s.bankBack (k / 12) else s).deliverHeld

/-! ### Fuse burns -/

/-- A burn is in progress (R424). -/
def State.burning (s : State) : Bool := s.on F.FUSE_STAT_BURNING

/-- The burn conditions of R296 and R311 hold. -/
def State.burnOk (s : State) : Bool := s.vfuseOk && s.tjOk && !s.burning

/-- Lanes that read FAILED_SOFT. -/
def State.softLanes (s : State) : List Nat := (List.range 9).filter (fun l => s.get (F.LANE_STATE_L l) == 3)

/-- RPR_CMD.BURN accepted: every VALID entry not yet FUSED is to be fused. -/
def State.burnRepairs (s : State) : State :=
  let l := (List.range 768).filter (fun k => s.rprValid k && !(s.rprFused k))
  let s := { s with qry := { s.qry with burnRpr := l, burnLn := [] } }
  (((s.set F.RPR_STAT_BURNING 1).set F.FUSE_STAT_BURNING 1).set F.RPR_STAT_INTERRUPTED 0).set F.RPR_STAT_BURNED 0

/-- LANE_CMD.FUSE accepted. -/
def State.burnLanes (s : State) : State :=
  let s := { s with qry := { s.qry with burnLn := s.softLanes, burnRpr := [] } }
  s.set F.FUSE_STAT_BURNING 1

/-- The fuses as they are blown; none before the first power-on. -/
def State.fuse (s : State) : Fuses := s.fuses.getD ⟨0, 0, [], []⟩

/-- The word of a repair entry as its fuses hold it. -/
def State.fuseWord (s : State) (k : Nat) : Nat :=
  if k % 12 < 8 then s.get F.RPR_ROW_ROW k + 0x30000000
  else s.get F.RPR_COL_COL k + 64 * s.get F.RPR_COL_SLICE k + 0x30000000

/-- One repair entry is blown: a fuse word of its bank is spent, and where the valid fuse verifies the entry is FUSED. A
bank with no fuse word left cannot fuse it. -/
def State.blowEntry (s : State) (k : Nat) (verified : Bool) : State :=
  let b := k / 12
  let fu := s.fuse
  if 16 ≤ look 0 b fu.spent then s
  else
    let fu := { fu with spent := put b (look 0 b fu.spent + 1) fu.spent }
    let s := { s with fuses := some fu }
    let s := s.set F.FUSE_REPAIR (s.get F.FUSE_REPAIR + 1)
    let s := { s with boot := { s.boot with fuseWords := s.get F.FUSE_REPAIR } }
    if !verified then s
    else
      let w := s.fuseWord k
      let s := (if k % 12 < 8 then s.set F.RPR_ROW_FUSED 1 k else s.set F.RPR_COL_FUSED 1 k).inc F.RPR_STAT_BURNED
      { s with boot := { s.boot with repairs := put k w s.boot.repairs }
               fuses := some { fu with repairs := put k w fu.repairs } }

/-- One lane is blown: it reads FAILED_FUSED where its fuse verifies. -/
def State.blowLane (s : State) (l : Nat) (verified : Bool) : State :=
  if !verified then s
  else
    let s := s.set (F.LANE_STATE_L l) 4
    let fused := setBit (s.get F.FUSE_LANES) l true
    { s.set F.FUSE_LANES fused with boot := { s.boot with fuseLanes := fused }
                                    fuses := some { s.fuse with lanes := setBit s.fuse.lanes l true } }

/-- The burn ends (R296, R311): the entries or lanes tried, in order, with whether each verified; fewer than were due
where a condition left its range. -/
def State.burnDone (s : State) (verified : List Bool) : State :=
  if !s.burning then s
  else
    let cut := verified.length < s.qry.burnRpr.length + s.qry.burnLn.length
    let repair := s.on F.RPR_STAT_BURNING
    let rs := s.qry.burnRpr.zip verified
    let ls := s.qry.burnLn.zip verified
    let s := rs.foldl (fun (s : State) (x : Nat × Bool) => s.blowEntry x.1 x.2) s
    let s := ls.foldl (fun (s : State) (x : Nat × Bool) => s.blowLane x.1 x.2) s
    let s := { s with qry := { s.qry with burnRpr := [], burnLn := [] } }
    let s := ((s.set F.FUSE_STAT_BURNING 0).set F.RPR_STAT_BURNING 0).irq 0x37 8
    if repair then (if cut then s.set F.RPR_STAT_INTERRUPTED 1 else s).irq 0x23 10 else s

end Sys2Proof.Machine
end

