-- ==== Sys2Proof/Machine/Start.lean ====
section
/-! DEFINITION. Starts of the node: what every part holds when a start begins, the steps of R462, the two early ends of
R465, and the kinds of start of R463. -/

namespace Sys2Proof.Machine

/-! ### What a start finds -/

/-- The registers that outlive a start: the RTC with its alarm and trim, TIME_VALID, TIME_LOST, the BKP counters and the
canary (R390, R463). -/
def keptKeys : List Nat :=
  [F.RTC_STAT_TIME_VALID, F.RTC_STAT_TIME_LOST, F.RTC_STAT_ALARM_FIRED, F.RTC_STAT_CAL_END, F.RTC_STAT_SEC_END, F.RTC_ALARM_LO,
   F.RTC_ALARM_HI_SEC, F.RTC_ALARM_HI_ARMED, F.RTC_CAL, F.BKP_MAIN_LOSS, F.BKP_LOSS_AT_LO, F.BKP_LOSS_AT_HI, F.BKP_CANARY].map
    (fun f => f.key 0)

/-- Every register at its reset value but those of `keep`; every part empty, but what the fuses, the Vault, the always-on
island and the pins hold. The token bucket of the marks is full, at the reset RATE of 16 (log entry 49). Line time stands
still until the start is complete. -/
def State.fresh (s : State) (keep : List Nat) : State :=
  { regs := s.regs.filter (fun r => keep.contains r.1), pending := s.pending, out := s.out, boot := s.boot, fuses := s.fuses,
    clk := { s.clk with lt := 0, ltFrac := 0, slewRate := 0, slewLeft := 0, ltOn := false },
    marks := { Marks.zero with held := s.marks.held, tokens := 16 * 1000000000, tokenAt := s.clk.now }, vault := { s.vault with ops := [], bootKey := none },
    qry := Quarry.zero, pwr := { Power.zero with swLevel := s.pwr.swLevel },
    rtc := { s.rtc with form := false, forced := false },
    mtr := { Meter.zero with retained := s.mtr.retained, snapCount := s.mtr.snapCount },
    loads := List.replicate 48 LChan.zero, course := 0, base := 0, sched := builtIn, pendSched := none, loading := none,
    so := { SetOut.zero with cab := s.so.cab, cpl := s.so.cpl }, pace := Pacing.zero, lines := List.replicate 8 Line.zero,
    keys := [], trw := Trowel.zero, loc := Locals.zero, twin := { Twin.zero with killPin := s.twin.killPin },
    host := { HostX.zero with perst := s.host.perst }, isl := ⟨[], [], 0, 0⟩, test := SelfTest.zero, mon := s.mon,
    dump := Dump.zero, tap := { s.tap with ir := 1 }, pins := { s.pins with join := none, pps := none, back := false } }

/-- The fuse blocks as step 2 loads them: a block that fails its check is all zeros (R423). -/
def Boot.load (straps : Nat) (fu : Fuses) (err : Nat) : Boot :=
  { straps := straps % 256, uid := if bit err 0 then 0 else fu.uid % 2 ^ 48, fuseLanes := if bit err 3 then 0 else fu.lanes,
    fuseWords := if bit err 4 then 0 else (fu.spent.map (·.2)).sum, repairs := if bit err 4 then [] else fu.repairs }

/-! ### Steps -/

/-- Step 2: fuses, and the remap and wear tables (R423, R409, R417, R418). -/
def State.stepTwo (s : State) (f : StartFacts) : State :=
  let s := (s.set F.FUSE_STAT_LOADED 1).set F.FUSE_STAT_LOAD_ERR f.loadErr
  let s := if f.loadErr % 32 = 0 then s else s.irq 0x37 9
  let s := if f.mapLost then { s with vault := { s.vault with remap := [] } } else s
  let n := ((List.range 256).filter (fun i => decide ((s.physInfo (1792 + i)).state = .spare))).length
  let s := (s.set F.VLT_STAT_SPARES_LEFT n).setB F.VLT_STAT_WEAR_WARN (decide (n < 64))
  let s := if n = 0 then (s.set F.VLT_STAT_EXHAUSTED 1).set F.MARK_STAT_FIRST_ONLY 1 else s
  if f.mapLost then ((s.set F.VLT_STAT_MAP_LOST 1).set F.MARK_STAT_FIRST_ONLY 1).wearMark 1 0xFFFF else s

/-- Step 3: every PLL but those that fail locks (R462, R465). -/
def State.stepThree (s : State) (f : StartFacts) : State :=
  let bad := (List.range 13).filter (bit f.plls)
  { s.set F.ISL_PLL_LOCKED (0x1FFF - f.plls % 0x2000) with isl := { s.isl with pllLost := bad } }

/-- One bank of the start-up march: a bank that fails is BAD (R289, R294). -/
def State.bootMarch (s : State) (f : MarchFacts) : State :=
  let (s, code, _) := s.marchResult f
  if code = 3 then ((s.setBank f.bank 6).orBit F.MRCH_BOOT_BAD (f.bank % 32) (f.bank / 32)).mark 0x053 [f.bank, 0]
  else if code = 2 then s.orBit F.MRCH_BOOT_REP (f.bank % 32) (f.bank / 32) else s

/-- The lane map of a start: working lanes in ascending order on P0 to P7, the ninth at rest (R190, R193, R313). -/
def State.laneStart (s : State) : State :=
  let ok := (List.range 9).filter (fun l => s.laneWorks l)
  let rest := ok.getD 8 0xF
  let s := (List.range 8).foldl (fun s p => s.set (F.LANE_MAP_P p) (ok.getD p 0xF)) s
  let s := ok.foldl (fun s l => s.set (F.LANE_STATE_L l) (if l = rest then 1 else 0)) s
  let s := (s.set F.LANE_REST_REST rest).set F.LANE_REST_WORKING ok.length
  (s.setB F.LANE_REST_DEGRADED (rest == 0xF)).setB F.LANE_REST_SHORT (decide (ok.length < 8))

/-- The outcome of start-up LBIST in one domain (R313): a lane, a Lintel, any other domain. -/
def State.bootTest (s : State) (t : BootTest) : State :=
  if t.abandoned then s
  else if t.ckpt = 0 then s.set F.LBST_D_STAT_STATE 2 t.domain
  else if t.domain < 9 then
    let s := (((s.inc F.LBST_FAILS).inc F.LBST_D_RUNS_FAIL t.domain).set F.LBST_D_CKPT_FAIL_AT t.ckpt t.domain).irq 0x24 8
    let s := (s.set F.LBST_D_STAT_STATE 3 t.domain).set (F.LANE_STATE_L t.domain) 3
    (s.irq 0x1A 9).mark 0x061 [t.domain, 0]
  else s.runFails t.domain t.ckpt

/-- Step 6: the domains that `tests` names have the outcomes it gives; any other passed. Domain 9 is not run (R313). -/
def State.stepSix (s : State) (tests : List BootTest) : State :=
  let all := ((List.range 33).filter (· != 9)).map (fun d => (tests.find? (fun t => t.domain == d)).getD ⟨d, false, 0⟩)
  let s := all.foldl (fun s t => s.bootTest t) s
  let s := { s with test := SelfTest.zero }
  let s := (s.set F.LBST_STAT_BOOT_RUN 1).setB F.LBST_STAT_BOOT_PASS (all.all (fun t => !t.abandoned && t.ckpt == 0))
  s.irq 0x24 11

/-- Step 7: image A where it is valid, else image B; `none` where neither is (R420, R211). -/
def State.stepSeven (s : State) : Option State :=
  let s := s.checkBoot
  if s.on F.VLT_BOOT_A_VALID || s.on F.VLT_BOOT_B_VALID then
    let b := !(s.on F.VLT_BOOT_A_VALID)
    let s := (s.set F.TRW_STAT_MCODE_OK 1).setB F.TRW_STAT_MCODE_IMG b
    let s := s.set F.TRW_STAT_MCODE_VER (s.mcodeVer (if b then 0x40000 else 0))
    some ({ s with marks := { s.marks with tokens := s.get F.MARK_CFG_RATE * 1000000000, tokenAt := s.clk.now } }).startMarks
  else none

/-- The sequence that a subset slot of the Vault holds; 0 where it is not valid (R490). -/
def State.slotSeq (s : State) (k : Nat) : Nat :=
  let x := 0x6C0000 + k * 0x10000
  let h := s.vBytes x 64
  let n := leVal ((h.drop 4).take 4)
  if h.take 2 == [0xB5, 0xD0] && 68 ≤ n && n ≤ 0x10000 && leVal (s.vBytes (x + n - 4) 4) == crc32r (s.vBytes x (n - 4)) then
    leVal ((h.drop 0x30).take 4)
  else 0

/-- DUMP_SLOT of every slot, and the highest sequence (R490). -/
def State.dumpSlots (s : State) : State :=
  let q := (List.range 4).map (fun k => s.slotSeq k)
  let s := (List.range 4).foldl (fun s k => s.set F.DUMP_SLOT (q.getD k 0) k) s
  { s with dump := { s.dump with high := q.foldl max 0 } }

/-- The strap substitutions in force (R468, R469): PREF_ARBITER, PREF_CONSIST. -/
def State.strapReports (s : State) : State :=
  if bit s.boot.straps 3 && (s.arbiter || !s.wayside) then
    s.substitution 0x00 2 0x10C s.boot.straps (setBit s.boot.straps 3 false)
  else s

/-- Step 8 (R462): metering, retirements, the schedule, line time, GA_JOIN, the roles, the strap reports, the START mark.
`intact` tells that the retention store is to be used, `why` is the bit of TOP_RSTC. -/
def State.stepEight (s : State) (intact : Bool) (why began : Nat) : State :=
  let s := s.startMeter intact
  let s := s.vault.retireQ.foldl (fun (s : State) (x : Nat × Nat) => s.trigger x.1 x.2) s
  let s := s.startSchedule
  let s := { s with clk := { s.clk with lt := 0, ltFrac := 0, ltOn := !(s.isl.pllLost.contains 8) },
                    pins := { s.pins with join := some true } }
  let s := { s with lines := s.lines.map (fun (l : Line) => { l with lfsr := lfsrSeed s.boot.uid }) }
  let s := if s.boot.role != 0 then s.set F.SETO_STAT_IS_DATUM 0 else s
  let s := (s.setTable [s.ownEntry]).sourceRegs
  let s := if s.twin.killPin then s.kill else s
  let s := s.strapReports.dumpSlots
  let s := s.mark 0x010 [2 ^ why, s.boot.straps, s.get F.TRW_STAT_MCODE_IMG, 0]
  let s := (s.set F.HOST_BOOT_START_MS (min ((s.clk.now - began) / 1000000) 0xFFFF)).startRuns
  { (s.set F.TOP_READY_READY (s.pins.testMode == 0 : Bool).toNat).set F.TOP_READY_STEP 8 with
    isl := { s.isl with started := 8 }, host := { s.host with wdogAt := s.clk.now } }

/-- The start stops after step `n` (R465). -/
def State.startFails (s : State) (n cause : Nat) : State :=
  { ((s.set F.HOST_BOOT_FAIL cause).set F.TOP_READY_STEP n).urgent 6 with isl := { s.isl with started := n } }

/-- The steps of R462 from the sampling of the straps on. -/
def State.runStart (s : State) (f : StartFacts) (warm intact : Bool) (why began : Nat) : State :=
  let s := (s.stepTwo f).stepThree f
  if bit f.plls 8 || bit f.plls 11 then s.startFails 4 1
  else
    let s := f.march.foldl (fun s m => s.bootMarch m) s
    let s := if bit s.boot.straps 7 && !warm then s.stepSix f.lbist else s
    let s := (s.laneStart).elapseTo (began + f.took)
    match s.stepSeven with
    | none => s.startFails 6 2
    | some s => s.stepEight intact why began

/-! ### Kinds of start (R463) -/

/-- The bits of TOP_RSTC. -/
def rstcField (why : Nat) : Fld :=
  match why with | 0 => F.TOP_RSTC_POR | 1 => F.TOP_RSTC_PIN | 2 => F.TOP_RSTC_SOFT | _ => F.TOP_RSTC_WDOG

/-- What a verdict raises (R389, R390): VERDICT, and for LOST the event and the mark of TIME_LOST. -/
def State.verdictReport (s : State) : State :=
  let s := s.irq 0x33 10
  if s.on F.BKP_STAT_INTACT then s
  else (s.irq 0x32 12).mark 0x081 [s.get F.BKP_STAT_CAUSE_CANARY + 2 * s.get F.BKP_STAT_CAUSE_BROWN + 4 * s.get F.BKP_STAT_CAUSE_OSC, 0]

/-- A start for reason `why`, held for `tSet` ns in step 1. `verdict` tells that one has been taken, `intact` that the
retention store is to be used. -/
def State.start (s : State) (f : StartFacts) (keep : List Nat) (warm verdict intact : Bool) (why tSet : Nat) : State :=
  let began := s.clk.now
  let s := s.vaultCut.fresh keep
  let fu := s.fuse
  let s := { s with boot := Boot.load f.straps fu f.loadErr, pins := { s.pins with testMode := f.testMode % 16 }, fuses := some fu }
  let s := if verdict then s.verdictReport else s
  let s := (s.elapse tSet).set (rstcField why) 1
  let s := (s.setB F.HOST_BOOT_WARM warm).setB F.RTC_STAT_CAL_END (decide (calEnd ≤ s.clk.sec))
  s.runStart { f with took := max f.took tSet } warm intact why began

/-- A start that follows the retention verdict, the canary reading `canary` (R389, R431). -/
def State.verdictStart (s : State) (f : StartFacts) (canary : Nat) (mayWarm : Bool) : State :=
  let s := ({ s with pins := { s.pins with main := true } }).set F.BKP_CANARY canary
  let s := s.verdict
  let ok := s.on F.BKP_STAT_INTACT
  let s := if ok then s else { s with marks := { s.marks with held := [] }, mtr := { s.mtr with retained := none } }
  let warm := mayWarm && ok
  let s := if warm then s.inc F.PWR_WARM_STARTS else s
  let verdicts := [F.BKP_STAT_INTACT, F.BKP_STAT_CAUSE_CANARY, F.BKP_STAT_CAUSE_BROWN, F.BKP_STAT_CAUSE_OSC].map (fun f => f.key 0)
  let keep := verdicts ++ (if ok then keptKeys
    else keptKeys.filter (fun k => k != F.BKP_LOSS_AT_LO.key 0 && k != F.BKP_LOSS_AT_HI.key 0))
  let keep := if warm then F.PWR_WARM_STARTS.key 0 :: keep else keep
  s.start f keep warm true ok 0 (if warm then 1000000 else 90000000)

/-- Power good (R462): the fuses are as `fu` tells at the first power-on, and as burns have left them afterwards. -/
def State.powerOn (s : State) (f : StartFacts) (fu : Fuses) (canary : Nat) : State :=
  ({ s with fuses := some (s.fuses.getD fu) }).verdictStart f canary false

/-- The DUMP_TAKEN mark waits in the always-on island (R491). -/
def State.dumpMark (s : State) (result slot : Nat) : State :=
  let tail := [s.get F.DUMP_STAT_AUTO, result] ++ le 2 (s.get F.DUMP_STAT_LEN_KIB) ++ le 4 s.dump.course ++ [slot, s.dump.flags]
    ++ le 4 (s.get F.DUMP_SEQ) ++ [0, 0]
  let m : Mark := { code := 0x011, deferred := false, invalid := !s.timeValid, bytes := rtcBytes s.clk.sec s.clk.sub ++ tail }
  if s.marks.held.length < 8 then { s with marks := { s.marks with held := s.marks.held ++ [m] } } else s.markDropped

/-- A reset or a loss of main abandons the subset that is being written; the mark tells that the image was complete (R489,
R491, R493). -/
def State.dumpAbandon (s : State) : State :=
  if s.get F.DUMP_STAT_STATE = 4 then s.dumpMark (s.get F.DUMP_STAT_DIRECT) 0xFF else s

/-- A node reset (R463): nothing is judged; a main-failure save in progress completes first, and metering goes to the
retention store. No reset acts while main is invalid. -/
def State.nodeReset (s : State) (f : StartFacts) (why : Nat) : State :=
  if !s.pins.main then s
  else
    let s := s.saveDone.dumpAbandon
    let s := if s.power ≤ 1 && s.isl.started = 8 then s.freezeMeter else s
    s.start f keptKeys false false true why 1000000

end Sys2Proof.Machine
end

