-- ==== Sys2Proof/Machine/Power.lean ====
section
/-! DEFINITION. The power ladder (chapter 17): the entry steps of R432, exits (R434), network sleep, wakes, WAKING, false
wakes and back-off, the PHY watchdogs, and loss and return of main power (R385, R392, R431). -/

namespace Sys2Proof.Machine

/-! ### Entering a state (R426, R432) -/

/-- The Lintel of port `n` holds no map and passes WAKE frames alone (R176); one whose port runs no composition stays SHUT
(R164), and a killed one stays killed. -/
def State.lintelsAsleepAt (s : State) (n : Nat) : State :=
  let s := s.lintelShut n
  if s.killed || !(s.runsOn n) then s else s.setLintel n 5

/-- Each Lintel of the node goes to sleep with the network. -/
def State.lintelsAsleep (s : State) : State := (List.range 8).foldl (fun s n => s.lintelsAsleepAt n) s

/-- The Lintel of port `n` re-arms (R176); one whose port runs no composition is SHUT, and a killed one stays killed. -/
def State.lintelsBackAt (s : State) (n : Nat) : State :=
  let s := s.lintelShut n
  if !(s.runsOn n) then s
  else (s.setLine n { s.line n with arming := true }).setLintel n (if s.killed then 4 else 3)

/-- Each Lintel of the node re-arms. -/
def State.lintelsBack (s : State) : State := (List.range 8).foldl (fun s n => s.lintelsBackAt n) s

/-- The entry decision (R432): step 1. `origin` is 0 host, 1 network, 2 loss of main. -/
def State.startEntry (s : State) (target origin : Nat) (network : Bool) : State :=
  if s.power != 0 || s.on F.PWR_STAT_ENTERING || s.pwr.exiting then s
  else
    let s := (((s.set F.PWR_STAT_ENTERING 1).set F.PWR_STAT_ORIGIN origin).set F.PWR_STAT_WAKING 0).set F.PWR_IMAGE_SAVED 0
    { s.lintelsAsleep with
      pwr := { s.pwr with target := target, entryAt := s.clk.now, step := 1, exiting := false, network := network,
                          wakingEnd := none, confirm := none, wokeBy := none } }

/-- The latest instant after the decision at which step `k` is over, in ns (table of R432). -/
def entryBound (k : Nat) : Nat := [0, 1000, 20000, 1100000, 1200000, 1400000, 1600000, 2000000].getD (k - 1) 2000000

/-- Bank `b` takes its setting for state `st` (R272): a BAD bank stays BAD, a march run is lost, and a bank that is not
readable yet goes to RETAIN without its contents being served. -/
def State.sleepBank (s : State) (st b : Nat) : State :=
  let want := if st = 2 then s.bankSet F.QRY_BANK_NAP b
    else if st = 3 then (s.bankFlag F.QRY_BANK_SLUMBER b).toNat else (s.bankFlag F.QRY_BANK_PIN b).toNat
  let now := s.bank b
  if now = 6 || now = 0 then s
  else if want = 0 || (st != 2 && now = 4) then (s.wipeBank b).setBank b 0
  else if st = 2 then s.powerBank b want
  else s.setBank b 1

/-- Step 6: every bank takes its setting; a march run whose bank it takes away, and below NAP any run or copy, is lost. -/
def State.sleepBanks (s : State) (st : Nat) : State :=
  let s := (List.range 64).foldl (fun s b => s.sleepBank st b) s
  if 3 ≤ st then { s.set F.MRCH_STAT_BUSY 0 with qry := { s.qry with march := none, copies := [], held := [] } }
  else s.marchGone

/-- Pages whose registers the image leaves out (R429): LDC, LDS0 to LDS3, ADC, TRWQ, MRCH and RPR. -/
def imageSkips (p : Nat) : Bool := (0x28 ≤ p && p ≤ 0x2D) || p == 0x19 || p == 0x22 || p == 0x23

/-- The register image (R429): RW and RWL fields of the pages whose island goes off, but for those it leaves out, and every
page's PG_LOCK, which only a node reset clears (R51). -/
def State.regImage (s : State) : List (Nat × Nat) :=
  s.regs.filter (fun r =>
    let a := r.1 / 32
    let p := a / 0x1000
    ownerIsland p != 29
      && (a % 0x1000 == 0x28 || !(imageSkips p) && (match keyAcc r.1 with | some .rw => true | some .rwl => true | _ => false)))

/-- Staged writes of a page whose island has gone to sleep or is fenced are discarded and logged (R65). -/
def State.dropStaged (s : State) : State :=
  let island (x : Staged) : Nat := regIsland (x.addr / 0x1000) (x.addr % 0x1000)
  let gone (x : Staged) : Bool := s.islandAsleep (island x) || s.islandFenced (island x)
  let s' := (s.host.staged.filter gone).foldl (fun s x =>
    s.clampLog ⟨x.addr / 0x1000, 0xFE, if s.islandAsleep (island x) then 6 else 7, x.addr % 0x1000, x.value,
      if s.islandAsleep (island x) then 0 else s.regLive x.addr, x.ifc⟩) s
  { s' with host := { s'.host with staged := s.host.staged.filter (fun x => !(gone x)) } }

/-- Links go down with their islands; nothing is reported, and probes end (R434, R441). -/
def State.linksOff (s : State) : State :=
  let s := (List.range 8).foldl (fun s n =>
    if s.get F.SPK_CFG_GEN n = 1 then s
    else
      let s := ((s.set F.SPK_LINK_UP 0 n).set F.SPK_LINK_GEN 0 n).set F.SPK_LINK_MASTER 0 n
      let s := (s.set F.SPK_LINK_FEC_LOCK 0 n).set F.SPK_LINK_GEN_MISMATCH 0 n
      s.setLine n { s.line n with attempt := none, rxTiming := [], probeTx := none, probeRx := none, dSent := none }) s
  let s := if s.soState = 1 then s.toState s.so.back else s
  { s with so := { s.so with probes := [] } }

/-- Fields that keep what they show through SLUMBER and VIGIL although their page is off: what lies in the Quarry's banks,
the Vault, the fuses, the lanes, the kill latch, LBIST results (R314) and the recorder, and the generation (R430). -/
def sleepKeeps (k : Nat) : Bool :=
  let p := k / 32 / 0x1000
  let ro : Bool := (match keyAcc k with | some .ro => true | some .w1cCnt => true | _ => false)
  (ro && (p == 0x24 || p == 0x1A || p == 0x34))
  || (k / 32 == 0x35100 && 4 ≤ k % 32 && k % 32 != 7) || k / 32 == 0x3511C || k / 32 == 0x18100 || k / 32 == 0x37100
  || k / 32 == 0x13104 || k / 32 == F.TALY_VLT_IDX.base || (0x20140 ≤ k / 32 && k / 32 < 0x20160) || k == F.SETO_GEN_GEN.key 0

/-- An arbiter in NAP and deeper drives nothing; what it drives again are the reset levels (R474). -/
def State.arbRelease (s : State) : State :=
  if s.boot.role != 3 then s
  else
    let s := (s.set F.TWIN_ARB_STAT_ROLE_A 1).set F.TWIN_ARB_STAT_ROLE_B 2
    { (s.set F.TWIN_ARB_STAT_KILL 0).set F.TWIN_ARB_STAT_FENCED 0 with
      twin := { s.twin with standby := Twin.zero.standby, swapDue := false, swapOn := false, refused := false } }

/-- Step 8 (R432): the target is in force. Below NAP the islands that go off lose their registers and parts. -/
def State.enterState (s : State) : State :=
  let t := s.pwr.target
  let s := (((s.set F.PWR_STAT_STATE t).set F.PWR_STAT_ENTERING 0).inc F.PWR_ENTRIES).canModes
  let s := s.dropStaged
  let s := if t ≤ 1 then s else ((s.linksOff).tieLanes 0 false 0).arbRelease
  if t ≤ 2 then s
  else
    let s := (s.set F.ISL_PLL_LOCKED 0).loadsOff.loseRuns
    let s := s.cancelCommit
    let keep (k : Nat) : Bool := ownerIsland (k / 32 / 0x1000) == 29 || sleepKeeps k
    { s with regs := s.regs.filter (fun r => keep r.1)
             host := { HostX.zero with perst := s.host.perst }
             clk := { s.clk with ltOn := false, lt := 0, ltFrac := 0, slewRate := 0, slewLeft := 0 } }

/-- Step `k` of the entry in progress (R432). Step 4 asks nothing of the model: Vault operations are answered by commands,
which the sleeping island takes none of. -/
def State.entryStep (s : State) (k : Nat) : State :=
  let t := s.pwr.target
  let s := { s with pwr := { s.pwr with step := k } }
  match k with
  | 3 => s.freezeMeter
  | 5 => if t ≤ 2 then s
         else (List.range 128).foldl (fun s q => if s.on F.Q_BASE_HI_EN q then s.queueStop q false [] else s) s
  | 6 => s.sleepBanks t
  | 7 => if t ≤ 2 then s else { (s.semReset).set F.PWR_IMAGE_SAVED 1 with pwr := { s.pwr with image := s.regImage } }
  | 8 => s.enterState
  | _ => s

/-- Steps after the one taken last, up to `k`. -/
def State.entrySteps (s : State) (k : Nat) : State :=
  (List.range (k - s.pwr.step)).foldl (fun s _ => s.entryStep (s.pwr.step + 1)) s

/-- ENTRY_COMPLETE (R432): the entry takes `took` ns, within 2 µs for HOLD and 2 ms for the others. -/
def State.entryComplete (s : State) (took : Nat) : State :=
  if !(s.on F.PWR_STAT_ENTERING) || s.pwr.target = 5 then s
  else
    let bound := if s.pwr.target = 1 then 2000 else 2000000
    let s := s.elapseTo (s.pwr.entryAt + min took bound)
    if s.pwr.target = 1 then s.entryStep 8 else s.entrySteps 8

/-- A wake that `s` has just accepted during an entry lets the step in progress end (R433): the steps whose time has come
have run, and the one in progress runs to its end. -/
def State.settleWake (before s : State) : State :=
  if before.on F.PWR_STAT_ENTERING && s.pwr.exiting && !(s.on F.PWR_STAT_ENTERING) && s.pwr.target != 5 && s.pwr.target != 1 then
    let t := s.clk.now - s.pwr.entryAt
    let k := ((List.range 8).filter (fun i => decide (entryBound (i + 1) ≤ t))).length
    let last := min 8 (max (k + 1) s.pwr.step)
    (s.elapseTo (s.pwr.entryAt + entryBound last)).entrySteps last
  else s

/-! ### Leaving a state (R434, R435) -/

/-- The image merged into the register file of the islands that were off, and pages frozen by it shown as they stand
(R429, R50). -/
def State.restoreImage (s : State) : State :=
  let saved := s.pwr.image.filter (fun r => ownerIsland (r.1 / 32 / 0x1000) != 29)
  let s := { s with regs := saved.foldl (fun m (r : Nat × Nat) => rfPut r.1 r.2 m) s.regs, pwr := { s.pwr with image := [] } }
  let frozen := (List.range 64).filter (fun p => !(pageReserved p) && ownerIsland p != 29 && s.on F.PG_CTRL_FREEZE p)
  { s.set F.PWR_IMAGE_RESTORED 1 with
    host := { s.host with frozen := s.host.frozen ++ frozen.map (fun p => (p, s.snapshotPage p)) } }

/-- Everything that lay in islands off in SLUMBER and VIGIL starts anew (R430). -/
def State.returnParts (s : State) : State :=
  let s := { s with
    isl := { s.isl with pllLost := [] }, course := 0, base := 0, pendSched := none, loading := none
    so := { SetOut.zero with cab := s.so.cab, cpl := s.so.cpl }, pace := Pacing.zero
    trw := Trowel.zero, loc := Locals.zero, twin := { Twin.zero with killPin := s.twin.killPin }
    lines := s.lines.map (fun (l : Line) => { Line.zero with lfsr := l.lfsr, hold := l.hold })
    clk := { s.clk with lt := 0, ltFrac := 0, slewRate := 0, slewLeft := 0, ltOn := true } }
  let s := s.set F.ISL_PLL_LOCKED 0x1FFF
  let s := if s.boot.role != 0 then s.set F.SETO_STAT_IS_DATUM 0 else s
  let s := (s.startSchedule.setTable [s.ownEntry]).sourceRegs
  if s.twin.killPin then s.kill else s

/-- The node is back from SLUMBER or VIGIL (R429, R430, R434). -/
def State.returnFull (s : State) : State :=
  let s := ((s.returnParts).restoreImage).powerRun
  let s := s.restoreFrom s.mtr.retained true false
  let s := ((s.followMarkBanks).releaseHeldMarks).wheelCheck
  { s with host := { s.host with wdogAt := s.clk.now } }

/-- What steps up to `k` of an entry into `t` took away comes back (R433, R434). -/
def State.undoEntry (s : State) (k : Nat) : State :=
  let s := if 6 ≤ k then s.powerRun else s
  let s := if 2 ≤ k then s.loadsReturn else s
  let s := if 3 ≤ k then s.returnMeter else s
  if 4 ≤ k then s.followMarkBanks.releaseHeldMarks else s

/-- The longest exit from a state, in ns (R425). -/
def exitBound (st : Nat) : Nat := match st with | 1 => 3000 | 2 => 30000 | 3 => 300000 | _ => 3000000

/-- EXIT_COMPLETE (R434, R435): the exit has taken `took` ns. After network sleep the WAKING phase begins (R442). -/
def State.exitComplete (s : State) (took : Nat) : State :=
  if !s.pwr.exiting then s
  else
    let t := s.pwr.target
    let s := s.elapseTo (s.pwr.wakeAt + min took (exitBound t))
    let deep := 3 ≤ s.power
    let k := s.pwr.step
    let s := { s.set F.PWR_STAT_STATE 0 with pwr := { s.pwr with step := 0, exiting := false } }
    let s := if deep then s.returnFull
      else (if t = 1 then s else s.undoEntry k).set F.PWR_IMAGE_RESTORED 0
    let s := s.canModes
    let us : Nat := min 0xFFFF ((s.clk.now - s.pwr.wakeAt) / 1000)
    let s := (s.set F.PWR_EXIT_US us).irq 0x03 8
    if s.pwr.network then
      let s := s.set F.PWR_STAT_WAKING 1
      { s.lintelsAsleep with
        pwr := { s.pwr with wakingEnd := some (s.clk.now + s.get F.WAKE_CFG_WAKING_MS * 1000000) } }
    else s.lintelsBack

/-- WAKING_END (R442): the node starts courses as ALONE, at the next boundary its line time has not passed. -/
def State.wakingEnd (s : State) : State :=
  match s.pwr.wakingEnd with
  | none => s
  | some t =>
    let s := s.elapseTo t
    let k := s.into / s.courseNs
    let s := { s with course := (s.course + k) % 2 ^ 32, base := s.base + k * s.courseNs
                      pwr := { s.pwr with wakingEnd := none, wokeBy := none, network := false } }
    (s.set F.PWR_STAT_WAKING 0).becomeAlone.lintelsBack

/-- WAKE_FRAME_TX on port `n` (R442, R176). A twin sends one only while its ARB_ROLE reads ACTIVE. -/
def State.wakeFrame (s : State) (n : Nat) : State :=
  let serving := s.serving.contains n && (s.up n || s.get F.SPK_CFG_GEN n == 1)
  if !(s.on F.PWR_STAT_WAKING) || !serving || (s.boot.twin && s.twin.roleLevel != 1) then s
  else
    let s := if (s.line n).wakeAt = 0 then s else s.elapseTo ((s.line n).wakeAt + 1000000)
    let word := s.get F.PWR_STAT_CAUSE + 16 * s.get F.PWR_STAT_DETAIL
    let (q, s) := s.takeCtl
    s.originate n s.clk.lt (s.frame 7 0 0 0 s.pos 63 s.gen q [word, 0])

/-! ### Host commands and wakes (R427, R440, R441) -/

/-- PWR_CMD with GO accepted: TARGET 0 is a host wake in HOLD and NAP, any other starts an entry. -/
def State.pwrCmd (s : State) (target : Nat) : State :=
  if target = 0 then (if s.power = 1 || s.power = 2 || s.on F.PWR_STAT_ENTERING then s.wake 3 0 else s)
  else s.startEntry (min target 4) 0 false

/-- HOST_WAKE_N has been low for 1 µs. -/
def State.hostWakePin (s : State) : State := (s.elapse 1000).wake 3 0

/-- WAKE_SW `k` has been stable at `level` for 10 ms. -/
def State.wakeSwitch (s : State) (k : Nat) (level : Bool) : State :=
  let s := s.elapse 10000000
  let s := { s with pwr := { s.pwr with swLevel := setBit s.pwr.swLevel k level } }
  let m := s.get (F.WAKE_SW_CFG_MODE k)
  if (m = 1 && !level) || (m = 2 && level) then s.wake 1 k else s

/-- A saved field as its island holds it: below NAP what the register image keeps (R429). -/
def State.imageGet (s : State) (f : Fld) (i : Nat) : Nat :=
  if 3 ≤ s.power then (rfFind (f.key i) s.pwr.image).getD (f.reset.eval s.boot i) % 2 ^ f.width else s.get f i

/-- LINE_WAKE (R441, R443, R444): the watcher of port `n` detects its pattern. -/
def State.lineWake (s : State) (n : Nat) : State :=
  let watching := (s.power != 0 || s.on F.PWR_STAT_ENTERING) && s.power != 5 && s.pins.main
    && s.imageGet F.SPK_CFG_GEN n != 0 && bit (s.get F.WAKE_LINE_EN) n
  if !watching then s
  else
    let s := s.inc F.WAKE_P_DETECT n
    if s.pwr.backoff.isSome then s.inc F.WAKE_IGNORED
    else if s.pwr.exiting then s
    else
      let s := s.wake 2 n
      if !s.pwr.exiting then s
      else { s with pwr := { s.pwr with
        confirm := some (s.clk.now + s.get F.WAKE_CFG_WAKE_CONFIRM * 1000000), wokeBy := some n } }

/-! ### Network sleep (R439) -/

/-- NETWORK_SLEEP_STOP: the stop course held begins. A node whose own vote is AWAKE then wakes the line. -/
def State.networkStop (s : State) : State :=
  let stop := s.get F.WAKE_STOP
  if stop = 0 || s.power != 0 || s.on F.PWR_STAT_ENTERING || s.on F.PWR_STAT_WAKING then s
  else
    let s := if s.course + 1 = stop then s.courseBoundary else s
    if s.course != stop then s
    else
      let awake := !s.votesSleep
      let s := { (s.set F.WAKE_STOP 0).set F.WAKE_STAT_ANNOUNCED 0 with
        so := { s.so with plan := none, sending := [], answers := [] }
        pwr := { s.pwr with announce := none, withdrawn := false, voted := [], awake := false } }
      let s := ((s.set F.SETO_GEN_PENDING 0).set F.SETO_COMMIT 0).set F.WAKE_STAT_UNANIMOUS 0
      let s := s.startEntry s.pwr.stopState 1 true
      if awake then s.wake 3 0 else s

/-! ### False wakes and back-off (R443, R444) -/

/-- WAKE_CONFIRM_EXPIRY: no valid frame before the deadline, so the wake was false and the node goes back. The decision is
taken at the horizon (R158). -/
def State.confirmExpiry (s : State) : State :=
  match s.pwr.confirm with
  | none => s
  | some t =>
    if s.power != 0 || s.on F.PWR_STAT_ENTERING || s.pwr.exiting || s.inFlight (s.asLine t) then s
    else
      let s := s.elapseTo (t + horizonNs)
      let s := { s with pwr := { s.pwr with confirm := none } }
      let s := ((s.inc F.WAKE_FALSE_COUNT).inc F.WAKE_FALSE_IN_WINDOW).irq 0x04 10
      let s := { s with pwr := { s.pwr with window := some (s.pwr.window.getD s.clk.now) } }
      let s := if s.get F.WAKE_BACKOFF_FALSE_MAX ≤ s.get F.WAKE_FALSE_IN_WINDOW then
          { (s.set F.WAKE_FALSE_IN_WINDOW 0).irq 0x04 11 with
            pwr := { s.pwr with window := none, backoff := some (s.clk.sec + s.get F.WAKE_BACKOFF_BACKOFF_S) } }
        else s
      s.startEntry s.pwr.target (s.get F.PWR_STAT_ORIGIN) (s.get F.PWR_STAT_ORIGIN == 1)

/-- BACKOFF_END: the RTC reaches the end of back-off. -/
def State.backoffEnd (s : State) : State :=
  match s.pwr.backoff with
  | none => s
  | some sec => let s := s.elapse (s.untilRtc sec); { s with pwr := { s.pwr with backoff := none } }

/-- FALSE_WAKE_WINDOW_CLOSE: 3,600 s after the window opened. -/
def State.windowEnd (s : State) : State :=
  match s.pwr.window with
  | none => s
  | some t =>
    let s := s.elapseTo (t + 3600000000000)
    { s.set F.WAKE_FALSE_IN_WINDOW 0 with pwr := { s.pwr with window := none } }

/-- PHY_FAILSAFE (R445): 500 ms without an acknowledgement of a wake, or 2 s without a frame passed. -/
def State.phyFailsafe (s : State) (n : Nat) (ack : Bool) : State :=
  if ack then
    if s.pwr.wokeBy = some n && (s.power = 0 || s.pwr.exiting) then
      let s := s.elapseTo (s.pwr.wakeAt + 500000000)
      let s := { s with pwr := { s.pwr with wokeBy := none } }
      ((s.inc F.WAKE_P_FAILSAFE_ACK_TO n).irq 0x04 12).linkDown n
    else s
  else if s.up n && !(s.islandAsleep n) && s.power ≤ 1 then
    let s := s.elapseTo ((s.line n).passedAt + 2000000000)
    ((s.inc F.WAKE_P_FAILSAFE_TX_TO n).irq 0x04 12).linkDown n
  else s

/-! ### Loss and return of main power (R385, R392, R431, R432) -/

/-- KEEP: the RTC, the canary, the BKP counters and the snapshot of the retention store stay (R431). -/
def State.enterKeep (s : State) : State :=
  let s := s.inc F.PWR_ENTRIES
  let s := s.vaultCut.fresh (F.PWR_WARM_STARTS.key 0 :: F.PWR_ENTRIES.key 0 :: F.PWR_STAT_ORIGIN.key 0 :: keptKeys)
  s.set F.PWR_STAT_STATE 5

/-- MAIN_FAILURE: VDD_AO_IN has been below 2.8 V for 1 µs. -/
def State.mainFailure (s : State) : State :=
  if !s.pins.main then s
  else
    let s := s.elapse 1000
    let s := { s with pins := { s.pins with main := false, back := false } }
    let s := (s.inc F.BKP_MAIN_LOSS).set F.BKP_LOSS_AT_LO s.clk.sec
    let s := (s.set F.BKP_LOSS_AT_HI (s.clk.sec / 2 ^ 32)).set F.PWR_STAT_ORIGIN 2
    if s.on F.TALY_STAT_SAVING then s.mark 0x083 (le 8 s.clk.sec)
    else if s.isl.started < 8 then (s.mark 0x083 (le 8 s.clk.sec)).enterKeep
    else
      let frozen := 2 ≤ s.pwrAt 3
      let s := s.vaultCut.dumpAbandon
      let s := if frozen then s.saveRetained else s.startSave
      let s := (s.mark 0x083 (le 8 s.clk.sec)).lintelsAsleep
      { (s.set F.PWR_STAT_ENTERING 1).set F.PWR_STAT_WAKING 0 with
        pwr := { s.pwr with target := 5, entryAt := s.clk.now, step := max 2 s.pwr.step, exiting := false, wakingEnd := none
                            confirm := none, wokeBy := none } }

/-- Main is valid again (R385, R392): the start waits for a save in progress; in KEEP the verdict is taken at once. -/
def State.mainValid (s : State) (f : StartFacts) (canary : Nat) : State :=
  if s.pins.main then s
  else if s.on F.TALY_STAT_SAVING then { s with pins := { s.pins with main := true, back := true } }
  else if s.power = 5 then s.verdictStart f canary true
  else s

end Sys2Proof.Machine
end

