-- ==== Sys2Proof/Machine/Dump.lean ====
section
/-! DEFINITION. The Rubble dump (chapter 20): triggers, freezing, the image section by section, the Vault subset, and its
commands. -/

namespace Sys2Proof.Machine

/-! ### Freezing (R480 to R483) -/

/-- A dump holds the node (R483). -/
def State.dumping (s : State) : Bool := 2 ≤ s.get F.DUMP_STAT_STATE

/-- Island `i` is one the dump freezes (R480); it waits for a slice to end, and the Vault for its operation (R422). -/
def State.freezes (s : State) (i : Nat) : Bool :=
  i != 24 && i != 26 && i != 30 && !(s.test.slices.any (fun x => 9 ≤ x.1 && domainIsland x.1 == i))
    && !(i == 31 && s.dump.vault)

/-- Islands that have come to a handshake boundary freeze, and what was staged for them is discarded (R65); the Trowel's
timebase stops with its island. Once the 100 µs of R481 are over and the Vault is frozen too, STATE is WRITING (R488). -/
def State.freezeMore (s : State) : State :=
  if !s.dumping then s
  else
    let f := (List.range 32).filter (fun i => s.isl.frozen.contains i || s.freezes i)
    let s := { s with isl := { s.isl with frozen := f } }.dropStaged
    let s := if s.get F.DUMP_STAT_STATE = 2 && s.dump.at_ + 100000 ≤ s.clk.now && f.contains 31 then s.set F.DUMP_STAT_STATE 3 else s
    { s with clk := { s.clk with ltOn := s.clk.ltOn && !(f.contains 8) } }

/-- The outputs are safe within 1 µs of the trigger (R482). -/
def State.safeOutputs (s : State) : State :=
  let s := (List.range 8).foldl (fun s n =>
    let s := s.cutAir n
    s.setLine n { s.line n with primed := false }) s
  if s.boot.twin then { s with twin := { s.twin with twAct := false } } else s

/-- The dump starts: FREEZING (R478, R480, R482). -/
def State.dumpBegin (s : State) (auto : Bool) : State :=
  let s := { s with dump := { s.dump with
    held := none, at_ := s.clk.now, course := s.isl.token, lt := s.clk.lt, sec := s.clk.sec, sub := s.clk.sub
    before := (List.range 32).map s.islandState, forced := [], subset := [], swrst := false, flags := 0
    vault := s.on F.VLT_STAT_BUSY && !(s.islandAsleep 31) } }
  let s := ((s.set F.DUMP_STAT_STATE 2).setB F.DUMP_STAT_AUTO auto).urgent 7
  (s.safeOutputs.freezeMore).irq 0x02 9

/-- A trigger is accepted (R478, R479): it acts at once in RUN and HOLD, is held during a main-failure save, and in NAP is
a host wake and is held. -/
def State.dumpTrigger (s : State) (auto : Bool) : State :=
  let hold (s : State) : State := { s.set F.DUMP_STAT_STATE 1 with dump := { s.dump with held := some auto } }
  if s.get F.DUMP_STAT_STATE != 0 then s
  else if s.on F.TALY_STAT_SAVING then hold s
  else if s.power ≤ 1 then s.dumpBegin auto
  else if s.power = 2 then (hold s).wake 3 0
  else s

/-- HELD_DUMP_START after NAP: PWR_STAT reads RUN. -/
def State.heldDump (s : State) : State :=
  match s.dump.held with
  | some auto =>
    if s.power = 0 && !s.pwr.exiting && !(s.on F.PWR_STAT_ENTERING) && !(s.on F.TALY_STAT_SAVING) then s.dumpBegin auto else s
  | none => s

/-- DUMP_FORCE_STOP (R481, R488): 100 µs after the trigger the islands of `mask` are stopped where they stand; the Vault
finishes its operation (R422). -/
def State.dumpForce (s : State) (mask : Nat) : State :=
  if s.get F.DUMP_STAT_STATE != 2 then s
  else
    let s := s.elapseTo (s.dump.at_ + 100000)
    let late := (oneBits 31 mask).filter (fun i => i != 24 && i != 26 && i != 30)
    let s := { s with dump := { s.dump with forced := late }
                      test := { s.test with slices := s.test.slices.filter (fun x => !(late.contains (domainIsland x.1))) } }
    (s.setB F.DUMP_STAT_FORCED (!late.isEmpty)).freezeMore

/-! ### The image (R484 to R487) -/

/-- A section: its type, whether an uncorrectable word was copied into it, and its body in parts that are never cut. -/
structure Section where
  typ   : Nat
  ue    : Bool
  parts : List (List Nat)
  deriving DecidableEq, Repr

/-- Bytes padded with zeros to a multiple of 8. -/
def pad8 (bs : List Nat) : List Nat := bs ++ List.replicate ((8 - bs.length % 8) % 8) 0

/-- The section with its header. -/
def Section.bytes (x : Section) (cut : Bool) : List Nat :=
  let body := x.parts.flatten
  le 2 x.typ ++ le 2 (cut.toNat + 2 * x.ue.toNat) ++ le 4 body.length ++ pad8 body

/-- ISLANDS; `lat` is the freeze latency of each island in units of 10 ns. -/
def State.secIslands (s : State) (lat : List Nat) : Section :=
  let word (i : Nat) : Nat := s.dump.before.getD i 0 + 16 * s.islandState i + 256 * (s.dump.forced.contains i).toNat
    + 65536 * min 0xFFFF (lat.getD i 0)
  ⟨1, false, (List.range 32).map (fun i => le 4 (word i)) ++ [le 4 (s.regLive 0x2110)]⟩

/-- CLAMP: the CLMP entries, oldest first. -/
def State.secClamp (s : State) : Section :=
  let entry (k : Nat) : List Nat :=
    ((List.range 8).map (fun w => le 4 (s.regLive (0x1800 + 32 * ((s.get F.CLMP_HEAD + k) % 64) + 4 * w)))).flatten
  ⟨2, false, (List.range 64).map entry ++ [le 4 (s.get F.CLMP_TOTAL) ++ le 4 (s.get F.CLMP_MISSED)]⟩

/-- MARK: the control block, from the recorder's registers under QUARRY_DOWN. -/
def State.secMark (s : State) : Section :=
  let down := s.on F.MARK_STAT_QUARRY_DOWN
  let block := if down then s.controlBytes ++ List.replicate 48 0 else s.qBytes markBase 48
  ⟨3, !down && (s.ueIn markBase 48).isSome, [block.take 48 ++ le 4 (s.get F.MARK_NEXT_SEQ) ++ [0, 0, 0, 0]]⟩

/-- A FIFO entry: channel code, port × 2 + direction, items held, first 12 bytes of the head item. -/
def fifoEntry (chan port dir : Nat) (items : List (List Nat)) : List Nat :=
  [chan, port * 2 + dir] ++ le 2 (min 0xFFFF items.length) ++ ((items.headD []) ++ List.replicate 12 0).take 12

/-- FIFO. What arrives is taken whole by one command, so a receive FIFO holds only what waits for the engine (R194, R227). -/
def State.secFifo (s : State) : Section :=
  let spk (n : Nat) : List (List Nat) := match (s.line n).sending with | some (_, _, f) => [leBytes (f.take 6)] | none => []
  let loc (l : List (Nat × LocalTx)) (p : Nat) : List (List Nat) := (l.filter (fun x => x.1 == p)).map (·.2.data)
  let spkRx (n : Nat) : List (List Nat) := (s.trw.crossing.filter (fun c => c.port == n)).map (fun c => leBytes (c.words.take 6))
  let ethRx (n : Nat) : List (List Nat) := (s.loc.ethRx.filter (fun x => x.1 == n)).map (fun x => x.2.2.1)
  let canRx (n : Nat) : List (List Nat) := (s.loc.canRx.filter (fun x => x.1 == n)).map (fun x => x.2.2.1.record)
  ⟨4, false, ((List.range 8).map (fun n => [fifoEntry n n 0 (spkRx n), fifoEntry n n 1 (spk n)])).flatten
    ++ [fifoEntry 8 0 0 [], fifoEntry 8 0 1 []]
    ++ ((List.range 8).map (fun n => [fifoEntry 9 n 0 (ethRx n), fifoEntry 9 n 1 (loc s.loc.ethTx n)])).flatten
    ++ ((List.range 4).map (fun n => [fifoEntry 10 n 0 (canRx n), fifoEntry 10 n 1 (loc s.loc.canTx n)])).flatten⟩

/-- Offsets grouped into runs of consecutive registers: start and count. -/
def runsOf : List Nat → List (Nat × Nat)
  | [] => []
  | o :: t => match runsOf t with
    | (a, n) :: r => if a = o + 4 then (o, n + 1) :: r else (o, 1) :: (a, n) :: r
    | [] => [(o, 1)]

/-- The subsection of a page. -/
def State.pageSub (s : State) (p : Nat) : List (List Nat) :=
  if s.islandState (ownerIsland p) = 0 then [le 4 (p + 256)]
  else
    let rs := runsOf (((List.range 1024).map (· * 4)).filter (fun o => (rowAt p o).isSome))
    let run (r : Nat × Nat) : List Nat :=
      le 2 r.1 ++ le 2 r.2 ++ ((List.range r.2).map (fun i => le 4 (s.regLive (p * 0x1000 + r.1 + 4 * i)))).flatten
    match rs.map run with
    | [] => [le 4 p]
    | r :: t => (le 4 (p + 65536 * rs.length) ++ r) :: t

/-- PAGES. -/
def State.secPages (s : State) : Section :=
  ⟨5, false, (((List.range 64).filter (fun p => !(pageReserved p))).map s.pageSub).flatten⟩

/-- A context placed in a list of rising numbers. -/
def insertCtx (x : Ctx) : List Ctx → List Ctx
  | [] => [x]
  | y :: t => if x.num ≤ y.num then x :: y :: t else y :: insertCtx x t

/-- CONTEXTS. -/
def State.secContexts (s : State) : Section :=
  let cs := s.trw.ctxs.foldr insertCtx []
  let count (st : Nat) : Nat := (cs.filter (fun c => c.state == st)).length
  let which (c : Ctx) : Nat := if c.chan < 8 then (if c.slot < 0x400 || 0x30000000 ≤ c.slot then c.slot % 1024 else 0xFFFF)
    else if c.chan = 0xB then (c.slot - 0x400) / 65536 else 0xFFFF
  let entry (c : Ctx) : List Nat := le 2 c.num ++ [c.chan % 16 + 16 * (c.state - 1), 0] ++ le 2 (which c) ++ le 2 (min 0xFFFF c.words)
  ⟨6, false, ((([1, 2, 3, 4, 5].map count) ++ [16384 - cs.length]).map (le 4)).flatten :: cs.map entry⟩

/-- The sections of the image in order. -/
def State.sections (s : State) (lat : List Nat) : List Section :=
  [s.secIslands lat, s.secClamp, s.secMark, s.secFifo, s.secPages] ++ (if s.on F.DUMP_CFG_CTX_EN then [s.secContexts] else [])

/-- The parts of a section that fit in `room` bytes with the section header and the pad. -/
def fitParts (room : Nat) : List (List Nat) → Nat → List (List Nat)
  | [], _ => []
  | p :: t, used => if 8 + (used + p.length + 7) / 8 * 8 ≤ room then p :: fitParts room t (used + p.length) else []

/-- Sections that fit in `room` bytes, each with whether it was cut; those after a cut one are omitted. -/
def fitSections : Nat → List Section → List (Section × Bool)
  | _, [] => []
  | room, x :: t =>
    let kept := fitParts room x.parts 0
    if kept.length = x.parts.length then (x, false) :: fitSections (room - (x.bytes false).length) t
    else if kept.isEmpty then [] else [({ x with parts := kept }, true)]

/-- The header (R486). -/
def State.dumpHead (s : State) (flags len sections seq : Nat) : List Nat :=
  [0xB5, 0xD0, 0x01, flags] ++ le 4 len ++ le 8 s.boot.uid ++ le 2 s.gen ++ [s.pos, s.boot.straps % 256]
    ++ le 4 s.dump.course ++ le 8 s.dump.lt ++ rtcBytes s.dump.sec s.dump.sub ++ le 4 (s.get F.TOP_REV)
    ++ le 2 (if s.on F.TRW_STAT_MCODE_OK then s.get F.TRW_STAT_MCODE_VER else 0) ++ le 2 sections ++ le 4 seq
    ++ List.replicate 12 0

/-- An image of `limit` bytes at most: its bytes, and its flags. `flags` are those that do not depend on the cut. -/
def State.dumpImage (s : State) (xs : List Section) (limit flags seq : Nat) : List Nat × Nat :=
  let kept := fitSections (limit - 68) xs
  let cut := kept.length < xs.length || kept.any (·.2)
  let ue := kept.any (fun x => x.1.ue)
  let fl := flags + 4 * cut.toNat + 16 * ue.toNat
  let body := (kept.map (fun x => x.1.bytes x.2)).flatten
  let bs := s.dumpHead fl (64 + body.length + 4) kept.length seq ++ body
  (bs ++ le 4 (crc32r bs), fl)

/-! ### The Vault subset (R489, R490) -/

/-- A slot is erased. -/
def State.slotBlank (s : State) (k : Nat) : Bool := (s.vBytes (0x6C0000 + k * 0x10000) 0x10000).all (· == 0xFF)

/-- The slot the next subset goes to: the lowest erased one, else the one with the lowest sequence. -/
def State.dumpSlot (s : State) : Nat :=
  match (List.range 4).find? s.slotBlank with
  | some k => k
  | none => (List.range 4).foldl (fun b k => if s.slotSeq k < s.slotSeq b then k else b) 0

/-- DUMP_IMAGE_DONE (R485, R486, R488, R490): the image is complete `took` ns after the trigger. `facts` tell what a node
reset meets that waits for the end of step 4 (R493). -/
def State.dumpDone (s : State) (lat : List Nat) (took : Nat) (facts : StartFacts) : State :=
  let st := s.get F.DUMP_STAT_STATE
  let s := s.freezeMore
  if (st != 2 && st != 3) || !(s.isl.frozen.contains 31) then s
  else
    let s := s.elapseTo (s.dump.at_ + took)
    let direct := s.bank 63 = 6 || s.mFenced 12
    let s := if direct then s else (if s.bank 63 ≤ 1 then s.wipeBank 63 else s).setBank 63 2
    let seq := min (s.dump.high + 1) 0xFFFFFFFF
    let flags := 8 * s.get F.DUMP_STAT_FORCED + 32 * s.get F.DUMP_STAT_AUTO
    let xs := s.sections lat
    let (image, fl) := if direct then s.dumpImage xs 0x10000 (flags + 3) seq else s.dumpImage xs 0x40000 flags seq
    let due := direct || s.on F.DUMP_CFG_VLT_EN
    let (sub, subFl) := if direct then (image, fl) else s.dumpImage xs 0x10000 (flags + 1) seq
    let slot := s.dumpSlot
    let s := if direct then s else s.qStore 0x03FC0000 image
    let s := { s with dump := { s.dump with high := seq, subset := if due then sub else [], flags := fl } }
    let kib : Nat := (image.length + 1023) / 1024
    let s := ((s.set F.DUMP_SEQ seq).set F.DUMP_LEN image.length).set F.DUMP_STAT_LEN_KIB kib
    let s := ((s.setB F.DUMP_STAT_VALID (!direct)).setB F.DUMP_STAT_DIRECT direct).setB F.DUMP_STAT_UE (bit fl 4)
    let s := s.setB F.DUMP_STAT_TRUNCATED (bit fl 2 || (due && bit subFl 2))
    let us : Nat := min 0xFFFF ((s.clk.now - s.dump.at_) / 1000)
    let s := ((s.set F.DUMP_TIME_US us).inc F.DUMP_COUNT).irq 0x36 8
    if s.dump.swrst then (s.dumpMark direct.toNat 0xFF).nodeReset facts 2
    else if due then (s.set F.DUMP_STAT_SLOT slot).set F.DUMP_STAT_STATE 4
    else (s.dumpMark 0 0xFF).set F.DUMP_STAT_STATE 5

/-- DUMP_SUBSET_DONE (R489): the slot's sectors are erased and the subset is programmed; `good` of its 16 sectors took it.
Where that is too few the next one failed: it is retired as long as a spare is left, and else ends the subset (R418). `hot`
tells that Tj exceeded 125 °C (R414). -/
def State.dumpSubset (s : State) (good : Nat) (hot : Bool) (took : Nat) : State :=
  if s.get F.DUMP_STAT_STATE != 4 then s
  else
    let s := s.elapseTo (s.dump.at_ + took)
    let slot := s.get F.DUMP_STAT_SLOT
    let base := 0x6C0000 + slot * 0x10000
    let s := (List.range 16).foldl (fun s k =>
      let l := base / 4096 + k
      let p := s.phys l
      let i := s.physInfo p
      let count := min (i.count + (if hot then 5 else 1)) 0xFFFFFF
      let s := if hot then s.inc F.VLT_HOT_ERASE else s
      let s := s.setPhys p { i with count := count, overLimit := i.overLimit || decide (100000 ≤ count), incomplete := false }
      (if 100000 ≤ count && !i.overLimit then s.wearMark 2 p else s).vWipe l) s
    let need := (s.dump.subset.length + 4095) / 4096
    let short := good < need
    let fail := short && (s.spares = 0 || s.vaultRo)
    let s := s.vStore base (s.dump.subset.take (if fail then good * 4096 else s.dump.subset.length))
    let s := if fail then
        let p := s.phys (base / 4096 + good)
        s.setPhys p { s.physInfo p with state := .failed }
      else if short then s.retire (base / 4096 + good) 1 0 else s
    let s := (if fail then (s.set F.DUMP_STAT_VLT_FAIL 1).irq 0x36 10 else (s.set F.DUMP_STAT_VLT_DONE 1).irq 0x36 9)
    let s := { s with dump := { s.dump with subset := [] } }
    (s.dumpMark (s.get F.DUMP_STAT_DIRECT) (if fail then 0xFF else slot)).set F.DUMP_STAT_STATE 5

/-- DUMP_CMD.CLEAR (R492). -/
def State.dumpClear (s : State) : State :=
  let q := { s.qry with mem := memClear (s.qKey 0x03FC0000) (s.qKey 0x03FC0000 + 0x40000) s.qry.mem
                        ue := s.qry.ue.filter (fun w => w.1 < s.qKey 0x03FC0000 / 8 || s.qKey 0x03FC0000 / 8 + 0x8000 ≤ w.1) }
  { s with qry := q }.set F.DUMP_STAT_VALID 0

/-- DUMP_CMD.VLT_CLEAR (R492): each slot of `mask` is erased, as operations of class 3. -/
def State.dumpVaultClear (s : State) (mask : Nat) : State :=
  (oneBits 4 mask).foldl (fun s k =>
    (List.range 16).foldl (fun s j => s.vPush ⟨.dumpErase k, [], 0x6C0 + k * 16 + j, true, 0, false⟩) s) s

/-! ### The end of a main-failure save (R366, R392, R479) -/

/-- SNAPSHOT_SAVE_DONE: a dump held goes first where main is valid; else the start that return of main asks for; else
KEEP, and a dump held is discarded. -/
def State.saveEnds (s : State) (f : StartFacts) (canary : Nat) : State :=
  if !(s.on F.TALY_STAT_SAVING) then s
  else
    let s := s.saveDone
    match s.dump.held, s.pins.main with
    | some auto, true =>
      { (s.set F.PWR_STAT_ENTERING 0).dumpBegin auto with pwr := { s.pwr with target := 0, step := 0 }, pins := { s.pins with back := false } }
    | some auto, false =>
      let s := { s with dump := { s.dump with held := none, course := s.isl.token, flags := 0 } }
      ((s.setB F.DUMP_STAT_AUTO auto).dumpMark 2 0xFF).enterKeep
    | none, true => s.verdictStart f canary true
    | none, false => s.enterKeep

end Sys2Proof.Machine
end

