-- ==== Sys2Proof/Machine/Attach.lean ====
section
/-! DEFINITION. The host attachment (chapter 18): interfaces, MSI-X messages and what follows every command, the watchdog,
DMA channels, the PCIe endpoint, and the BAR4 window. -/

namespace Sys2Proof.Machine

/-! ### Interfaces (R446) -/

/-- The master ID of an interface. -/
def Ifc.id : Ifc → Nat
  | .pcie => 0 | .lb => 1 | .spi => 2

/-- The host island answers (R30, R462 step 3). -/
def State.hostUp (s : State) : Bool := decide (s.power ≤ 2) && decide (3 ≤ s.isl.started)

/-- An interface answers (R446, R465): PCIe with its link up; with PLL_HST failed SPI alone. -/
def State.ifcOn (s : State) (i : Ifc) : Bool :=
  s.hostUp && (match i with
    | .pcie => s.on F.HOST_IF_PCIE && s.on F.HOST_STAT_LINK_UP && !(s.isl.pllLost.contains 11)
    | .lb => s.on F.HOST_IF_LB && !(s.isl.pllLost.contains 11)
    | .spi => s.on F.HOST_IF_SPI)

/-! ### MSI-X (R457) -/

/-- Bit v: vector v is pending and enabled. -/
def State.vecLive (s : State) : Nat := s.vecPend.land (s.get F.IRQ_VEC_EN)

/-- The endpoint can issue an MSI-X message of vector `v`: not masked, mastering allowed, in D0. -/
def State.msixOpen (s : State) (v : Nat) : Bool :=
  s.host.bme && s.on F.HOST_STAT_LINK_UP && !(s.on F.HOST_STAT_D3HOT) && !s.host.fmask && !(s.on F.MSIX_CTRL v)

/-- The message of vector `v` is sent, or waits in the PBA while it is masked. -/
def State.msixSend (s : State) (v : Nat) : State :=
  if !s.host.msix then s
  else if s.msixOpen v then
    (s.clrBit F.PBA v).emit (.msix v (s.get F.MSIX_ADDR_LO v * 4 + s.get F.MSIX_ADDR_HI v * 2 ^ 32) (s.get F.MSIX_DATA v))
  else s.orBit F.PBA v

/-- Messages that waited in the PBA go out once they may; one whose vector is no longer pending is dropped. -/
def State.msixFlush (s : State) : State :=
  (oneBits 32 (s.get F.PBA)).foldl (fun s v =>
    if !(bit s.vecLive v) then s.clrBit F.PBA v else if s.msixOpen v then s.msixSend v else s) s

/-- The output leaves by pins that the boundary register covers (R521): the always-push-pull and serial pins, the local
bus, and the codec pins of a Spaka-A port. -/
def State.covered (s : State) : Emit → Bool
  | .pulse _ | .beat _ | .can _ _ | .spi _ => true
  | .hostRead i _ _ => i == 1
  | .line n _ _ | .lead n _ => s.get F.SPK_CFG_GEN n == 1
  | _ => false

/-- While EXTEST, CLAMP or HIGHZ is in force, what the node gives to covered pins does not reach them (R521). -/
def State.tapHolds (before s : State) : State :=
  if s.tap.ir < 3 then s
  else
    let k := s.out.length - before.out.length
    { s with out := (s.out.take k).filter (fun e => !(s.covered e)) ++ s.out.drop k }

/-- Vectors that have become pending and enabled since `before` send their messages, and those that waited go out (R457). -/
def State.messages (before s : State) : State :=
  if !s.hostUp then s
  else
    let new := s.vecLive
    let old := before.vecLive
    (((List.range 32).filter (fun v => bit new v && !(bit old v))).foldl (fun s v => s.msixSend v) s).msixFlush

/-- The queue of waiting commands as it was `before`: no command takes from it or adds to it. -/
def State.keepQueue (before s : State) : State := { s with pending := before.pending }

/-- What follows a command: a wake during an entry lets the step in progress end (R433), islands that a dump waited for
freeze (R480), the TAP holds the pins (R521), and messages go out (R457). -/
def State.finish (before s : State) : State :=
  State.messages before (State.keepQueue before (State.tapHolds before (State.settleWake before s).freezeMore))

/-- IRQ_EOI: the message of each vector named goes out again if it is still pending and enabled. -/
def State.irqEoi (s : State) (mask : Nat) : State :=
  (oneBits 32 (mask.land s.vecLive)).foldl (fun s v => s.msixSend v) s

/-- IRQ_N0 is low (R459). -/
def State.irqN0 (s : State) : Bool := bit s.vecLive 0 && s.on F.IRQ_PIN_EN_N0
/-- IRQ_N1 is low. -/
def State.irqN1 (s : State) : Bool := s.vecLive / 2 != 0 && s.on F.IRQ_PIN_EN_N1

/-! ### The pins that follow the node's state (R230, R506) -/

/-- SP_LINK_N of port `n` is low. -/
def State.spLinkLow (s : State) (n : Nat) : Bool := s.on F.SPK_LINK_UP n
/-- GA_RE_N is low. -/
def State.gaReLow (s : State) : Bool := 3 ≤ s.isl.started
/-- LE_TXDIS of port `n`; `none` where it is high-impedance. -/
def State.leTxDis (s : State) (n : Nat) : Option Bool := if 3 ≤ s.power then none else some (!(s.on F.LETH_P_CFG_EN n))
/-- LC_STB of port `n`: high on a disabled port, and in SLUMBER and below (DEDUCED for the disabled port). -/
def State.lcStandby (s : State) (n : Nat) : Bool := 3 ≤ s.power || !(s.on F.LC_P_CFG_EN n)
/-- The test signal that the PMA of port `n` transmits, as SPK_TEST.MODE numbers it, 0 for none: the kill latch and the test hold
force it off, and a twin that does not drive its PHY sends none (R524, R526). -/
def State.pmaSignal (s : State) (n : Nat) : Nat :=
  if s.islandAsleep n || s.killed || (s.line n).hold || !s.phyDrives then 0 else s.get F.SPK_TEST n
/-- MAIN_FAIL_N is low. -/
def State.mainFailLow (s : State) : Bool := !s.pins.main

/-! ### The watchdog (R460) -/

/-- A kick. -/
def State.wdogKick (s : State) : State :=
  if s.dumping then s else { s.set F.WDOG_STAT_FIRST 0 with host := { s.host with wdogAt := s.clk.now } }

/-- WATCHDOG_EXPIRY: `facts` tell what the node reset meets that a second expiry may cause. -/
def State.wdogExpiry (s : State) (facts : StartFacts) : State :=
  if !(s.on F.HOST_WDOG_CFG_EN) || s.dumping || s.islandAsleep 26 || s.isl.started < 8 then s
  else
    let due := s.host.wdogAt + s.get F.HOST_WDOG_CFG_TIMEOUT_MS * 1000000
    let s := { s.elapseTo due with host := { s.host with wdogAt := due } }
    let s := (s.inc F.WDOG_STAT_COUNT).irq 0x05 12
    if !(s.on F.WDOG_STAT_FIRST) then (s.set F.WDOG_STAT_FIRST 1).urgent 3
    else if s.on F.DUMP_CFG_DUMP_AUTO then s.dumpTrigger true
    else if s.on F.HOST_WDOG_CFG_RESET_EN then s.nodeReset facts 3
    else s

/-! ### DMA (R451) -/

/-- The source or destination address of channel `d`, and whether it is a PCIe bus address. -/
def State.dmaAddr (s : State) (d : Nat) (dst : Bool) : Bool × Nat :=
  if dst then (s.on F.DMA_DST_HI_SPACE d, s.get F.DMA_DST_LO d * 8 + s.get F.DMA_DST_HI_ADDR d * 2 ^ 32)
  else (s.on F.DMA_SRC_HI_SPACE d, s.get F.DMA_SRC_LO d * 8 + s.get F.DMA_SRC_HI_ADDR d * 2 ^ 32)

/-- The channel uses PCIe space. -/
def State.dmaPcie (s : State) (d : Nat) : Bool := (s.dmaAddr d false).1 || (s.dmaAddr d true).1

/-- START accepted. -/
def State.dmaStart (s : State) (d : Nat) : State :=
  let s := ((s.set F.DMA_STAT_BUSY 1 d).set F.DMA_STAT_CODE 0 d).set F.DMA_DONE_LEN 0 d
  { s with host := { s.host with dmaDone := put d 0 s.host.dmaDone } }

/-- The eight bytes at offset `n` of the source: a code (0 read), the bytes, and the node after. `host` is what host
memory's completion carries; none in time is a completion timeout (R450). -/
def State.dmaRead (s : State) (d n : Nat) (host : List Nat) : Nat × List Nat × State :=
  let (pcie, a) := s.dmaAddr d false
  if pcie then
    if !(s.bmOk (a + n) 8) then (2, [], s.inc F.HOST_BM_DENY)
    else if host.length < 8 then (2, [], s.inc F.HOST_PCIE_ERR)
    else (0, host.take 8, s)
  else
    match s.qRead (4 + d) (a + n) 8 with
    | (.ok, b, s) => (0, b, s)
    | (.ue _, _, s) => (3, [], s)
    | (.denied _, _, s) => (1, [], s)

/-- Eight bytes written at offset `n` of the destination. -/
def State.dmaWrite (s : State) (d n : Nat) (bs : List Nat) : Nat × State :=
  let (pcie, a) := s.dmaAddr d true
  if pcie then (match s.bmWrite (a + n) bs with | (true, s) => (0, s) | (false, s) => (2, s))
  else match s.qWrite (4 + d) (a + n) bs with
    | (.ok, s) => (0, s)
    | (_, s) => (1, s)

/-- Up to `k` units of eight bytes are copied in ascending order: the code the copy stopped with, or 0. -/
def State.dmaCopy (s : State) (d : Nat) (host : List Nat) : Nat → Nat × State
  | 0 => (0, s)
  | k + 1 =>
    let n := look 0 d s.host.dmaDone
    let (c, b, s) := s.dmaRead d n host
    if c != 0 then (c, s)
    else
      let (c, s) := s.dmaWrite d n b
      if c != 0 then (c, s)
      else
        let s := { s with host := { s.host with dmaDone := put d (n + 8) s.host.dmaDone } }
        State.dmaCopy s d (if (s.dmaAddr d false).1 then host.drop 8 else host) k

/-- The channel ends with a code. -/
def State.dmaEnd (s : State) (d code : Nat) : State :=
  let s := ((s.set F.DMA_STAT_BUSY 0 d).set F.DMA_STAT_CODE code d).set F.DMA_DONE_LEN (look 0 d s.host.dmaDone) d
  let s := { s with host := { s.host with dmaDone := del d s.host.dmaDone } }
  let s := if code = 0 then s else s.irq 0x05 9
  if s.on F.DMA_CTRL_IRQ d then s.irq 0x05 8 else s

/-- DMA_DONE: the copy of a busy channel runs to its end. -/
def State.dmaRun (s : State) (d : Nat) (host : List Nat) : State :=
  if !(s.on F.DMA_STAT_BUSY d) || s.dumping || s.islandAsleep 26 then s
  else
    let (c, s) := s.dmaCopy d host (s.get F.DMA_LEN d - look 0 d s.host.dmaDone / 8)
    s.dmaEnd d c

/-- CTRL.ABORT accepted, or a PCIe reset: `units` have been copied before the end. -/
def State.dmaAbort (s : State) (d : Nat) (host : List Nat) (units : Nat) : State :=
  if !(s.on F.DMA_STAT_BUSY d) then s
  else
    let (c, s) := s.dmaCopy d host (min units (s.get F.DMA_LEN d - look 0 d s.host.dmaDone / 8))
    s.dmaEnd d (if c = 0 then 4 else c)

/-! ### The PCIe endpoint (R447 to R450) -/

/-- A reset of the endpoint (R449): 0 fundamental, 1 hot, 2 link down, 3 function level. -/
def State.pcieReset (s : State) (kind : Nat) : State :=
  let wasUp := s.on F.HOST_STAT_LINK_UP
  let s := { s with host := { s.host with bme := false, msix := false, fmask := false, perst := s.host.perst && kind != 0 }
                    qry := { s.qry with held := s.qry.held.filter (fun h => h.master != 0) } }
  if !s.hostUp then s
  else
    let s := if s.isl.frozen.contains 8 then s else
      (List.range 128).foldl (fun s q => if s.on F.Q_BASE_HI_EN q && s.on F.Q_BASE_HI_LOC q then s.queueDisable q true [] else s) s
    let s := (List.range 4).foldl (fun s d => if s.on F.DMA_STAT_BUSY d && s.dmaPcie d && !s.dumping then s.dmaEnd d 4 else s) s
    let s := (s.eraseRegs 0x6800 0x6C04).set F.HOST_STAT_D3HOT 0
    let s := if kind = 3 || !wasUp then s else
      ((s.set F.HOST_STAT_LINK_UP 0).set F.HOST_STAT_SPEED 0).set F.HOST_STAT_WIDTH 0 |>.irq 0x05 11
    (s.set F.HOST_STAT_PCIE_RESET 1).irq 0x05 10

/-- Training ends (R447): `speed` 1 to 3 for 2.5, 5.0 and 8.0 GT/s, `width` 1 or 2 lanes. -/
def State.pcieUp (s : State) (speed width : Nat) : State :=
  if !s.hostUp || !s.host.perst || !(s.on F.HOST_IF_PCIE) || s.isl.pllLost.contains 11 || s.on F.HOST_STAT_LINK_UP then s
  else (((s.set F.HOST_STAT_LINK_UP 1).set F.HOST_STAT_SPEED (clampN 1 3 speed)).set F.HOST_STAT_WIDTH (clampN 1 2 width)).irq 0x05 11

/-- PERST_N rises: the endpoint may leave reset (R463). -/
def State.perstRise (s : State) : State := { s with host := { s.host with perst := true } }

/-- A configuration write (R448, R450, R457): Bus Master Enable, MSI-X Enable, the function mask, and D3hot. -/
def State.pcieConfig (s : State) (bme msix fmask d3 : Bool) : State :=
  if !s.hostUp || !(s.on F.HOST_STAT_LINK_UP) then s
  else { s.setB F.HOST_STAT_D3HOT d3 with host := { s.host with bme := bme, msix := msix, fmask := fmask } }

/-- A bus-master read gets no completion in time (R450): the DMA channel's, or the descriptor fetch's of a queue. -/
def State.cplTimeout (s : State) (dma : Bool) (n : Nat) : State :=
  let s := s.elapse (s.get F.HOST_CPL_TO * 1000000)
  if dma then (if s.on F.DMA_STAT_BUSY (n % 4) && (s.dmaAddr (n % 4) false).1 then s.dmaRun (n % 4) [] else s)
  else if s.on F.Q_BASE_HI_LOC (n % 64) && !(s.islandAsleep 8) then s.fetchDesc (n % 64) [] else s

/-! ### Windows to the Vault (R408, R412, R448) -/

/-- A Vault read through a window: the aligned 4 bytes at offset `x`, whose word reads as `u` tells. The answer tells
whether the word was uncorrectable. While the Vault island is off the read gives 0, as any transfer to it (R30, R62). -/
def State.vaultRead (s : State) (x : Nat) (u : Upset) : Bool × List Nat × State :=
  if s.vaultAsleep then (false, [0, 0, 0, 0], s) else
  let w := s.vKey (x / 8 * 8) / 8
  let s := match u with
    | .multi _ => if 0x700000 ≤ x || s.vault.ue.contains w then s else { s with vault := { s.vault with ue := w :: s.vault.ue } }
    | .none | .single _ => s
  if 0x700000 ≤ x then (false, s.vWindow x 4, s)
  else if s.vault.ue.contains w then (true, s.vWindow x 4, (s.inc F.VLT_RD_UE).set F.VLT_ERR_ADDR (x / 8))
  else match u with
    | .single _ => (false, s.vWindow x 4, (s.inc F.VLT_RD_CE).set F.VLT_ERR_ADDR (x / 8))
    | .none | .multi _ => (false, s.vWindow x 4, s)

/-- BAR4_WINDOW_ACCESS of 4 bytes: a write is discarded and counted, a read answers with the stored bytes, poisoned where a
word is uncorrectable (status 1). -/
def State.bar4 (s : State) (write : Bool) (x : Nat) (u : Upset) : State :=
  if !(s.ifcOn .pcie) then s
  else if write then s.inc F.HOST_WIN_WR
  else
    let (bad, b, s) := s.vaultRead (x % 0x800000 / 4 * 4) u
    s.emit (.quarry 0 (x % 0x800000 / 4 * 4 + 0x04000000) bad.toNat (leVal b))

end Sys2Proof.Machine
end

