-- ==== Sys2Proof/Machine/Write.lean ====
section
/-! DEFINITION. The clamp rule (R44, R52 to R60, R62 to R65, R523): what a host write to a register does to its fields, and
what it reports. What the blocks then do with the fields written is in Machine/Effect.lean. -/

namespace Sys2Proof.Machine

/-! ### The legal set of a field -/

/-- A field of the register at `a` as this write leaves it: `done` lists the fields already checked (R53). -/
def State.sib (s : State) (a : Nat) (done : List (Nat × Nat)) (f : Fld) : Nat :=
  match done.find? (fun p => p.1 == f.lo) with
  | some p => p.2
  | none => s.get f (f.inst a)

/-- A value clamped against another field: cause DEPENDENT where it changes. -/
def dependent (v x : Nat) : Nat × Option Nat := (x, if x = v then none else some 8)

/-- An unordered code: the reset value, cause RESET, where it is illegal. -/
def coded (ok : Bool) (v reset : Nat) : Nat × Option Nat := if ok then (v, none) else (reset, if reset = v then none else some 1)

/-- A range of its own and a range set by another field (R53). -/
def bothRanges (v lo hi dlo dhi : Nat) : Nat × Option Nat :=
  let x : Nat := clampN (max lo dlo) (min hi dhi) v
  (x, if x = v then none else if x = clampN lo hi v then some 0 else some 8)

/-- The PMA test modes of clauses 96 and 97 of IEEE 802.3 (R524). PRESUMED: the numbers are the clauses', which the spec only names. -/
def pmaModes (gen : Nat) : List Nat := if gen = 2 then [1, 2, 4, 5] else if gen = 3 then [1, 2, 4, 5, 6, 7] else []

/-- Load channel of the LDS register at `a`. -/
def ldsChan (a : Nat) : Nat := 12 * (a / 0x1000 - 0x29) + (a % 0x1000 - 0x200) / 0x80

/-- The bytes `[a, e)` of the Quarry lie outside the guarded areas (R281). -/
def outsideGuards (a e : Nat) : Bool :=
  decide (e ≤ 0x04000000) && [(0x03A00000, 0x03B00000), (0x03FC0000, 0x04000000)].all (fun g => !(a < g.2 && g.1 < e))

/-- The largest TALY_Q_SIZE the current base allows, 0 where none is legal (R363). -/
def State.talyTop (s : State) : Nat :=
  let a := s.get F.TALY_Q_BASE * 64
  ((List.range 4097).filter (fun n => 64 ≤ n && outsideGuards a (a + 64 * n))).foldl max 0

/-- Bank codes of a write to QRY_BANK_RUN or QRY_BANK_NAP: code 3 takes reset, and the banks of a COURSED group take the
code of the lowest (R272, R273). -/
def State.bankCodes (s : State) (k reset v : Nat) : Nat × Option Nat :=
  let code (b : Nat) : Nat := if bits v (2 * b) 2 = 3 then reset else bits v (2 * b) 2
  let pick (b : Nat) : Nat := if s.coursed (4 * k + b / 4) then code (b / 4 * 4) else code b
  let own : Nat := ((List.range 16).map (fun b => code b * 4 ^ b)).sum
  let x : Nat := ((List.range 16).map (fun b => pick b * 4 ^ b)).sum
  (x, if x != own then some 8 else if own != v then some 1 else none)

/-- The same for a bit per bank (R273). -/
def State.bankBits (s : State) (k v : Nat) : Nat × Option Nat :=
  dependent v ((List.range 32).map (fun b => (bit v (if s.coursed (8 * k + b / 4) then b / 4 * 4 else b)).toNat * 2 ^ b)).sum

/-- QRY_GRP_MODE (R268). -/
def State.groupModes (s : State) (v : Nat) : Nat :=
  let cur := s.get F.QRY_GRP_MODE
  ((List.range 15).map (fun g =>
    (if (List.range 4).all (fun j => s.bank (4 * g + j) == 0) then bit v g else bit cur g).toNat * 2 ^ g)).sum

/-- RTC_SET.COMMIT is refused (R380); DISCARD and CAPTURE of the same write act first. -/
def State.commitBad (s : State) (force atCourse discard capture : Bool) : Bool :=
  let clamped := s.on F.RTC_STAT_STG_CLAMPED && !discard && !capture
  (clamped && !force) || (atCourse && s.get F.RTC_SET_COURSE ≤ s.course) || (s.on F.RTC_STAT_PENDING && !discard)

/-- The registers RTC_STG_DATE to RTC_STG_SEC_HI. -/
def staging (a : Nat) : Bool := 0x32118 ≤ a && a ≤ 0x32128

/-- What a legal set that depends on other fields or on the node's state makes of the value `v` that master `m` writes to
field `f` of the register at `a`: the value applied, and the cause where it was corrected. -/
def State.depLegal (s : State) (m a : Nat) (done : List (Nat × Nat)) (f : Fld) (v : Nat) : Dep → Nat × Option Nat
  | .spkTest => dependent v (if v = 0 || (pmaModes (s.get F.SPK_CFG_GEN (a / 0x1000 - 8))).contains v then v else 0)
  | .schdAddr => dependent v (min (nearestMul 8 v) ((if s.on F.SCHD_SRC then 0x40000 else 0x4000000) - 8))
  | .claimSlot => coded (s.isQuoin v || v == 0x3FF) v 0x3FF
  | .txSlot => dependent v (if (s.key v).isSome then v else s.get f)
  | .key3 => dependent v (if a != 0x15114 || [0x15108, 0x1510C, 0x15110].all (fun b => s.host.parts.any (fun p => p.1 == m && p.2.1 == b)) then v else 0)
  | .datumOnly => coded (v == 0 || s.isDatum) v 0
  | .aloneOnly => coded (v == 0 || s.soState == 0) v 0
  | .branchPorts => dependent v ((List.range 8).map (fun n => (bit v n && s.isBranch n).toNat * 2 ^ n)).sum
  | .imgBase => dependent v (min v (0x3FC - s.get F.TRW_IMG_SIZE))
  | .imgSize => bothRanges v 1 128 0 (0x3FC - s.get F.TRW_IMG_BASE)
  | .imgReady => dependent v ((s.course + 1) % 2 ^ 32)
  | .wheelApply => dependent v (if (s.shortOf s.shareOf).isNone then v else 0)
  | .ctxRes =>
    let others : Nat := (((List.range 12).filter (fun c => c != f.inst a)).map (fun c => s.get F.TRW_CTX_Q_RES c)).sum
    dependent v (min v (16384 - others))
  | .ctxMax => bothRanges v 0 16384 (s.sib a done F.TRW_CTX_Q_RES) 16384
  | .qKept => dependent v (if s.on F.Q_BASE_HI_EN (f.inst a) then s.get f (f.inst a) else v)
  | .qTarget =>
    let c := s.sib a done F.Q_BIND_CLASS
    coded (c == 0 || (c == 1 && v < 8) || (c == 2 && v < 4)) v 0xFFFF
  | .qTail =>
    let q := f.inst a
    let head := s.get F.Q_IDX_HEAD q
    dependent v (if (v + 65536 - head) % 65536 ≤ s.ringSize q then v else (head + s.ringSize q) % 65536)
  | .laneFuse => dependent v (if s.burnOk && !s.softLanes.isEmpty then v else 0)
  | .nbtSeg1 =>
    let k := s.sib a done F.LC_P_NBT_PRESC + 1
    bothRanges v 1 255 ((50 + k - 1) / k - s.sib a done F.LC_P_NBT_SEG2 - 3) 255
  | .nbtSjw => dependent v (min v (s.sib a done F.LC_P_NBT_SEG2))
  | .dbtSeg1 =>
    let k := s.sib a done F.LC_P_DBT_PRESC + 1
    bothRanges v 0 31 ((50 + 8 * k - 1) / (8 * k) - s.sib a done F.LC_P_DBT_SEG2 - 3) 31
  | .dbtSjw => dependent v (min v (s.sib a done F.LC_P_DBT_SEG2))
  | .canRecover => dependent v (if s.busOff (f.inst a) then v else 0)
  | .twinHostTx => dependent v (min v ((0x4000000 - 2 * s.get F.TWIN_HOST_LEN) / 8))
  | .twinHostRx => dependent v (min v ((0x4000000 - 2 * s.get F.TWIN_HOST_LEN) / 8))
  | .twinHostLen => let x : Nat := min (nearestMul 4 v) 36860
                    (x, if x = v then none else some 0)
  | .arbFailover => dependent v (if s.eligible false then v else 0)
  | .arbSwap => dependent v (if s.arbSwapOk then v else 0)
  | .tieEn => dependent v (if s.boot.twin then v else 0)
  | .grpMode => dependent v (s.groupModes v)
  | .bankRun => s.bankCodes (f.inst a) 2 v
  | .bankNap => s.bankCodes (f.inst a) 1 v
  | .bankSlumber => s.bankBits (f.inst a) v
  | .bankPin => s.bankBits (f.inst a) v
  | .semBreak => dependent v (v.land (s.get F.RGN_FENCED))
  | .semOp => let r := s.semLegal (f.inst a) m (s.sib a done F.QRY_SEMN_TAG) v
              (r.1, if r.2 then some 8 else none)
  | .fenceClr => dependent v (setBit v m false)
  | .rgnLimit => dependent v (max v (s.sib a done F.RGN_MI_BASE))
  | .rgnEn => dependent v (if f.inst a / 16 = 15 || s.mFenced (f.inst a / 16) then 0 else v)
  | .mrchMode => dependent v (if s.bankGuarded (s.sib a done F.MRCH_CMD_BANK) then 1 else v)
  | .mrchStart => dependent v (if s.on F.MRCH_STAT_BUSY || [0, 1, 3, 6, 7].contains (s.bank (s.sib a done F.MRCH_CMD_BANK)) then 0 else v)
  | .mrchAbort => dependent v (if s.on F.MRCH_STAT_BUSY then v else 0)
  | .rprBurn => dependent v (if s.burnOk then v else 0)
  | .rprKept => dependent v (if s.rprValid (f.inst a) || s.rprFused (f.inst a) then s.get f (f.inst a) else v)
  | .rprSlice =>
    if s.rprValid (f.inst a) || s.rprFused (f.inst a) then dependent v (s.get f (f.inst a))
    else (min v 71, if v ≤ 71 then none else some 0)
  | .rprValid => dependent v (if s.rprValid (f.inst a) then 1 else if s.rprBad (f.inst a) then 0 else v)
  | .lbRetest => dependent v (if s.domainOn (s.sib a done F.LBST_CMD_DOMAIN) then v else 0)
  | .lbRelease =>
    let d := s.sib a done F.LBST_CMD_DOMAIN
    dependent v (if 10 ≤ d && d ≤ 17 && s.get F.LBST_D_STAT_STATE d == 2 && s.on F.LBST_D_STAT_HELD d then v else 0)
  | .lbEn => dependent v (if 1 ≤ f.inst a && f.inst a ≤ 9 then s.get F.LBST_D_CFG_EN else v)
  | .ldsKind =>
    let n := ldsChan a
    dependent v (if wordOn (s.kind n) (s.lds F.LDS_CMD_NOW_CMD n) || s.lds F.LDS_STAT_STATUS n == 13 then s.kind n else v)
  | .ldsMode =>
    let top := match s.kind (ldsChan a) with | 0 => 0 | 1 => 3 | 2 => 2 | _ => 1
    dependent v (if v ≤ top then v else 0)
  | .proofT => bothRanges v 40 500 (s.lds F.LDS_PWM_BLANK_US (ldsChan a) + 40) 500
  | .proofAge => bothRanges v 0 60000 (s.lds F.LDS_PROOF_PER_MS (ldsChan a)) 60000
  | .iOpen => dependent v (min v (s.lds F.LDS_I_OVER (ldsChan a)))
  | .iOver => dependent v (clampN (s.lds F.LDS_I_OPEN (ldsChan a)) (s.lds F.LDS_I_SHORT (ldsChan a)) v)
  | .iShort => dependent v (max v (s.lds F.LDS_I_OVER (ldsChan a)))
  | .vMax => dependent v (max v (s.sib a done F.LDS_V_LIM_V_MIN))
  | .learn => dependent v (if s.cmdOn (ldsChan a) && s.kind (ldsChan a) != 0 then v else 0)
  | .clrLock => dependent v (if s.lds F.LDS_STAT_STATUS (ldsChan a) == 13 || s.view F.LDS_STAT_SAFE_HELD (ldsIx (ldsChan a)) == 1 then v else 0)
  | .mtrEn => dependent v (if s.on F.TALY_STAT_Q_FULL then max v (s.get f) else v)
  | .talyBase =>
    dependent v (if s.on F.MTR_CFG_EN || !(outsideGuards (v * 64) (v * 64 + 64 * s.get F.TALY_Q_SIZE)) then s.get f else v)
  | .talySize =>
    if s.on F.MTR_CFG_EN || s.talyTop = 0 then dependent v (s.get f) else bothRanges v 64 4096 0 s.talyTop
  | .talyAck => dependent v (clampN (s.get f) (s.get F.TALY_WR_IDX) v)
  | .rtcDay =>
    let top := monthLen (2000 + s.sib a done F.RTC_STG_DATE_YEAR_OFS) (s.sib a done F.RTC_STG_DATE_MONTH)
    if v = 0 then (1, some 0) else dependent v (min v top)
  | .rtcCapture => dependent v (if s.on F.RTC_STAT_PENDING && s.sib a done F.RTC_SET_DISCARD == 0 then 0 else v)
  | .rtcCommit =>
    let b (f : Fld) : Bool := s.sib a done f == 1
    dependent v (if s.commitBad (b F.RTC_SET_FORCE) (b F.RTC_SET_AT_COURSE) (b F.RTC_SET_DISCARD) (b F.RTC_SET_CAPTURE) then 0 else v)
  | .rtcSetCourse => dependent v (if s.on F.RTC_STAT_PENDING then s.get f else v)
  | .alarmArmed => dependent v (if s.timeValid then v else 0)
  | .vltStart => dependent v (if s.vaultTarget && !(s.on F.VLT_STAT_HOST_BUSY) then v else 0)
  | .vltAbort => dependent v (if s.on F.VLT_STAT_HOST_BUSY then v else 0)
  | .vltLen =>
    let top := 4096 - s.get F.VLT_ADDR * 8 % 4096
    let own : Nat := clampN 8 4096 (nearestMul 8 v)
    let x : Nat := min own top
    (x, if x = v then none else if x = own then some 0 else some 8)
  | .pwrGo => dependent v (if s.sib a done F.PWR_CMD_TARGET == 0 || s.soState == 0 then v else 0)
  | .hostIf =>
    let strap := (f.reset.eval s.boot 0) == 1
    dependent v (if !strap then 0 else if m == f.lo && s.on f then 1 else v)
  | .bmLim => (v, none)
  | .dmaHi => dependent v (if s.sib a done { f with lo := 16, width := 1 } == 0 then 0 else v)
  | .dmaStart => dependent v (if s.on F.DMA_STAT_BUSY (f.inst a) then 0 else v)
  | .dmaAbort => dependent v (if s.on F.DMA_STAT_BUSY (f.inst a) then v else 0)
  | .irqVec =>
    let p := 4 * f.inst a + f.lo / 8
    if pageReserved p || p == 6 then dependent v 0 else if v = 0 then (irqVector p, some 1) else (v, none)
  | .dumpGo => if v != 0x5A17 then (0, some 1) else dependent v (if s.get F.DUMP_STAT_STATE == 0 then v else 0)
  | .dumpClear => dependent v (if s.get F.DUMP_STAT_STATE == 0 || s.get F.DUMP_STAT_STATE == 5 then v else 0)
  | .dumpIdle => dependent v (if s.get F.DUMP_STAT_STATE == 0 then v else 0)
  | .pgEn => dependent v (if pageCapEn (a / 0x1000) then v else 1)
  | .pgSrst => dependent v (if pageCapEn (a / 0x1000) then v else 0)
  | .irqEn => (v, none)
  | .pgLock => dependent v (max v (s.get f (f.inst a)))

/-- A standby or OUT twin does not execute these commands (R473). -/
def standbyBars (f : Fld) : Bool :=
  [F.SETO_CMD, F.SCHD_CLAIM_CMD_CLAIM, F.SCHD_CLAIM_CMD_RELEASE, F.HUB_CMD_REINSTATE, F.HUB_CMD_CUT].contains f

/-- The value that a write of `v` to a field applies, and the cause where it was corrected (R52, R53). -/
def State.legal (s : State) (m a : Nat) (done : List (Nat × Nat)) (d : FieldDef) (v : Nat) : Nat × Option Nat :=
  let f := d.fld
  let reset := f.reset.eval s.boot (f.inst a)
  if s.twinUnused f then dependent v 0
  else if staging a && s.on F.RTC_STAT_PENDING then dependent v (s.get f)
  else if standbyBars f && (s.standby || s.isOut) then dependent v 0
  else match d.legal with
  | .any => (v, none)
  | .range lo hi => let x : Nat := clampN lo hi v
                    (x, if x = v then none else some 0)
  | .srange lo hi => let x : Nat := unsigned f.width (clampI lo hi (signed f.width v))
                     (x, if x = v then none else some 0)
  | .even hi => let x : Nat := min (nearestMul 2 v) hi
                (x, if x = v then none else some 0)
  | .enum hi => coded (decide (v ≤ hi)) v reset
  | .enumFrom1 hi => coded (1 ≤ v && decide (v ≤ hi)) v reset
  | .key k => if v = k then (v, none) else (reset, some 1)
  | .sampled => coded (v == reset) v reset
  | .wheelCode => coded (v ≤ 12 || v == 15) v reset
  | .spkGen => if v = 1 && 2 ≤ f.inst a then (2, some 8) else coded (decide (v ≤ 4)) v reset
  | .dep k => s.depLegal m a done f v k

/-- The legal set depends on another field of the same write. -/
def Legal.late : Legal → Bool
  | .dep _ => true
  | _ => false

/-! ### One register of a write -/

/-- Writes to the fields of a register leave the field elsewhere than in the register file: the tag and the lease of a
semaphore, which R284's operations set. -/
def elsewhere (f : Fld) : Bool := f == F.QRY_SEMN_TAG || f == F.QRY_SEMN_LEASE

/-- What field `d` of the register at `a` adds to the current value of R44: W1C and WO fields are taken as 0. -/
def State.mergeField (s : State) (a : Nat) (d : FieldDef) : Nat :=
  match d.acc with
  | .wo | .w1cBits | .w1cCnt => 0
  | .rw | .ro | .rwl => s.view d.fld (d.fld.inst a) * 2 ^ d.fld.lo

/-- The merge of R44: bytes not enabled keep the register's current value. -/
def State.merged (s : State) (a v be : Nat) (r : Row) : Nat := mergeBytes ((r.fields.map (s.mergeField a)).sum) v be

/-- A write that enables a region of a fenced master: the register keeps its fields (R280). -/
def State.regionKept (s : State) (a v : Nat) : Bool :=
  decide (0x21400 ≤ a ∧ a < 0x21800) && bit v 30 && a < 0x217C0 && s.mFenced ((a - 0x21400) / 64)

/-- The fields of the register at `a` checked against the value written: the fields as applied (by lowest bit), and the
events as pairs of field index and cause. -/
def State.checkFields (s : State) (m a v : Nat) (r : Row) : List (Nat × Nat) × List (Nat × Nat) :=
  let lock := s.on F.PG_LOCK (a / 0x1000)
  let kept := s.regionKept a v
  let ds := r.fields.zip (List.range r.fields.length)
  let order := ds.filter (fun x => !x.1.legal.late) ++ ds.filter (fun x => x.1.legal.late)
  let res := order.foldl (fun (p : List (Nat × Nat) × List (Nat × Nat)) x =>
    let d := x.1
    let w := bits v d.fld.lo d.fld.width
    let cur := s.get d.fld (d.fld.inst a)
    let (val, cause) : Nat × Option Nat := match d.acc with
      | .ro => (cur, none)
      | .w1cBits | .w1cCnt => if s.twinUnused d.fld then dependent w 0 else (w, none)
      | .rwl => if lock then (cur, if w = cur then none else some 3)
                else if kept then dependent w cur else s.legal m a p.1 d w
      | .rw | .wo => s.legal m a p.1 d w
    (p.1 ++ [(d.fld.lo, val)], match cause with | some c => p.2 ++ [(x.2, c)] | none => p.2)) ([], [])
  let evs := (List.range r.fields.length).flatMap (fun i => res.2.filter (fun e => e.1 == i))
  (res.1, evs)

/-- Bits of the value written that no field covers, and bits of PG_IRQ_EN that the page does not define (R48, R52). -/
def irqBits (p : Nat) : Nat :=
  if pageReserved p || p ≤ 1 || p == 6 then 0xF
  else
    let top : Nat := match p with
      | 0x02 => 9 | 0x03 => 9 | 0x04 => 12 | 0x05 => 12 | 0x10 => 12 | 0x11 => 14 | 0x12 => 10 | 0x13 => 12 | 0x14 => 10
      | 0x15 => 10 | 0x18 => 13 | 0x19 => 12 | 0x1A => 10 | 0x1C => 14 | 0x1D => 11 | 0x1E => 10 | 0x20 => 12 | 0x21 => 9
      | 0x22 => 9 | 0x23 => 10 | 0x24 => 12 | 0x28 => 8 | 0x29 => 12 | 0x2A => 12 | 0x2B => 12 | 0x2C => 12 | 0x2D => 9
      | 0x30 => 10 | 0x31 => 12 | 0x32 => 12 | 0x33 => 10 | 0x34 => 13 | 0x35 => 11 | 0x36 => 10 | 0x37 => 9 | 0x38 => 11
      | 0x39 => 11 | _ => 11
    2 ^ (top + 1) - 0x100 + 0xF

/-- The reserved bits that a write sets; of PG_IRQ_RAW and PG_IRQ_EN those of the events that the page does not define
(R48). -/
def reservedSet (a v : Nat) (r : Row) : Bool :=
  let covered := (r.fields.map (fun d => (2 ^ d.fld.width - 1) * 2 ^ d.fld.lo)).sum
  let legal := if a % 0x1000 = 0x14 ∨ a % 0x1000 = 0x10 then irqBits (a / 0x1000) else covered
  v.land legal != v % 2 ^ 32

/-- The fields written: RW fields take their value, W1C bits and counters are cleared, and PG_CLAMP.COUNT with
VALID (R58). -/
def State.putFields (s : State) (a : Nat) (r : Row) (vals : List (Nat × Nat)) : State :=
  r.fields.foldl (fun s d =>
    let i := d.fld.inst a
    let x := look 0 d.fld.lo vals
    match d.acc with
    | .ro | .wo => s
    | .w1cBits =>
      if x = 0 then s
      else
        let s := s.set d.fld (s.get d.fld i - (s.get d.fld i).land x) i
        if d.fld == F.PG_CLAMP_VALID then s.set F.PG_CLAMP_COUNT 0 i else s
    | .w1cCnt => if x = 0 then s else s.set d.fld 0 i
    | .rw | .rwl => if elsewhere d.fld || s.twinUnused d.fld then s
      else s.set d.fld (if a % 0x1000 = 0x14 then x.land (irqBits (a / 0x1000)) else x) i) s

/-- The register after a write, WO fields as applied. -/
def State.afterWrite (s : State) (a : Nat) (r : Row) (vals : List (Nat × Nat)) : Nat :=
  s.regLive a + (r.fields.map (fun d => if d.acc = .wo then look 0 d.fld.lo vals * 2 ^ d.fld.lo else 0)).sum

/-- A register of the write: address, row, value written, fields as applied, events, reserved bits written. -/
structure Part where
  addr    : Nat
  row     : Row
  written : Nat
  vals    : List (Nat × Nat)
  events  : List (Nat × Nat)
  res     : Bool
  deriving DecidableEq, Repr

/-- One register checked and written. -/
def State.writePart (s : State) (m a v : Nat) (r : Row) : Part × State :=
  let c := s.checkFields m a v r
  let s := s.putFields a r c.1
  -- a semaphore's operation belongs to the write itself, so that the report shows its outcome
  let s := if r.fields.any (fun d => d.fld == F.QRY_SEMN_OP) then
      s.semOp (F.QRY_SEMN_OP.inst a) m (look 0 F.QRY_SEMN_TAG.lo c.1) (look 0 F.QRY_SEMN_LEASE.lo c.1) (look 0 F.QRY_SEMN_OP.lo c.1)
    else s
  (⟨a, r, v, c.1, c.2, reservedSet a v r⟩, s)

/-- The events of a register's fields. -/
def State.reportFields (s : State) (m : Nat) (p : Part) : State :=
  p.events.foldl (fun s e =>
    s.clampReport ⟨p.addr / 0x1000, e.1, e.2, p.addr % 0x1000, p.written, s.afterWrite p.addr p.row p.vals, m⟩) s

/-- Its reserved-bits event. -/
def State.reportReserved (s : State) (m : Nat) (p : Part) : State :=
  if p.res then s.clampReport ⟨p.addr / 0x1000, 0xFF, 2, p.addr % 0x1000, p.written, s.afterWrite p.addr p.row p.vals, m⟩ else s

/-! ### Values that span several registers (R60, R529) -/

/-- The registers of the writable value that the register at `a` is part of, least significant first; the write to the last
one applies them all. -/
def writeGroup (a : Nat) : List Nat :=
  let o := a % 0x1000
  match a / 0x1000 with
  | 0x05 => if 0x10C ≤ o && o ≤ 0x118 then regGroup a else if 0x200 ≤ o && o < 0x280 then regGroup a else []
  | 0x10 => if o = 0x114 || o = 0x118 || o = 0x30C || o = 0x310 then regGroup a else []
  | 0x15 => if 0x108 ≤ o && o ≤ 0x114 then [0x15108, 0x1510C, 0x15110, 0x15114] else []
  | 0x19 => regGroup a
  | 0x32 => if o = 0x124 || o = 0x128 || o = 0x134 || o = 0x138 then regGroup a else []
  | 0x38 => regGroup a
  | _ => []

/-- The part of the register at `a` that an interface holds. -/
def State.heldPart (s : State) (m a : Nat) : Option Nat := (s.host.parts.find? (fun p => p.1 == m && p.2.1 == a)).map (·.2.2)

/-- A lower part is held for the interface that wrote it; bytes not enabled keep what it holds, or the register's value. -/
def State.holdPart (s : State) (m a v be : Nat) (r : Row) : State :=
  let w := match s.heldPart m a with
    | some old => mergeBytes old v be
    | none => s.merged a v be r
  { s with host := { s.host with parts := (m, a, w) :: s.host.parts.filter (fun p => !(p.1 == m && p.2.1 == a)) } }

/-- The parts an interface holds of some registers are dropped. -/
def State.dropParts (s : State) (m : Nat) (g : List Nat) : State :=
  { s with host := { s.host with parts := s.host.parts.filter (fun p => !(p.1 == m && g.contains p.2.1)) } }

/-! ### Re-checks (R523) -/

/-- The dependent field `f` of another register, at instance address `a`, judged again. -/
def State.recheck (s : State) (m a : Nat) (f : Fld) : State :=
  match rowAt (a / 0x1000) (a % 0x1000) with
  | none => s
  | some r =>
    match (r.fields.zip (List.range r.fields.length)).find? (fun x => x.1.fld == f) with
    | none => s
    | some x =>
      let before := s.regLive a
      let i := f.inst a
      match s.legal m a [] x.1 (s.get f i) with
      | (_, none) => s
      | (v, some _) =>
        let s := s.set f v i
        s.clampReport ⟨a / 0x1000, x.2, 8, a % 0x1000, before, s.regLive a, m⟩

/-- The window's limit raised to the base, both parts (R450); `event` reports it on HOST_BM_LIM_HI.ADDR. -/
def State.bmJudge (s : State) (m : Nat) (written : Option Nat) : State :=
  let base := s.get F.HOST_BM_BASE_LO + 2 ^ 20 * s.get F.HOST_BM_BASE_HI
  let lim := s.get F.HOST_BM_LIM_LO + 2 ^ 20 * s.get F.HOST_BM_LIM_HI_ADDR
  if base ≤ lim then s
  else
    let w := written.getD (s.regLive 0x5118)
    let s := (s.set F.HOST_BM_LIM_LO (base % 2 ^ 20)).set F.HOST_BM_LIM_HI_ADDR (base / 2 ^ 20)
    s.clampReport ⟨0x05, 0, 8, 0x118, w, s.regLive 0x5118, m⟩

/-- The fields of other registers that depend on the register at `a`, judged again. -/
def State.recheckAll (s : State) (m a : Nat) : State :=
  let o := a % 0x1000
  let p := a / 0x1000
  let blk := a - o + (0x200 + (o - 0x200) / 0x80 * 0x80)
  if 8 ≤ p && p ≤ 15 then (if o = 0x100 then s.recheck m (a + 4) F.SPK_TEST else s)
  else if 0x29 ≤ p && p ≤ 0x2C then
    (if 0x200 ≤ o then
      (match (o - 0x200) % 0x80 with
       | 0x00 => s.recheck m (blk + 0x08) F.LDS_CMD_MODE
       | 0x0C => s.recheck m (blk + 0x14) F.LDS_PROOF_T_US
       | 0x14 => s.recheck m (blk + 0x18) F.LDS_TIME_PROOF_AGE
       | _ => s)
     else s)
  else if p = 0x19 then (if 0x800 ≤ o && o % 16 = 4 then s.recheck m (a + 8) F.Q_IDX_TAIL else s)
  else match a with
  | 0x5110 => s.bmJudge m none
  | 0x12100 => s.recheck m 0x12104 F.SCHD_ADDR
  | 0x1C10C => (s.recheck m 0x1C108 F.TWIN_HOST_TX).recheck m 0x1C110 F.TWIN_HOST_RX
  | 0x20100 =>
    let s := (List.range 4).foldl (fun s k => s.recheck m (0x20110 + 4 * k) F.QRY_BANK_RUN) s
    let s := (List.range 4).foldl (fun s k => s.recheck m (0x20120 + 4 * k) F.QRY_BANK_NAP) s
    let s := (List.range 2).foldl (fun s k => s.recheck m (0x20130 + 4 * k) F.QRY_BANK_SLUMBER) s
    (List.range 2).foldl (fun s k => s.recheck m (0x20138 + 4 * k) F.QRY_BANK_PIN) s
  | 0x24200 => (List.range 9).foldl (fun s k => s.recheck m (0x24210 + 16 * k) F.LBST_D_CFG_EN) s
  | 0x35108 => s.recheck m 0x35110 F.VLT_LEN
  | _ => s

end Sys2Proof.Machine
end

