-- ==== Sys2Proof/Machine/Effect.lean ====
section
/-! DEFINITION. What the blocks do with the registers a write has reached: commands, enables and configuration; the soft
reset of a page (R49); and the host write as a whole, from the page that serves it to the effects it has. -/

namespace Sys2Proof.Machine

/-! ### Soft reset (R49) -/

/-- RO fields of pages whose block a node reset finds again as it stood, that report no such state: counters (R59) and results of
the last operation. A soft reset returns them to their reset values. -/
def lastOnly : List Nat :=
  [F.RPR_STAT_INTERRUPTED.key 0, F.RPR_STAT_BURNED.key 0, F.MTR_EDGES.key 0, F.TALY_SAVES.key 0, F.TALY_SAVE_US.key 0, F.MARK_WRAPS.key 0,
   F.VLT_RESULT.key 0, F.VLT_RETIRED.key 0, F.VLT_ERR_ADDR.key 0]

/-- A field that a soft reset of its page leaves: RWL fields of a locked page (R49); bank states; repair entries, which
stay VALID until node reset (R295); and, on the pages whose state outlives even a node reset, what reports that state. -/
def State.srstKeeps (s : State) (p k : Nat) : Bool :=
  let off := k / 32 % 0x1000
  let a := keyAcc k
  (s.on F.PG_LOCK p && a == some .rwl)
    || (p == 0x20 && 0x140 ≤ off && off < 0x160) || k == F.RGN_FENCED.key 0
    || (p == 0x23 && 0x200 ≤ off)
    || ([0x23, 0x30, 0x31, 0x34, 0x35].contains p && a == some .ro && !(lastOnly.contains k))
    || k == F.TALY_ACK.key 0

/-- The registers of page `p` from offset 0x100 return to reset, but for what a soft reset keeps. -/
def State.srstRegs (s : State) (p : Nat) : State :=
  { s with regs := s.regs.filter (fun r => !(r.1 / 32 / 0x1000 == p && 0x100 ≤ r.1 / 32 % 0x1000) || s.srstKeeps p r.1) }

/-- What the block lets go of before its registers return to reset. -/
def State.srstBefore (s : State) (p : Nat) : State :=
  if 0x08 ≤ p && p ≤ 0x0F then s.portRestart (p - 8)
  else match p with
  | 0x13 => (List.range 8).foldl (fun s n => s.cutAir n) s
  | 0x19 => (List.range 128).foldl (fun s q => if s.on F.Q_BASE_HI_EN q then s.queueDisable q true [] else s) s
  | 0x22 =>
    match s.qry.march with
    | some r => (({ s with qry := { s.qry with march := none } }).setBank r.bank (if r.destructive then 3 else 2)).deliverHeld
    | none => s
  | 0x24 => (List.range 8).foldl (fun s n => if s.on F.LBST_D_STAT_HELD (10 + n) then s.releaseHold (10 + n) else s) s
  | 0x35 => s.vaultAbort
  | 0x38 => (List.range 8).foldl (fun s n => s.flushLocal true n) s
  | 0x39 => (List.range 4).foldl (fun s n => s.flushLocal false n) s
  | _ => s

/-- What the block holds beside its registers returns to its state after a node reset. -/
def State.srstAfter (s : State) (p : Nat) : State :=
  if 0x08 ≤ p && p ≤ 0x0F then s.wheelCheck
  else if 0x29 ≤ p && p ≤ 0x2C then
    (List.range 12).foldl (fun s i => (s.setChan (12 * (p - 0x29) + i) LChan.zero).chanEnable (12 * (p - 0x29) + i)) s
  else match p with
  | 0x10 => { s.sourceRegs with pace := Pacing.zero }
  | 0x11 =>
    let o := s.so
    let s := { s with so := { SetOut.zero with
      cab := o.cab, cpl := o.cpl, claimKept := o.claimKept, claimNow := o.claimNow, claimRel := o.claimRel, claimSent := o.claimSent
      claims := o.claims, claimsP := o.claimsP, claimsPP := o.claimsPP, quoins := o.quoins, grants := o.grants, releases := o.releases } }
    let s := if s.boot.role != 0 then s.set F.SETO_STAT_IS_DATUM 0 else s
    let s := (List.range 8).foldl (fun s n => s.set F.HUB_BR_STAT_ROLE (s.branchRole n) n) s
    (s.setTable [s.ownEntry]).sourceRegs
  | 0x13 =>
    let s := { s with lines := s.lines.map (fun (l : Line) => { l with
      ofs := 0, lead := 0, map := none, shadow := none, crcBad := false, arming := false, primed := false, ownCar := false }) }
    if s.twin.killPin then s.kill else s
  | 0x14 =>
    let s := { s with lines := s.lines.map (fun (l : Line) => { l with behind := [], violRun := 0, violNow := false }) }
    ((List.range 8).foldl (fun s n => s.set F.HUB_BR_STAT_ROLE (s.branchRole n) n) s).branchRegs
  | 0x18 =>
    { s with trw := { s.trw with ctxs := [], rx := [], given := [], broken := [], tx := [], streams := [], ctl := 0
                                 imgFor := none, late := false, lateSent := false, bufTx := [], closing := []
                                 relays := [], crossing := [], tieHeld := [] } }.wheelCheck
  | 0x1A => { s with trw := { s.trw with rotate := false, withdraw := [] } }.laneStart
  | 0x1C =>
    let t := s.twin
    let s := { s with twin := { Twin.zero with killPin := t.killPin, roleLevel := t.roleLevel, fencedIn := t.fencedIn, fencedAt := t.fencedAt, fencedWas := t.fencedWas } }
    if s.boot.twin then s.roleRegs s.baseRole else s
  | 0x1D => { s with twin := { s.twin with ackOk := false, partnerAt := none, recAt := none } }
  | 0x1E => { s with twin := { s.twin with would := [], heard := [], heardBad := false, silent := false, lastHeard := 0, snapshot := s.twin.snapshot } }
  | 0x20 => ({ s with qry := { s.qry with leases := [] } }.powerRun).followMarkBanks
  | 0x24 => { s with test := { s.test with running := [], due := [], next := 0, laneEnd := 0 } }.startRuns
  | 0x2D => { s with loads := s.loads.map (fun (c : LChan) => { c with azN := 0, azI := 0, azV := 0 }) }
  | 0x30 =>
    let s := s.periodWritten.mtrEnWritten
    if s.on F.MTR_CFG_EN then s.meteringStart else s
  | 0x31 => s.talyStat
  | 0x34 => s.setB F.MARK_STAT_CFG_PENDING (s.get F.MARK_CFG_FIRST_SIZE != s.marks.fInForce)
  | 0x38 => { s with loc := { s.loc with pause := [], ptpSeq := [], ptpAt := [], ptpTx := [], ethRx := [] } }.wheelCheck
  | 0x39 => { s with loc := { s.loc with bundles := [], recover := [], busOff := [], canRx := [] } }.wheelCheck.canModes
  | _ => s

/-- The soft reset of page `p` takes effect: PG_IRQ_RAW is cleared and event SRST_DONE raised. -/
def State.softReset (s : State) (p : Nat) : State :=
  let s := { s with host := { s.host with reset := s.host.reset.filter (fun r => r.1 != p) } }
  let s := s.srstBefore p
  let s := match p with
    | 0x12 => s.schdReset
    | 0x15 => s.admReset (s.on F.PG_LOCK p)
    | _ => s.srstRegs p
  ((s.srstAfter p).set F.PG_IRQ_RAW 0 p).irq p 1

/-! ### The effects of a write, page by page

`b` is the node before the write, `w f` the value applied to field `f` of the register at `a`. -/

/-- A field of the register at `a` goes from 0 to 1, or from 1 to 0. -/
def State.edge (s b : State) (f : Fld) (a : Nat) : Bool × Bool :=
  let i := f.inst a
  (s.on f i && !(b.on f i), b.on f i && !(s.on f i))

/-- The pages of the always-on and host islands. -/
def State.effectHost (s b : State) (m a : Nat) (w : Fld → Nat) (facts : WFacts) : State :=
  let o := a % 0x1000
  match a / 0x1000 with
  | 0x00 =>
    if o = 0x118 && w F.TOP_SWRST = 0xA55A then
      (if s.dumping && s.get F.DUMP_STAT_STATE ≤ 3 then { s with dump := { s.dump with swrst := true } } else s.nodeReset facts.start 2)
    else s
  | 0x01 => if o = 0x110 && w F.CLMP_CLEAR = 1 then (s.eraseRegs 0x1800 0x2000).set F.CLMP_MISSED 0 else s
  | 0x03 => if o = 0x100 && w F.PWR_CMD_GO = 1 then s.pwrCmd (s.get F.PWR_CMD_TARGET) else s
  | 0x05 =>
    if o = 0x100 then
      let s := if (s.edge b F.HOST_IF_PCIE a).2 then s.pcieReset 2 else s
      if (s.edge b F.HOST_IF_LB a).2 then { s with host := { s.host with lbLow := none, lbHigh := [] } } else s
    else if o = 0x128 then (if (s.edge b F.HOST_WDOG_CFG_EN a).1 then { s with host := { s.host with wdogAt := s.clk.now } } else s)
    else if o = 0x12C then (if w F.HOST_WDOG_KICK = 0x6B1C then s.wdogKick else s)
    else if 0x200 ≤ o && o < 0x280 && o % 0x20 = 0x14 then
      let d := (o - 0x200) / 0x20
      if w F.DMA_CTRL_START = 1 then s.dmaStart d
      else if w F.DMA_CTRL_ABORT = 1 then s.dmaAbort d facts.host facts.units else s
    else s
  | 0x06 => if o = 0x118 then s.irqEoi (w F.IRQ_EOI) else s
  | 0x32 =>
    if o = 0x12C then
      let s := if w F.RTC_SET_DISCARD = 1 then s.rtcDiscard else s
      let s := if w F.RTC_SET_CAPTURE = 1 then s.rtcCapture else s
      if w F.RTC_SET_COMMIT = 1 then s.commit (w F.RTC_SET_FORCE == 1) (w F.RTC_SET_FORM == 1) (w F.RTC_SET_AT_COURSE == 1) else s
    else if o = 0x138 then s.alarmCheck else s
  | 0x36 =>
    if o = 0x100 then (if w F.DUMP_GO = 0x5A17 then s.dumpTrigger false else s)
    else if o = 0x118 then
      let s := if w F.DUMP_CMD_CLEAR = 1 then s.dumpClear else s
      s.dumpVaultClear (w F.DUMP_CMD_VLT_CLEAR)
    else s
  | 0x34 =>
    if o = 0x118 then (if w F.MARK_CLEAR_KEY = 0xC1EA then s.markClear (w F.MARK_CLEAR_PART) m else s)
    else if o = 0x130 then
      s.mark (w F.MARK_HOST_CMD_TYPE) (((List.range 6).flatMap (fun k => le 4 (s.get F.MARK_HOST_D k))).take (w F.MARK_HOST_CMD_LEN))
    else if o = 0x100 then
      let s := if s.on F.MARK_CFG_MIRROR_EN then s else s.loseMirror
      s.setB F.MARK_STAT_CFG_PENDING (s.get F.MARK_CFG_FIRST_SIZE != s.marks.fInForce)
    else s
  | 0x35 =>
    if o = 0x104 then
      let s := if w F.VLT_CMD_START = 1 then s.vaultStart (w F.VLT_CMD_OP) else s
      if w F.VLT_CMD_ABORT = 1 then s.vaultAbort else s
    else if o = 0x114 && w F.VLT_BOOT_KEY = 0xB007 then { s with vault := { s.vault with bootKey := some s.clk.now } }
    else s
  | _ => s

/-- A key switch in which the datum asks for a roll (R139). -/
def State.keyRoll (s : State) : State := s.set F.ADM_KEYSTAT_ROLL_PENDING 1

/-- Fencing changes to `mask`, by master `m`: the islands that become fenced say so on their pages, and what was staged for
them is dropped (R65, R280). -/
def State.fenceChange (s : State) (mask m : Nat) : State :=
  if mask = s.get F.RGN_FENCED then s
  else
    let b := s
    let s := s.fenceTo mask m
    ((List.range 32).foldl (fun s i => if s.islandFenced i && !(b.islandFenced i) then s.fencePages i else s) s).dropStaged

/-- The pages of the port islands, the Trowel and the twin blocks; `host` is what host memory answers a queue's reads. -/
def State.effectLine (s b : State) (a : Nat) (w : Fld → Nat) (host : List Nat) : State :=
  let o := a % 0x1000
  let p := a / 0x1000
  if 0x08 ≤ p && p ≤ 0x0F then
    let n := p - 8
    let moved (f : Fld) : Bool := s.get f n != b.get f n
    if moved F.SPK_CFG_GEN || moved F.SPK_CFG_ROLE_MODE || moved F.SPK_CFG_ROLE || moved F.SPK_TEST then s.joinPin.portRestart n else s
  else match p with
  | 0x10 =>
    if o = 0x104 then
      let s := if w F.LINE_CMD_SET = 1 then s.lineSet.loadStep ((s.lineSet.clk.lt : Int) - s.clk.lt) else s
      if w F.LINE_CMD_SNAP = 1 then s.lineSnap else s
    else s
  | 0x11 => if o = 0x104 then (if w F.SETO_CMD = 1 then s.setoutStart else s) else if o = 0x100 then s.joinPin else s
  | 0x12 =>
    if o = 0x10C then
      let s := if w F.SCHD_CMD_LOAD = 1 then s.scheduleLoad else s
      if w F.SCHD_CMD_DISCARD = 1 then s.setPending none else s
    else if o = 0x128 then
      let s := if w F.SCHD_CLAIM_CMD_CLAIM = 1 then s.claimStart else s
      if w F.SCHD_CLAIM_CMD_RELEASE = 1 then s.claimRelease else s
    else s
  | 0x14 =>
    if o = 0x104 then s.hubCommand (w F.HUB_CMD_REINSTATE) (w F.HUB_CMD_CUT)
    else if 0x200 ≤ o && o % 0x40 = 4 then s.latchFollow ((o - 0x200) / 0x40) else s
  | 0x15 =>
    if o = 0x11C then
      let s := if w F.ADM_CMD_ROLL = 1 then s.keyRoll else s
      let s := if w F.ADM_CMD_CLEAR_KEY = 1 then s.clearKey else s
      if w F.ADM_CMD_STR_CLEAR = 1 then s.clearStrangers else s
    else if o = 0x104 && s.get F.ADM_KEYSEL != b.get F.ADM_KEYSEL then
      { s with host := { s.host with parts := s.host.parts.filter (fun x => !(writeGroup x.2.1).contains 0x15114) } }
    else s
  | 0x18 =>
    if o = 0x134 then s.imageReady (w F.TRW_IMG_READY)
    else if o = 0x148 then (if w F.TRW_WHEEL_CMD = 1 then s.set F.TRW_WHEEL_STAT_PENDING 1 else s) else s
  | 0x19 =>
    if 0x800 ≤ o && o % 16 = 4 && (s.edge b F.Q_BASE_HI_EN a).2 then s.queueDisable ((o - 0x800) / 16) false host else s
  | 0x1A => if o = 0x114 && w F.LANE_CMD = 1 then s.burnLanes else s
  | 0x1C =>
    if o = 0x204 then
      let s := if w F.TWIN_ARB_CMD_FAILOVER = 1 then s.driveFailover.arbDecided 10 else s
      let s := if w F.TWIN_ARB_CMD_SWAP = 1 then s.driveSwap else s
      (s.arbRestore (w F.TWIN_ARB_CMD_RESTORE)).arbOut (w F.TWIN_ARB_CMD_OUT)
    else s
  | 0x1D => if o = 0x100 then s.tieLanes (s.get F.TIE_STAT_LOCK) (s.on F.TIE_STAT_ALIGNED) (s.get F.TIE_STAT_SKEW) else s
  | _ => s

/-- The pages of the Quarry, the load, metering and local-port blocks. -/
def State.effectRest (s b : State) (m a : Nat) (w : Fld → Nat) : State :=
  let o := a % 0x1000
  let p := a / 0x1000
  if 0x29 ≤ p && p ≤ 0x2C then
    if o < 0x200 then s
    else
      let n := ldsChan a
      match (o - 0x200) % 0x80 with
      | 0x00 => if s.kind n != b.kind n then s.kindChanged n
                else if s.ldsOn F.LDS_CFG_SHORT_OFF n && !(b.ldsOn F.LDS_CFG_SHORT_OFF n) then s.shortHold n else s
      | 0x58 =>
        let s := if w F.LDS_CTRL_LEARN = 1 then s.loadLearn n else s
        if w F.LDS_CTRL_CLR_LOCK = 1 then s.clearLock n else s
      | _ => s
  else match p with
  | 0x20 =>
    if 0x110 ≤ o && o < 0x120 then
      let k := (o - 0x110) / 4
      let s := if s.power ≤ 1 then
          (List.range 16).foldl (fun s j => s.powerBank (16 * k + j) (s.bankSet F.QRY_BANK_RUN (16 * k + j))) s
        else s
      s.marchGone.followMarkBanks
    else if o = 0x100 then (if s.power ≤ 1 then s.powerRun.marchGone.followMarkBanks else s)
    else if o = 0x170 then s.semBreak (w F.QRY_SEM_BREAK) else s
  | 0x21 =>
    if o = 0x100 then s.fenceChange ((s.get F.RGN_FENCED).lor (w F.RGN_FENCE_SET)) m
    else if o = 0x104 then s.fenceChange (s.get F.RGN_FENCED - (s.get F.RGN_FENCED).land (w F.RGN_FENCE_CLR)) m
    else s
  | 0x22 =>
    if o = 0x100 then
      let s := if w F.MRCH_CMD_START = 1 then s.marchStart (w F.MRCH_CMD_BANK) (w F.MRCH_CMD_MODE == 1) (w F.MRCH_CMD_FULL == 1) else s
      let s := if w F.MRCH_CMD_START = 1 then s.followMarkBanks else s
      if w F.MRCH_CMD_ABORT = 1 then s.marchAbort else s
    else s
  | 0x23 =>
    if o = 0x100 then (if w F.RPR_CMD = 1 then s.burnRepairs else s)
    else if 0x200 ≤ o && o < 0xE00 then
      let k := (o - 0x200) / 4
      if s.rprValid k && !(b.rprValid k) then s.spareEnabled k else s
    else s
  | 0x24 =>
    if o = 0x100 || (0x200 ≤ o && o % 16 = 0) then s.enabledRuns b
    else if o = 0x10C then
      let d := w F.LBST_CMD_DOMAIN
      let s := if w F.LBST_CMD_RETEST = 1 then s.startRun d else s
      if w F.LBST_CMD_RELEASE = 1 then s.releaseHold d else s
    else s
  | 0x2D => if o = 0x118 && w F.ADC_CMD_AUTOZERO = 1 then s.autozero (w F.ADC_CMD_PAIR) else s
  | 0x30 =>
    if o = 0x100 then
      let s := s.periodWritten
      let e := s.edge b F.MTR_CFG_EN a
      if e.1 then s.meteringStart else if e.2 then s.meteringStop else s
    else if o = 0x108 || o = 0x10C then s.mtrEnWritten else s
  | 0x31 => if o = 0x110 then s.talyAcked else s
  | 0x38 =>
    if 0x200 ≤ o && o < 0x400 && o % 0x40 = 0 then
      let e := s.edge b F.LETH_P_CFG_EN a
      let s := if e.2 then s.flushLocal true (F.LETH_P_CFG_EN.inst a) else s
      (if e.1 || e.2 then s.wheelCheck else s).ethFollow (F.LETH_P_CFG_EN.inst a)
    else s
  | 0x39 =>
    if 0x200 ≤ o && o < 0x300 then
      let n := F.LC_P_CFG_EN.inst (a - a % 0x40)
      if o % 0x40 = 0 then
        let e := s.edge b F.LC_P_CFG_EN a
        let s := if e.2 then s.flushLocal false n else s
        let s := if e.1 || e.2 then s.wheelCheck else s
        s.canState n
      else if o % 0x40 = 0x14 && w F.LC_P_CMD = 1 then { s with loc := { s.loc with recover := n :: s.loc.recover.filter (· != n) } }
      else s
    else s
  | _ => s

/-- The header registers: block enable, soft reset, snapshot (R48 to R50). -/
def State.effectHeader (s b : State) (a : Nat) (w : Fld → Nat) : State :=
  let p := a / 0x1000
  match a % 0x1000 with
  | 0x08 =>
    let s := if 0x29 ≤ p && p ≤ 0x2C && s.get F.PG_CTRL_EN p != b.get F.PG_CTRL_EN p then
        (List.range 12).foldl (fun s i => s.chanEnable (12 * (p - 0x29) + i)) s
      else s
    let e := s.edge b F.PG_CTRL_FREEZE a
    let others := s.host.frozen.filter (fun x => x.1 != p)
    let s := if e.1 && p != 1 then { s with host := { s.host with frozen := (p, b.snapshotPage p) :: others } }
      else if e.2 then { s with host := { s.host with frozen := others } } else s
    if w F.PG_CTRL_SRST = 1 then { s with host := { s.host with reset := s.host.reset ++ [(p, s.clk.now + 10000)] } } else s
  | _ => s

/-- The effects of a register written. -/
def State.effect (s b : State) (m : Nat) (q : Part) (facts : WFacts) : State :=
  -- the fields as applied; a field of another instance or register is 0 here
  let w (f : Fld) : Nat := if q.row.fields.any (fun d => d.fld == f) then look 0 f.lo q.vals else 0
  if q.addr % 0x1000 < 0x100 then s.effectHeader b q.addr w
  else
    let p := q.addr / 0x1000
    if p ≤ 0x06 || (0x32 ≤ p && p ≤ 0x37) then s.effectHost b m q.addr w facts
    else if p < 0x20 then s.effectLine b q.addr w facts.host
    else s.effectRest b m q.addr w

/-- RTC_SET.COMMIT written and not accepted (R380); a clamp event on a staging register (R379). -/
def State.rtcReports (s : State) (q : Part) (seen : Bool) : State :=
  let s := if staging q.addr && seen then s.set F.RTC_STAT_STG_CLAMPED 1 else s
  if q.addr = 0x3212C && bit q.written 5 && look 0 5 q.vals = 0 then s.commitRefuse else s

/-- TRW_WHEEL_CMD.APPLY written and refused: CHANNEL names the channel that would fall short (R189). -/
def State.wheelReports (s : State) (q : Part) : State :=
  if q.addr = 0x18148 && bit q.written 0 && look 0 0 q.vals = 0 then
    (match s.shortOf s.shareOf with | some c => s.set F.TRW_WHEEL_STAT_CHANNEL c | none => s)
  else s

/-! ### A write (R44 to R65) -/

/-- A write that its page applies: the registers it reaches are checked and written in order, the events reported, dependent
fields judged again, and then the blocks act. -/
def State.applyWrite (s : State) (m a v be : Nat) (facts : WFacts) : State :=
  let p := a / 0x1000
  match rowAt p (a % 0x1000) with
  | none => s.clampReport ⟨p, 0xFE, 5, a % 0x1000, mergeBytes 0 v be, 0, m⟩
  | some r =>
    let w := s.merged a v be r
    if r.fields.all (fun d => d.acc == .ro) then s.clampReport ⟨p, 0xFE, 4, a % 0x1000, w, s.regLive a, m⟩
    else
      let g := writeGroup a
      if !g.isEmpty && g.getLast? != some a then s.holdPart m a v be r
      else
        let b := s
        let low := (g.filter (· != a)).filterMap (fun x =>
          match s.heldPart m x, rowAt (x / 0x1000) (x % 0x1000) with | some h, some r => some (x, h, r) | _, _ => none)
        let res := (low ++ [(a, w, r)]).foldl (fun (acc : List Part × State) x =>
          let (q, s) := acc.2.writePart m x.1 x.2.1 x.2.2
          (acc.1 ++ [q], s)) ([], s)
        let s := res.2
        -- a key is installed as a whole (R529)
        let s := match res.1.getLast? with
          | some q =>
            if a = 0x15114 && q.events.isEmpty && [0x15108, 0x1510C, 0x15110].all (fun x => (b.heldPart m x).isSome) then
              s.installKey ((((low.map (fun (x : Nat × Nat × Row) => x.2.1)).zip (List.range 3)).map (fun (x : Nat × Nat) => x.1 * 2 ^ (32 * x.2))).sum + w * 2 ^ 96)
            else s
          | none => s
        let s := s.dropParts m g
        let s := res.1.foldl (fun s q => s.reportFields m q) s
        let s := if a = 0x5118 then s.bmJudge m (some w) else s
        let s := res.1.foldl (fun s q => s.reportReserved m q) s
        let s := s.recheckAll m a
        let s := s.set F.PG_SEQ ((s.get F.PG_SEQ p + 1) % 65536) p
        let s := res.1.foldl (fun s q => s.wheelReports q) s
        let s := res.1.foldl (fun s q => s.rtcReports q (res.1.any (fun q => !q.events.isEmpty || q.res))) s
        res.1.foldl (fun s q => s.effect b m q facts) s

/-- Pages that take writes before READY (R464). -/
def beforeReady (p : Nat) : Bool := [0x00, 0x01, 0x02, 0x05, 0x06, 0x20, 0x21, 0x35, 0x37].contains p

/-- A write refused on CLMP alone (R55, R62, R464). -/
def State.refuseAsleep (s : State) (m a v be : Nat) (asleep : Bool) : State :=
  let r := rowAt (a / 0x1000) (a % 0x1000)
  let cur := if asleep then 0 else s.regLive a
  let w := match r with | some r => (if asleep then mergeBytes 0 v be else s.merged a v be r) | none => mergeBytes 0 v be
  s.clampLog ⟨a / 0x1000, 0xFE, 6, a % 0x1000, w, cur, m⟩

/-- A host write of master `m` to the aligned address `a` of BAR0, with byte enables `be`. -/
def State.hostWrite (s : State) (m a v be : Nat) (facts : WFacts) : State :=
  let p := a / 0x1000
  let off := a % 0x1000
  let i := regIsland p off
  if pageReserved p || 64 ≤ p then s.clampLog ⟨p, 0xFE, 5, off, mergeBytes 0 v be, 0, m⟩
  else if s.islandAsleep i then
    if a = 0x36100 && mergeBytes 0 v be = 0x5A17 && s.power = 2 then s.dumpTrigger false
    else if a = 0x118 && mergeBytes 0 v be = 0xA55A && s.dumping then
      (if s.get F.DUMP_STAT_STATE ≤ 3 then { s with dump := { s.dump with swrst := true } } else s.nodeReset facts.start 2)
    else s.refuseAsleep m a v be true
  else if !(s.on F.TOP_READY_READY) && !(beforeReady p) then s.refuseAsleep m a v be false
  else if s.islandFenced i && off != 0x10 && off != 0x14 then
    let (w, cur) := match rowAt p off with | some r => (s.merged a v be r, s.regLive a) | none => (mergeBytes 0 v be, 0)
    s.clampReport ⟨p, 0xFE, 7, off, w, cur, m⟩
  else if s.host.reset.any (fun r => r.1 == p) || s.testing p off then
    { s with host := { s.host with staged := s.host.staged ++ [⟨m, a, v, be⟩] } }
  else s.applyWrite m a v be facts

/-- The writes that wait for pages that now serve are applied in the order of arrival (R49, R64). -/
def State.applyStaged (s : State) (facts : WFacts) : State :=
  let due := s.host.staged.filter (fun x => !(s.host.reset.any (fun r => r.1 == x.addr / 0x1000)) && !(s.testing (x.addr / 0x1000) (x.addr % 0x1000)))
  let s := { s with host := { s.host with staged := s.host.staged.filter (fun x => !(due.contains x)) } }
  due.foldl (fun s x => s.hostWrite x.ifc x.addr x.value x.be facts) s

/-- SOFT_RESET_DONE: the reset of page `p` completes, no later than 10 µs after it began, and the writes held proceed. -/
def State.softResetDone (s : State) (p took : Nat) (facts : WFacts) : State :=
  match s.host.reset.find? (fun r => r.1 == p) with
  | none => s
  | some r =>
    let s := s.elapseTo (r.2 - 10000 + min took 10000)
    let s := s.softReset p
    s.applyStaged facts

/-- STAGED_DONE on the pages whose staged writes a slice's end lets through. -/
def State.stagedDone (s : State) (facts : WFacts) : State :=
  let pages := (s.host.staged.filter (fun x => !(s.host.reset.any (fun r => r.1 == x.addr / 0x1000)) && !(s.testing (x.addr / 0x1000) (x.addr % 0x1000)))).map (fun x => x.addr / 0x1000)
  (pages.eraseDups).foldl (fun s p => s.irq p 2) (s.applyStaged facts)

end Sys2Proof.Machine
end

