-- ==== Sys2Proof/Machine/Port.lean ====
section
/-! DEFINITION. What a host interface does with the node (R446 to R456): register reads and writes, command writes that set
one field of a register, the local bus with its halves and windows, SPI frames; and the pins of R506 and R521. -/

namespace Sys2Proof.Machine

/-! ### Registers -/

/-- Below PLL_HST's failure SPI reaches the pages of the always-on island alone (R465). -/
def State.reaches (s : State) (p : Nat) : Bool := !(s.isl.pllLost.contains 11) || ownerIsland p == 29

/-- The local bus's held low half is applied alone, with its own byte enables (R453). -/
def State.lbFlush (s : State) (facts : WFacts) : State :=
  match s.host.lbLow with
  | some (a, v, be) => ({ s with host := { s.host with lbLow := none } }).hostWrite 1 a v be facts
  | none => s

/-- A write by interface `i` of the aligned register at `a`; nothing where the interface does not answer. -/
def State.regWrite (s : State) (i : Ifc) (a v be : Nat) (facts : WFacts) : State :=
  if !(s.ifcOn i) || !(s.reaches (a / 0x1000)) then s
  else
    let s := if i = .lb then s.lbFlush facts else s
    s.hostWrite i.id (a / 4 * 4) (v % 2 ^ 32) (be % 16) facts

/-- A read by interface `i` of the aligned register at `a`, with the latches it leaves (R60): what it answers is given out. -/
def State.regRead (s : State) (i : Ifc) (a : Nat) (facts : WFacts) : State :=
  if !(s.ifcOn i) then s
  else
    let s := if i = .lb then s.lbFlush facts else s
    let (v, s) := if s.reaches (a / 0x1000) then s.hostRead i.id (a / 4 * 4) else (0, s)
    s.emit (.hostRead i.id (a / 4 * 4) v)

/-- The register at `a` with its RW and RWL fields as they stand and every other field 0. -/
def State.keptFields (s : State) (a : Nat) : Nat :=
  match rowAt (a / 0x1000) (a % 0x1000) with
  | some r => (r.fields.map (fun f => if f.acc = .rw ∨ f.acc = .rwl then s.view f.fld (f.fld.inst a) * 2 ^ f.fld.lo else 0)).sum
  | none => 0

/-- A command write: the register at `a` written with the fields listed, its other fields as they stand. -/
def State.cmdWrite (s : State) (i : Ifc) (a : Nat) (fs : List (Fld × Nat)) (facts : WFacts) : State :=
  s.regWrite i a (fs.foldl (fun v (x : Fld × Nat) => setBits v x.1.lo x.1.width x.2) (s.keptFields a)) 15 facts

/-! ### Windows to the Quarry -/

/-- A host master's access to the Quarry word at `w`. Before the end of start-up step 5 it reads 0 and a write is discarded
(R464). -/
def State.winAccess (s : State) (m w be : Nat) (write : Option Nat) (u : Upset) : State :=
  if s.isl.started < 5 then s.answer m w 0 0 else s.qAccess m w be write u

/-- The data of the answer given last to master `m`, and whether it has been given at all: a held access answers later. -/
def State.lastAnswer (s : State) (m : Nat) : Option Nat :=
  match s.out.head? with
  | some (.quarry m' _ st d) => if m' = m ∧ st != 3 then some d else none
  | _ => none

/-! ### Local bus (R452, R453) -/

/-- A 16-bit local-bus read of byte address `x`. -/
def State.lbRead (s : State) (x : Nat) (u : Upset) (facts : WFacts) : State :=
  if !(s.ifcOn .lb) then s
  else
    let s := s.lbFlush facts
    let x := x / 2 * 2
    let r := x / 4 * 4
    if x < 0x40000 then
      if x % 4 = 0 then
        let (v, s) := s.hostRead 1 r
        ({ s with host := { s.host with lbHigh := put r (v / 65536) s.host.lbHigh } }).emit (.hostRead 1 x (v % 65536))
      else match s.host.lbHigh.find? (fun p => p.1 == r) with
        | some p => ({ s with host := { s.host with lbHigh := del r s.host.lbHigh } }).emit (.hostRead 1 x p.2)
        | none =>
          let (v, s) := s.hostRead 1 r
          s.emit (.hostRead 1 x (v / 65536))
    else if 0x80000 ≤ x && x < 0x100000 then
      let q := s.get F.HOST_LB_QWIN * 0x80000 + (x - 0x80000)
      let s := s.winAccess 1 (q / 8 * 8) (3 * 2 ^ (q % 8)) none u
      match s.lastAnswer 1 with
      | some d => s.emit (.hostRead 1 x (d / 2 ^ (8 * (q % 8)) % 65536))
      | none => s
    else if 0x100000 ≤ x && x < 0x180000 then
      let v := s.get F.HOST_LB_VWIN * 0x80000 + (x - 0x100000)
      let (_, b, s) := s.vaultRead (v / 4 * 4) u
      s.emit (.hostRead 1 x (leVal b / 2 ^ (8 * (v % 4)) % 65536))
    else s.emit (.hostRead 1 x 0)

/-- A 16-bit local-bus write to byte address `x` with two byte enables. -/
def State.lbWrite (s : State) (x v be : Nat) (u : Upset) (facts : WFacts) : State :=
  if !(s.ifcOn .lb) then s
  else
    let x := x / 2 * 2
    let r := x / 4 * 4
    let v := v % 65536
    let be := be % 4
    if x < 0x40000 && x % 4 = 2 then
      match s.host.lbLow with
      | some (a, lo, lbe) =>
        if a = r then
          ({ s with host := { s.host with lbLow := none } }).hostWrite 1 r (lo + v * 65536) (lbe + be * 4) facts
        else (s.lbFlush facts).hostWrite 1 r (v * 65536) (be * 4) facts
      | none => s.hostWrite 1 r (v * 65536) (be * 4) facts
    else
      let s := s.lbFlush facts
      if x < 0x40000 then { s with host := { s.host with lbLow := some (r, v, be) } }
      else if 0x80000 ≤ x && x < 0x100000 then
        let q := s.get F.HOST_LB_QWIN * 0x80000 + (x - 0x80000)
        s.winAccess 1 (q / 8 * 8) (be * 2 ^ (q % 8)) (some (v * 2 ^ (8 * (q % 8)))) u
      else s.inc F.HOST_LB_ERR

/-! ### SPI (R455, R456) -/

/-- One aligned 4-byte unit of an SPI READ: its bytes in ascending address order, and the node after. -/
def State.spiUnit (s : State) (a : Nat) (u : Upset) : List Nat × State :=
  if a < 0x40000 then
    if s.reaches (a / 0x1000) then (let (v, s) := s.hostRead 2 a; (le 4 v, s)) else ([0, 0, 0, 0], s)
  else if 0x10000000 ≤ a && a < 0x14000000 then
    let q := a - 0x10000000
    let s := s.winAccess 2 (q / 8 * 8) (15 * 2 ^ (q % 8)) none u
    (le 4 ((s.lastAnswer 2).getD 0 / 2 ^ (8 * (q % 8))), s)
  else if 0x20000000 ≤ a && a < 0x20800000 then
    let (_, b, s) := s.vaultRead (a - 0x20000000) u
    (b, s)
  else ([0, 0, 0, 0], s)

/-- The units of a READ, one for each of `us`, from `a` on: a unit is given out as 0x5A and its four bytes. -/
def State.spiUnits : State → Nat → List Upset → State
  | s, _, [] => s
  | s, a, u :: us =>
    let (b, s) := s.spiUnit (a % 2 ^ 32) u
    State.spiUnits (s.emit (.spi (0x5A :: b))) (a + 4) us

/-- A frame discarded and counted (R456). -/
def State.spiDiscard (s : State) : State := { s.inc F.HOST_SPI_ERR with host := { s.host with spiBad := true } }

/-- A frame taken. -/
def State.spiGood (s : State) : State := { s with host := { s.host with spiBad := false } }

/-- An SPI READ: `frame` is what follows the command byte, and one unit is read for each of `us`. -/
def State.spiRead (s : State) (frame : List Nat) (us : List Upset) : State :=
  if !(s.ifcOn .spi) then s
  else if frame.length < 4 then s.spiDiscard
  else s.spiGood.spiUnits (leVal (frame.take 4).reverse / 4 * 4) us

/-- One unit of an SPI WRITE: the bytes from `o` on in the unit at `a`. -/
def State.spiPut (s : State) (a o : Nat) (bs : List Nat) (u : Upset) (facts : WFacts) : State :=
  let v := leVal bs * 2 ^ (8 * o)
  let be := (2 ^ bs.length - 1) * 2 ^ o
  if a < 0x40000 then (if s.reaches (a / 0x1000) then s.hostWrite 2 a v be facts else s)
  else if 0x10000000 ≤ a && a < 0x14000000 then
    let q := a - 0x10000000
    s.winAccess 2 (q / 8 * 8) (be * 2 ^ (q % 8)) (some (v * 2 ^ (8 * (q % 8)))) u
  else s.inc F.HOST_SPI_ERR

/-- The data of a WRITE from address `a` on, unit by unit; `fuel` bounds the units. -/
def State.spiPuts : Nat → State → Nat → List Nat → Upset → WFacts → State
  | 0, s, _, _, _, _ => s
  | n + 1, s, a, bs, u, facts =>
    if bs.isEmpty then s
    else
      let k := 4 - a % 4
      State.spiPuts n (s.spiPut (a / 4 * 4 % 2 ^ 32) (a % 4) (bs.take k) u facts) (a + k) (bs.drop k) u facts

/-- An SPI frame with command byte `cmd` and `frame` after it: a WRITE is 0x02; an unknown command is discarded. -/
def State.spiWrite (s : State) (cmd : Nat) (frame : List Nat) (u : Upset) (facts : WFacts) : State :=
  if !(s.ifcOn .spi) then s
  else if cmd != 2 || frame.length < 4 then s.spiDiscard
  else State.spiPuts frame.length s.spiGood (leVal (frame.take 4).reverse) (frame.drop 4) u facts

/-- The byte of an SPI STATUS frame. -/
def State.spiStatusByte (s : State) : Nat :=
  0x50 + s.get F.TOP_READY_READY + 2 * s.irqN0.toNat + 4 * s.irqN1.toNat + 8 * s.host.spiBad.toNat

/-- An SPI STATUS frame. -/
def State.spiStatus (s : State) : State :=
  if !(s.ifcOn .spi) then s else (s.emit (.spi [s.spiStatusByte])).spiGood

/-! ### Accesses by master (R266, R278) -/

/-- Master `m` can issue an access: its interface answers, or the island it lies in runs. -/
def State.masterOn (s : State) (m : Nat) : Bool :=
  match m with
  | 0 => s.ifcOn .pcie
  | 1 => s.ifcOn .lb
  | 2 => s.ifcOn .spi && s.reaches 0x20
  | 3 => !(s.islandAsleep 8)
  | 8 => !(s.islandAsleep 25)
  | 9 | 14 => !(s.islandAsleep 31)
  | 10 => !(s.islandAsleep 27)
  | 11 => !(s.islandAsleep 28)
  | 12 => !(s.islandAsleep 30)
  | 13 => !(s.islandAsleep 9)
  | 15 => false
  | _ => !(s.islandAsleep 26) && !s.dumping

/-- QUARRY_ACCESS. -/
def State.quarryAccess (s : State) (m w be : Nat) (write : Option Nat) (u : Upset) : State :=
  if !(s.masterOn m) then s else s.winAccess m (w % 0x4000000 / 8 * 8) (be % 256) (write.map (· % 2 ^ 64)) u

/-! ### Pins (R506) and the test access port (R521) -/

/-- PPS_OUT pulses at the next whole multiple of 10⁹ ns of line time, while LINE_STAT.LOCK is 1. -/
def State.ppsPulse (s : State) : State :=
  if !s.clk.ltOn || s.islandAsleep 8 then s
  else
    let due := (s.clk.lt + 999999999) / 1000000000 * 1000000000
    let due := if s.pins.pps = some due then due + 1000000000 else due
    let s := s.elapseLt due
    let s := { s with pins := { s.pins with pps := some due } }
    if s.on F.LINE_STAT_LOCK then s.emit (.pulse "PPS_OUT") else s

/-- A reading of the Tj sensor in 0.1 °C: THERM_N is low from 150.0 °C on, until a reading below 145.0 °C. -/
def State.thermal (s : State) (tj : Int) : State :=
  { s with mon := { s.mon with tj := tj }
           pins := { s.pins with therm := if 1500 ≤ tj then true else if tj < 1450 then false else s.pins.therm } }

/-- The IDCODE of R521. -/
def idcode : Nat := 0x181405D3

/-- An instruction of the TAP comes into force; what it selects is shifted out. -/
def State.tapLoad (s : State) (ir value : Nat) : State := ({ s with tap := { s.tap with ir := ir } }).emit (.tap ir value)

/-- SAMPLE/PRELOAD: the boundary register is sampled from the pins (`pins`), or preloaded with `shifted`. -/
def State.tapSample (s : State) (pins : Nat) (shifted : Option Nat) : State :=
  match shifted with
  | some v => { s with tap := ⟨2, v⟩ }.emit (.tap 2 pins)
  | none => s.tapLoad 2 pins

/-! ### Events that reach the node from outside -/

/-- What the PHY of port `n` noted of a frame is counted (SPK_FEC, SPK_A_CODE). -/
def State.rxPhy (s : State) (n : Nat) (p : RxPhy) : State :=
  if s.isl.started < 8 || s.islandAsleep n then s
  else if s.portGen n = 3 then
    let s := (s.add F.SPK_FEC_CORR p.corrected n).add F.SPK_FEC_UNCORR p.uncorrected n
    if p.uncorrected = 0 then s else s.portIrq n 10
  else if s.get F.SPK_CFG_GEN n = 1 && p.violation then s.rxError n F.SPK_A_CODE
  else s

/-- A frame arrives on port `n` (R97); nothing does before the start is complete (R465). -/
def State.frameArrives (s : State) (n stamp : Nat) (f : List Nat) (short : Bool) (desc : List Nat) (coll : Nat) : State :=
  if s.isl.started < 8 then s else s.frameReceive n stamp f short desc coll

/-- ARB_KILL_N low for `low` ns (R172): below 10 ns the pulse is rejected, below 30 ns `taken` tells what the filter makes
of it. In a node whose port islands are off the level is kept for their return. -/
def State.killPulse (s : State) (low : Nat) (taken : Bool) : State :=
  if low < 10 || (low < 30 && !taken) then s.elapse low
  else
    let s := s.elapse (min low 30)
    if s.isl.started < 8 || 3 ≤ s.power then { s with twin := { s.twin with killPin := true } } else s.killTwin

/-- ARB_KILL_N has been high for 1 µs (R173). -/
def State.killEnds (s : State) : State :=
  let s := { s with twin := { s.twin with killPin := false } }
  if s.isl.started < 8 || 3 ≤ s.power then (s.elapse 1000).set F.GRD_KILL_STAT_PIN_LOW 0 |>.set F.GRD_KILL_STAT_LATCHED 0
  else s.killRelease

/-- The lease of semaphore `n` runs out on the timer of Quarry island 0 (R285). -/
def State.leaseExpiry (s : State) (n : Nat) : State :=
  if s.islandAsleep 9 || !(s.on F.QRY_SEMN_HELD n) then s
  else (s.elapse (look 0 n s.qry.leases - s.clk.q0Ns)).semSettle n

/-- VFUSE in mV and Tj in 0.1 °C as the monitors read (R296, R311). -/
def State.sense (s : State) (vfuse : Nat) (tj : Int) : State := { s with mon := { s.mon with vfuse := vfuse, tj := tj } }

/-- The RTC reaches an armed alarm (R383). -/
def State.alarmFires (s : State) : State :=
  if !(s.on F.RTC_ALARM_HI_ARMED) || !s.timeValid || s.islandAsleep 29 then s else (s.elapse (s.untilRtc s.alarmAt)).alarmCheck

/-- The crystal gives no edge for 122 µs (R388). -/
def State.crystalStops (s : State) (resumes : Bool) : State :=
  let s := ({ s with clk := { s.clk with xtal := false } }).elapse 122000
  { s with clk := { s.clk with xtal := resumes }, rtc := { s.rtc with oscStop := true } }

/-- The BOOT partition closes to host commands 1 ms after the key (R419). -/
def State.bootKeyEnds (s : State) : State :=
  match s.vault.bootKey with
  | none => s
  | some t => let s := s.elapseTo (t + 1000000); { s with vault := { s.vault with bootKey := none } }

/-! ### Which parts can act -/

/-- Island `i` runs after a start: neither off, gated, halted nor frozen (R24, R30, R42, R480). -/
def State.awake (s : State) (i : Nat) : Bool := decide (8 ≤ s.isl.started) && !(s.islandAsleep i) && s.islandState i != 2

/-- The host island's blocks run: its local ports, DMA channels and BIST controller, which a dump stops (R480). -/
def State.hostLive (s : State) : Bool := s.awake 26 && !s.dumping

/-- Island `i` answers once start-up step `step` is over (R465). -/
def State.answers (s : State) (i step : Nat) : Bool := decide (step ≤ s.isl.started) && !(s.islandAsleep i) && s.islandState i != 2

end Sys2Proof.Machine
end

