-- ==== Sys2Proof/Machine/Attachment.lean ====
section
/-! DEFINITION. The meanings of the commands of the host attachment. -/

namespace Sys2Proof.Machine

/-- PCIE_RESET: a reset of the endpoint (R449): 0 fundamental, 1 hot, 2 link down, 3 function level. -/
def execPcieReset (kind : BitVec 2) (s : State) : Host.Outcome State Fault Refusal :=
  .next (s.finish (s.pcieReset kind.toNat))

/-- PCIE_COMPLETION_TIMEOUT: a bus-master read without completion for HOST_CPL_TO ms (R450), by a DMA channel or for a
transmit queue. -/
def execPcieCompletionTimeout (dma : Bool) (index : Fin 64) (s : State) : Host.Outcome State Fault Refusal :=
  .next (s.finish (if !s.hostLive then s else s.cplTimeout dma index.val))

/-- DMA_START: DMA_CTRL.START (R451). -/
def execDmaStart (ifc : Ifc) (channel : Fin 4) (facts : WFacts) (s : State) : Host.Outcome State Fault Refusal :=
  .next (s.finish (s.cmdWrite ifc (F.DMA_CTRL_START.addr channel.val) [(F.DMA_CTRL_START, 1)] facts))

/-- DMA_ABORT: DMA_CTRL.ABORT (R451). -/
def execDmaAbort (ifc : Ifc) (channel : Fin 4) (facts : WFacts) (s : State) : Host.Outcome State Fault Refusal :=
  .next (s.finish (s.cmdWrite ifc (F.DMA_CTRL_ABORT.addr channel.val) [(F.DMA_CTRL_ABORT, 1)] facts))

/-- DMA_DONE: the copy of a channel ends (R451); `host` is what host memory answers its reads. -/
def execDmaDone (channel : Fin 4) (host : List Byte) (s : State) : Host.Outcome State Fault Refusal :=
  .next (s.finish (s.dmaRun channel.val (host.map BitVec.toNat)))

/-- LOCAL_BUS_READ: a 16-bit local-bus read (R453). -/
def execLocalBusRead (addr : BitVec 21) (found : Upset) (facts : WFacts) (s : State) : Host.Outcome State Fault
    Refusal :=
  .next (s.finish (s.lbRead addr.toNat found facts))

/-- LOCAL_BUS_WRITE: a 16-bit local-bus write (R453). -/
def execLocalBusWrite (addr : BitVec 21) (data : Word) (be : BitVec 2) (found : Upset) (facts : WFacts) (s : State) :
    Host.Outcome State Fault Refusal :=
  .next (s.finish (s.lbWrite addr.toNat data.toNat be.toNat found facts))

/-- SPI_READ: an SPI READ frame after its command byte, one unit read for each member of `found` (R455). -/
def execSpiRead (frame : List Byte) (found : List Upset) (s : State) : Host.Outcome State Fault Refusal :=
  .next (s.finish (s.spiRead (frame.map BitVec.toNat) found))

/-- SPI_WRITE: an SPI WRITE frame after its command byte; any command byte but those of READ and STATUS (R456). -/
def execSpiWrite (command : Byte) (frame : List Byte) (found : Upset) (facts : WFacts) (s : State) : Host.Outcome
    State Fault Refusal :=
  .next (s.finish (s.spiWrite command.toNat (frame.map BitVec.toNat) found facts))

/-- SPI_STATUS: an SPI STATUS frame (R455). -/
def execSpiStatus (s : State) : Host.Outcome State Fault Refusal :=
  .next (s.finish (s.spiStatus))

/-- IRQ_EOI: IRQ_EOI written (R457). -/
def execIrqEoi (ifc : Ifc) (mask : Reg) (facts : WFacts) (s : State) : Host.Outcome State Fault Refusal :=
  .next (s.finish (s.cmdWrite ifc (F.IRQ_EOI.addr 0) [(F.IRQ_EOI, mask.toNat)] facts))

/-- WATCHDOG_KICK: the key written to HOST_WDOG_KICK (R460). -/
def execWatchdogKick (ifc : Ifc) (facts : WFacts) (s : State) : Host.Outcome State Fault Refusal :=
  .next (s.finish (s.cmdWrite ifc (F.HOST_WDOG_KICK.addr 0) [(F.HOST_WDOG_KICK, 0x6B1C)] facts))

/-- WATCHDOG_EXPIRY: no kick within TIMEOUT_MS (R460). -/
def execWatchdogExpiry (facts : StartFacts) (s : State) : Host.Outcome State Fault Refusal :=
  .next (s.finish (s.wdogExpiry facts))

/-- PCIE_LINK_UP: the endpoint finishes training (R447): SPEED and WIDTH as HOST_STAT codes them. -/
def execPcieLinkUp (speed : BitVec 2) (width : BitVec 2) (s : State) : Host.Outcome State Fault Refusal :=
  .next (s.finish (s.pcieUp speed.toNat width.toNat))

/-- PERST_N_RELEASE: PERST_N rises (R463). -/
def execPerstNRelease (s : State) : Host.Outcome State Fault Refusal :=
  .next (s.finish (s.perstRise))

/-- PCIE_CONFIG_WRITE: a configuration write: Bus Master Enable, MSI-X Enable, function mask, D3hot (R448, R450,
R457). -/
def execPcieConfigWrite (bme : Bool) (msix : Bool) (fmask : Bool) (d3hot : Bool) (s : State) : Host.Outcome State
    Fault Refusal :=
  .next (s.finish (s.pcieConfig bme msix fmask d3hot))

/-- BAR4_WINDOW_ACCESS: a PCIe access of 4 bytes to the BAR4 window (R448). -/
def execBar4WindowAccess (write : Bool) (addr : BitVec 23) (found : Upset) (s : State) : Host.Outcome State Fault
    Refusal :=
  .next (s.finish (s.bar4 write addr.toNat found))

end Sys2Proof.Machine
end

