-- ==== Sys2Proof/Machine/Banks.lean ====
section
/-! DEFINITION. The meanings of the commands of the Quarry with its regions, semaphores, march and repair. -/

namespace Sys2Proof.Machine

/-- QUARRY_ACCESS: an access of a master to a Quarry word (R278): a write where `data` is given; `found` is what the
word turns out to hold. -/
def execQuarryAccess (master : Master) (addr : BitVec 26) (be : BitVec 8) (data : Option DWord) (found : Upset) (s :
    State) : Host.Outcome State Fault Refusal :=
  .next (s.finish (s.quarryAccess master.val addr.toNat be.toNat (data.map BitVec.toNat) found))

/-- SCRUB_PATROL: the patrol reads its next word (R277); `hard` tells that a corrected word reads back in error. -/
def execScrubPatrol (found : Upset) (hard : Bool) (s : State) : Host.Outcome State Fault Refusal :=
  .next (s.finish (if !(s.answers 9 5) || !(s.on F.QRY_CFG_SCRUB_EN) then s else s.patrol found hard))

/-- BANK_POWER_WRITE: a QRY_BANK_RUN register written (R272). -/
def execBankPowerWrite (ifc : Ifc) (index : Fin 4) (value : Reg) (facts : WFacts) (s : State) : Host.Outcome State
    Fault Refusal :=
  .next (s.finish (s.cmdWrite ifc (F.QRY_BANK_RUN.addr index.val) [(F.QRY_BANK_RUN, value.toNat)] facts))

/-- BANK_CLEAR_DONE: a clearing bank finishes (R274). -/
def execBankClearDone (bank : Bank) (s : State) : Host.Outcome State Fault Refusal :=
  .next (s.finish (if !(s.answers 9 5) then s else (s.clearDone bank.val).followMarkBanks))

/-- FENCE_SET: RGN_FENCE_SET written (R280). -/
def execFenceSet (ifc : Ifc) (mask : Word) (facts : WFacts) (s : State) : Host.Outcome State Fault Refusal :=
  .next (s.finish (s.cmdWrite ifc (F.RGN_FENCE_SET.addr 0) [(F.RGN_FENCE_SET, mask.toNat)] facts))

/-- FENCE_CLEAR: RGN_FENCE_CLR written (R280). -/
def execFenceClear (ifc : Ifc) (mask : Word) (facts : WFacts) (s : State) : Host.Outcome State Fault Refusal :=
  .next (s.finish (s.cmdWrite ifc (F.RGN_FENCE_CLR.addr 0) [(F.RGN_FENCE_CLR, mask.toNat)] facts))

/-- SEM_ACQUIRE: QRY_SEM_n written with OP ACQUIRE (R284). -/
def execSemAcquire (ifc : Ifc) (index : Fin 64) (tag : Word) (lease : BitVec 8) (facts : WFacts) (s : State) :
    Host.Outcome State Fault Refusal :=
  .next (s.finish (s.cmdWrite ifc (F.QRY_SEMN_OP.addr index.val) [(F.QRY_SEMN_TAG, tag.toNat), (F.QRY_SEMN_LEASE, lease.toNat), (F.QRY_SEMN_OP, 1)] facts))

/-- SEM_RENEW: QRY_SEM_n written with OP RENEW (R284). -/
def execSemRenew (ifc : Ifc) (index : Fin 64) (tag : Word) (lease : BitVec 8) (facts : WFacts) (s : State) :
    Host.Outcome State Fault Refusal :=
  .next (s.finish (s.cmdWrite ifc (F.QRY_SEMN_OP.addr index.val) [(F.QRY_SEMN_TAG, tag.toNat), (F.QRY_SEMN_LEASE, lease.toNat), (F.QRY_SEMN_OP, 2)] facts))

/-- SEM_RELEASE: QRY_SEM_n written with OP RELEASE (R284). -/
def execSemRelease (ifc : Ifc) (index : Fin 64) (tag : Word) (lease : BitVec 8) (facts : WFacts) (s : State) :
    Host.Outcome State Fault Refusal :=
  .next (s.finish (s.cmdWrite ifc (F.QRY_SEMN_OP.addr index.val) [(F.QRY_SEMN_TAG, tag.toNat), (F.QRY_SEMN_LEASE, lease.toNat), (F.QRY_SEMN_OP, 3)] facts))

/-- SEM_LEASE_EXPIRY: the lease of a semaphore runs out (R285). -/
def execSemLeaseExpiry (index : Fin 64) (s : State) : Host.Outcome State Fault Refusal :=
  .next (s.finish (s.leaseExpiry index.val))

/-- SEM_BREAK: QRY_SEM_BREAK written (R286). -/
def execSemBreak (ifc : Ifc) (mask : Word) (facts : WFacts) (s : State) : Host.Outcome State Fault Refusal :=
  .next (s.finish (s.cmdWrite ifc (F.QRY_SEM_BREAK.addr 0) [(F.QRY_SEM_BREAK, mask.toNat)] facts))

/-- MARCH_START: MRCH_CMD.START: MODE 1 is transparent (R292). -/
def execMarchStart (ifc : Ifc) (bank : Bank) (mode : Bool) (full : Bool) (facts : WFacts) (s : State) : Host.Outcome
    State Fault Refusal :=
  .next (s.finish (s.cmdWrite ifc (F.MRCH_CMD_START.addr 0) [(F.MRCH_CMD_BANK, bank.val), (F.MRCH_CMD_MODE, mode.toNat), (F.MRCH_CMD_FULL, full.toNat), (F.MRCH_CMD_START, 1)] facts))

/-- MARCH_ABORT: MRCH_CMD.ABORT (R292). -/
def execMarchAbort (ifc : Ifc) (facts : WFacts) (s : State) : Host.Outcome State Fault Refusal :=
  .next (s.finish (s.cmdWrite ifc (F.MRCH_CMD_ABORT.addr 0) [(F.MRCH_CMD_ABORT, 1)] facts))

/-- MARCH_SEGMENT: a transparent march ends its segment and begins the next (R290). -/
def execMarchSegment (s : State) : Host.Outcome State Fault Refusal :=
  .next (s.finish (if !(s.answers 9 5) then s else s.marchSegment))

/-- MARCH_DONE: a march run ends (R294). -/
def execMarchDone (found : MarchFacts) (s : State) : Host.Outcome State Fault Refusal :=
  .next (s.finish (if !(s.answers 9 5) then s else (s.marchDone found).followMarkBanks))

/-- SPARE_ENTRY_ENABLE: a repair entry written with VALID (R295). -/
def execSpareEntryEnable (ifc : Ifc) (entry : Fin 768) (value : Reg) (facts : WFacts) (s : State) : Host.Outcome State
    Fault Refusal :=
  .next (s.finish (s.regWrite ifc (0x23200 + 4 * entry.val) value.toNat 15 facts))

/-- SPARE_COPY_DONE: a copy into a spare completes (R295). -/
def execSpareCopyDone (entry : Fin 768) (s : State) : Host.Outcome State Fault Refusal :=
  .next (s.finish (if !(s.answers 9 5) then s else s.copyDone entry.val))

/-- REPAIR_BURN: RPR_CMD.BURN with VFUSE in mV and Tj in 0.1 °C as they read (R296). -/
def execRepairBurn (ifc : Ifc) (vfuse : Nat) (tj : Int) (facts : WFacts) (s : State) : Host.Outcome State Fault
    Refusal :=
  .next (s.finish ((s.sense vfuse tj).cmdWrite ifc (F.RPR_CMD.addr 0) [(F.RPR_CMD, 1)] facts))

/-- LANE_FUSE: LANE_CMD.FUSE with VFUSE and Tj as they read (R311). -/
def execLaneFuse (ifc : Ifc) (vfuse : Nat) (tj : Int) (facts : WFacts) (s : State) : Host.Outcome State Fault Refusal
    :=
  .next (s.finish ((s.sense vfuse tj).cmdWrite ifc (F.LANE_CMD.addr 0) [(F.LANE_CMD, 1)] facts))

/-- FUSE_BURN_DONE: a fuse burn ends: for each fuse blown whether it verified; fewer than were due where a condition
left its range (R424). -/
def execFuseBurnDone (verified : List Bool) (s : State) : Host.Outcome State Fault Refusal :=
  .next (s.finish (if !(s.answers 31 6) then s else s.burnDone verified))

end Sys2Proof.Machine
end

