-- ==== Sys2Proof/Machine/Billing.lean ====
section
/-! DEFINITION. The meanings of the commands of metering and the Tally. -/

namespace Sys2Proof.Machine

/-- BILLING_EDGE: the RTC reaches a nominal boundary (R356). -/
def execBillingEdge (s : State) : Host.Outcome State Fault Refusal :=
  .next (s.finish (if !(s.awake 28) then s else s.billingEdge))

/-- PERIOD_CLOSE: the horizon of an edge or of a set (R357); `slice` tells that a metering slice held the close. -/
def execPeriodClose (slice : Bool) (s : State) : Host.Outcome State Fault Refusal :=
  .next (s.finish (if !(s.awake 28) then s else s.periodClose slice))

/-- METERING_STOP: MTR_CFG.EN written 0 (R353). -/
def execMeteringStop (ifc : Ifc) (facts : WFacts) (s : State) : Host.Outcome State Fault Refusal :=
  .next (s.finish (s.cmdWrite ifc (F.MTR_CFG_EN.addr 0) [(F.MTR_CFG_EN, 0)] facts))

/-- METERING_START: MTR_CFG.EN written 1 (R353). -/
def execMeteringStart (ifc : Ifc) (facts : WFacts) (s : State) : Host.Outcome State Fault Refusal :=
  .next (s.finish (s.cmdWrite ifc (F.MTR_CFG_EN.addr 0) [(F.MTR_CFG_EN, 1)] facts))

/-- TALLY_VAULT_COPY: the mover takes the next record (R364). -/
def execTallyVaultCopy (s : State) : Host.Outcome State Fault Refusal :=
  .next (s.finish (if !(s.awake 31) || !(s.awake 28) then s else s.tallyCopy))

/-- TALLY_ACK: TALY_ACK written (R363). -/
def execTallyAck (ifc : Ifc) (index : Reg) (facts : WFacts) (s : State) : Host.Outcome State Fault Refusal :=
  .next (s.finish (s.cmdWrite ifc (F.TALY_ACK.addr 0) [(F.TALY_ACK, index.toNat)] facts))

end Sys2Proof.Machine
end

