-- ==== Sys2Proof/Machine/Bist.lean ====
section
/-! DEFINITION. The meanings of the commands of self-test in service. -/

namespace Sys2Proof.Machine

/-- REST_LANE_SLICE_START: the next slice of the rest lane starts (R302). -/
def execRestLaneSliceStart (s : State) : Host.Outcome State Fault Refusal :=
  .next (s.finish (if !s.hostLive then s else s.takeShadows s.restSlice))

/-- GAP_SLICE_START: the slices of a mortar gap start at B − 6 µs (R304); `tie` tells that a Tie frame is in progress.
-/
def execGapSliceStart (tie : Bool) (s : State) : Host.Outcome State Fault Refusal :=
  .next (s.finish (if !s.hostLive then s else s.takeShadows (s.gapSlices tie)))

/-- SLICE_END: a slice ends (R300), and the writes it held are applied (R64). -/
def execSliceEnd (domain : Fin 33) (found : SliceFacts) (facts : WFacts) (s : State) : Host.Outcome State Fault
    Refusal :=
  .next (s.finish ((s.sliceEnd domain.val found).engineBack.stagedDone facts))

/-- LBIST_RUN_START: PERIOD after a run, the next one starts (R299). -/
def execLbistRunStart (domain : Fin 33) (s : State) : Host.Outcome State Fault Refusal :=
  .next (s.finish (if !s.hostLive then s else s.runDue domain.val))

/-- LBIST_RETEST: LBST_CMD.RETEST (R307). -/
def execLbistRetest (ifc : Ifc) (domain : Fin 33) (facts : WFacts) (s : State) : Host.Outcome State Fault Refusal :=
  .next (s.finish (s.cmdWrite ifc (F.LBST_CMD_RETEST.addr 0) [(F.LBST_CMD_DOMAIN, domain.val), (F.LBST_CMD_RETEST, 1)] facts))

/-- LBIST_RELEASE: LBST_CMD.RELEASE (R308). -/
def execLbistRelease (ifc : Ifc) (domain : Fin 33) (facts : WFacts) (s : State) : Host.Outcome State Fault Refusal :=
  .next (s.finish (s.cmdWrite ifc (F.LBST_CMD_RELEASE.addr 0) [(F.LBST_CMD_DOMAIN, domain.val), (F.LBST_CMD_RELEASE, 1)] facts))

end Sys2Proof.Machine
end

