-- ==== Sys2Proof/Machine/Calendar.lean ====
section
/-! DEFINITION. The meanings of the commands of the RTC and the backup cell. -/

namespace Sys2Proof.Machine

/-- RTC_TRIM: the next seconds value that is a multiple of 32 is reached, and the trim corrects (R373). -/
def execRtcTrim (s : State) : Host.Outcome State Fault Refusal :=
  .next (s.finish (s.trimRtc))

/-- RTC_SECONDS_END: the RTC reaches its maximum and stops (R372). -/
def execRtcSecondsEnd (s : State) : Host.Outcome State Fault Refusal :=
  .next (s.finish ((s.elapse (s.untilRtc 0xFFFFFFFFFF + 1000000000)).secEndCheck))

/-- CALENDAR_END: the count reaches the end of the calendar (R376). -/
def execCalendarEnd (s : State) : Host.Outcome State Fault Refusal :=
  .next (s.finish ((s.elapse (s.untilRtc calEnd)).calEndCheck))

/-- RTC_COMMIT: RTC_SET.COMMIT (R380). -/
def execRtcCommit (ifc : Ifc) (force : Bool) (form : Bool) (atCourse : Bool) (facts : WFacts) (s : State) :
    Host.Outcome State Fault Refusal :=
  .next (s.finish (s.cmdWrite ifc (F.RTC_SET_COMMIT.addr 0) [(F.RTC_SET_FORCE, force.toNat), (F.RTC_SET_FORM, form.toNat), (F.RTC_SET_AT_COURSE, atCourse.toNat), (F.RTC_SET_COMMIT, 1)] facts))

/-- RTC_PENDING_COMMIT: the boundary of the named course takes a pending commit (R381). -/
def execRtcPendingCommit (s : State) : Host.Outcome State Fault Refusal :=
  .next (s.finish (s.commitAtCourse s.course))

/-- RTC_DISCARD: RTC_SET.DISCARD (R379). -/
def execRtcDiscard (ifc : Ifc) (facts : WFacts) (s : State) : Host.Outcome State Fault Refusal :=
  .next (s.finish (s.cmdWrite ifc (F.RTC_SET_DISCARD.addr 0) [(F.RTC_SET_DISCARD, 1)] facts))

/-- RTC_CAPTURE: RTC_SET.CAPTURE (R379). -/
def execRtcCapture (ifc : Ifc) (facts : WFacts) (s : State) : Host.Outcome State Fault Refusal :=
  .next (s.finish (s.cmdWrite ifc (F.RTC_SET_CAPTURE.addr 0) [(F.RTC_SET_CAPTURE, 1)] facts))

/-- ALARM: the count reaches an armed alarm (R383). -/
def execAlarm (s : State) : Host.Outcome State Fault Refusal :=
  .next (s.finish (s.alarmFires))

/-- MAIN_VALID: VDD_AO_IN rises to 2.9 V (R385). -/
def execMainValid (facts : StartFacts) (canary : Reg) (s : State) : Host.Outcome State Fault Refusal :=
  .next (s.finish (s.mainValid facts canary.toNat))

/-- MAIN_FAILURE: VDD_AO_IN below 2.8 V for 1 µs (R385). -/
def execMainFailure (s : State) : Host.Outcome State Fault Refusal :=
  .next (s.finish (s.mainFailure))

/-- SNAPSHOT_SAVE_DONE: the snapshot of the main-failure save is in the Vault (R366). -/
def execSnapshotSaveDone (facts : StartFacts) (canary : Reg) (s : State) : Host.Outcome State Fault Refusal :=
  .next (s.finish (s.saveEnds facts canary.toNat))

/-- VBAT_MEASURE: VBAT is measured (R387), VAO reading `vao` mV. -/
def execVbatMeasure (mv : BitVec 16) (vao : BitVec 16) (s : State) : Host.Outcome State Fault Refusal :=
  .next (s.finish (if !s.pins.main || s.islandAsleep 29 then s else
    let s := { s with mon := { s.mon with vao := vao.toNat } }
    if s.on F.BKP_CFG_MEAS_EN then s.measureVbat mv.toNat else s))

/-- BROWN_OUT_DETECT: VAO falls below 1.62 V (R388). -/
def execBrownOutDetect (s : State) : Host.Outcome State Fault Refusal :=
  .next (s.finish ({ s with rtc := { s.rtc with brown := true } }))

/-- CRYSTAL_STOP_DETECT: no crystal edge for 122 µs (R388); `resumes` tells whether the edges come back then. -/
def execCrystalStopDetect (resumes : Bool) (s : State) : Host.Outcome State Fault Refusal :=
  .next (s.finish (s.crystalStops resumes))

end Sys2Proof.Machine
end

