-- ==== Sys2Proof/Machine/Channels.lean ====
section
/-! DEFINITION. The meanings of the commands of the load channels. -/

namespace Sys2Proof.Machine

/-- ADC_RESULT: a result pair of a channel (R318): the line time of its conversion's end, the length of the conversion
in ns, the raw codes, and whether a slice held it. -/
def execAdcResult (chan : Chan) (stamp : DWord) (len : Nat) (codeI : Word) (codeV : Word) (held : Bool) (s : State) :
    Host.Outcome State Fault Refusal :=
  .next (s.finish (if !(s.awake 27) then s else s.adcResult chan.val stamp.toNat len codeI.toNat codeV.toNat held))

/-- MEASUREMENT_WINDOW_CLOSE: the oldest measurement window of a channel closes (R322). -/
def execMeasurementWindowClose (chan : Chan) (s : State) : Host.Outcome State Fault Refusal :=
  .next (s.finish (if !(s.awake 27) then s else s.windowDone chan.val))

/-- GATE_EDGE: the next gate instant of a channel (R331). -/
def execGateEdge (chan : Chan) (s : State) : Host.Outcome State Fault Refusal :=
  .next (s.finish (if !(s.awake 27) then s else s.gateEdge chan.val))

/-- PROOF_AGE_EXPIRY: PROOF_AGE after the last passing proof (R335). -/
def execProofAgeExpiry (chan : Chan) (s : State) : Host.Outcome State Fault Refusal :=
  .next (s.finish (if !(s.awake 27) then s else s.proofAgeExpiry chan.val))

/-- COMMAND_TIMEOUT: CMD_TO courses without an image command (R326). -/
def execCommandTimeout (chan : Chan) (s : State) : Host.Outcome State Fault Refusal :=
  .next (s.finish (if !(s.awake 27) then s else s.commandTimeout chan.val))

/-- SETTLE_EXPIRY: SETTLE_MS after a gate change (R340). -/
def execSettleExpiry (chan : Chan) (s : State) : Host.Outcome State Fault Refusal :=
  .next (s.finish (if !(s.awake 27) then s else s.loadSettled chan.val))

/-- NO_MAINS_TIMEOUT: 100 ms without a valid mains crossing (R338). -/
def execNoMainsTimeout (chan : Chan) (s : State) : Host.Outcome State Fault Refusal :=
  .next (s.finish (if !(s.awake 27) then s else s.noMains chan.val))

/-- SLOW_TRIP: TRIP_MS of results at or above I_OVER (R341). -/
def execSlowTrip (chan : Chan) (s : State) : Host.Outcome State Fault Refusal :=
  .next (s.finish (if !(s.awake 27) then s else s.slowTrip chan.val))

/-- FEED_RETRY: RETRY_MS after a trip (R342). -/
def execFeedRetry (chan : Chan) (s : State) : Host.Outcome State Fault Refusal :=
  .next (s.finish (if !(s.awake 27) then s else s.feedRetry chan.val))

/-- RETRY_COUNT_CLEAR: CLR_S of active gate without a trip (R342). -/
def execRetryCountClear (chan : Chan) (s : State) : Host.Outcome State Fault Refusal :=
  .next (s.finish (if !(s.awake 27) then s else s.retryClear chan.val))

/-- LOAD_LEARN: LDS_CTRL.LEARN (R330). -/
def execLoadLearn (ifc : Ifc) (chan : Chan) (facts : WFacts) (s : State) : Host.Outcome State Fault Refusal :=
  .next (s.finish (s.cmdWrite ifc (F.LDS_CTRL_LEARN.addr (ldsIx chan.val)) [(F.LDS_CTRL_LEARN, 1)] facts))

/-- CLEAR_LOCK: LDS_CTRL.CLR_LOCK (R342). -/
def execClearLock (ifc : Ifc) (chan : Chan) (facts : WFacts) (s : State) : Host.Outcome State Fault Refusal :=
  .next (s.finish (s.cmdWrite ifc (F.LDS_CTRL_CLR_LOCK.addr (ldsIx chan.val)) [(F.LDS_CTRL_CLR_LOCK, 1)] facts))

/-- AUTOZERO: ADC_CMD.AUTOZERO (R320). -/
def execAutozero (ifc : Ifc) (pair : Chan) (facts : WFacts) (s : State) : Host.Outcome State Fault Refusal :=
  .next (s.finish (s.cmdWrite ifc (F.ADC_CMD_AUTOZERO.addr 0) [(F.ADC_CMD_PAIR, pair.val), (F.ADC_CMD_AUTOZERO, 1)] facts))

end Sys2Proof.Machine
end

