-- ==== Sys2Proof/Machine/Composition.lean ====
section
/-! DEFINITION. The meanings of the commands of setting-out, keys and line time. -/

namespace Sys2Proof.Machine

/-- COUPLING_CHANGE: CPL_A (0) or CPL_B (1) has been stable at a level for CPL_DEB (R115, R140); asleep the node only
keeps the level. -/
def execCouplingChange (port : Fin 2) (level : Bool) (s : State) : Host.Outcome State Fault Refusal :=
  .next (s.finish (if s.awake 8 then s.couplingChange port.val level else { s with so := { s.so with cpl := setBit s.so.cpl port.val level } }))

/-- CAB_ACTIVE_CHANGE: CAB_ACTIVE after its debounce (R130). -/
def execCabActiveChange (level : Bool) (s : State) : Host.Outcome State Fault Refusal :=
  .next (s.finish (if s.awake 8 then s.cabChange level else { s with so := { s.so with cab := level } }))

/-- SETOUT_START: SETO_CMD.START (R140). -/
def execSetoutStart (ifc : Ifc) (facts : WFacts) (s : State) : Host.Outcome State Fault Refusal :=
  .next (s.finish (s.cmdWrite ifc (F.SETO_CMD.addr 0) [(F.SETO_CMD, 1)] facts))

/-- SYNC_LOSS: three courses without a valid SYNC (R132); `beyond` tells that the break lies next to this node on the
side of the datum. -/
def execSyncLoss (beyond : Bool) (s : State) : Host.Outcome State Fault Refusal :=
  .next (s.finish (if !s.running then s else s.syncLoss beyond))

/-- REPORT_REPEAT_TIMEOUT: a REPORT unanswered for 3 courses is repeated (R117). -/
def execReportRepeatTimeout (s : State) : Host.Outcome State Fault Refusal :=
  .next (s.finish (if !s.running then s else s.reportRepeat))

/-- ORPHAN_TIMEOUT: an ORPHAN without REPORT and PLAN for 3 courses becomes ALONE (R140). -/
def execOrphanTimeout (s : State) : Host.Outcome State Fault Refusal :=
  .next (s.finish (if !s.running then s else s.orphanTimeout))

/-- JOINER_ADOPTION: a joiner adopts the survivor's line time at the commit boundary (R155). -/
def execJoinerAdoption (s : State) : Host.Outcome State Fault Refusal :=
  .next (s.finish (if !s.running then s else s.joinerAdoption))

/-- KEY_INSTALL: ADM_KEY3 written: the held 128-bit key is installed (R529). -/
def execKeyInstall (ifc : Ifc) (high : Reg) (facts : WFacts) (s : State) : Host.Outcome State Fault Refusal :=
  .next (s.finish (s.regWrite ifc 0x15114 high.toNat 15 facts))

/-- KEY_SELECT: ADM_KEYSEL written (R529). -/
def execKeySelect (ifc : Ifc) (slot : BitVec 2) (facts : WFacts) (s : State) : Host.Outcome State Fault Refusal :=
  .next (s.finish (s.cmdWrite ifc (F.ADM_KEYSEL.addr 0) [(F.ADM_KEYSEL, slot.toNat)] facts))

/-- KEY_ROLL: ADM_CMD.ROLL (R139). -/
def execKeyRoll (ifc : Ifc) (facts : WFacts) (s : State) : Host.Outcome State Fault Refusal :=
  .next (s.finish (s.cmdWrite ifc (F.ADM_CMD_ROLL.addr 0) [(F.ADM_CMD_ROLL, 1)] facts))

/-- KEY_CLEAR: ADM_CMD.CLEAR_KEY (R530). -/
def execKeyClear (ifc : Ifc) (facts : WFacts) (s : State) : Host.Outcome State Fault Refusal :=
  .next (s.finish (s.cmdWrite ifc (F.ADM_CMD_CLEAR_KEY.addr 0) [(F.ADM_CMD_CLEAR_KEY, 1)] facts))

/-- STRANGER_TABLE_CLEAR: ADM_CMD.STR_CLEAR (R137). -/
def execStrangerTableClear (ifc : Ifc) (facts : WFacts) (s : State) : Host.Outcome State Fault Refusal :=
  .next (s.finish (s.cmdWrite ifc (F.ADM_CMD_STR_CLEAR.addr 0) [(F.ADM_CMD_STR_CLEAR, 1)] facts))

/-- TIMING_EXCHANGE_START: the TIMING exchange at G (R148): on a Spaka-A segment X's frame names `dst`, and the member
named replies, as `turn` tells. -/
def execTimingExchangeStart (port : Port) (dst : BitVec 6) (turn : TimingTurn) (s : State) : Host.Outcome State Fault
    Refusal :=
  .next (s.finish (s.timingExchange port.val dst.toNat turn.reply turn.coll))

/-- LINE_TIME_SET: LINE_CMD.SET (R141). -/
def execLineTimeSet (ifc : Ifc) (facts : WFacts) (s : State) : Host.Outcome State Fault Refusal :=
  .next (s.finish (s.cmdWrite ifc (F.LINE_CMD_SET.addr 0) [(F.LINE_CMD_SET, 1)] facts))

/-- LINE_TIME_SNAP: LINE_CMD.SNAP (R142). -/
def execLineTimeSnap (ifc : Ifc) (facts : WFacts) (s : State) : Host.Outcome State Fault Refusal :=
  .next (s.finish (s.cmdWrite ifc (F.LINE_CMD_SNAP.addr 0) [(F.LINE_CMD_SNAP, 1)] facts))

/-- PTP_SYNC_TX: a Sync falls due on an LE port (R161). -/
def execPtpSyncTx (port : Port) (s : State) : Host.Outcome State Fault Refusal :=
  .next (s.finish (if !s.hostLive then s else s.ptpDue port.val false))

/-- PTP_ANNOUNCE_TX: an Announce falls due on an LE port (R161). -/
def execPtpAnnounceTx (port : Port) (s : State) : Host.Outcome State Fault Refusal :=
  .next (s.finish (if !s.hostLive then s else s.ptpDue port.val true))

/-- PPS_PULSE: PPS_OUT at a whole multiple of 10⁹ ns of line time (R506). -/
def execPpsPulse (s : State) : Host.Outcome State Fault Refusal :=
  .next (s.finish (s.ppsPulse))

end Sys2Proof.Machine
end

