-- ==== Sys2Proof/Machine/Engine.lean ====
section
/-! DEFINITION. The meanings of the commands of the Trowel. -/

namespace Sys2Proof.Machine

/-- WHEEL_WRAP: the wheel wraps (R189). -/
def execWheelWrap (s : State) : Host.Outcome State Fault Refusal :=
  .next (s.finish (if !(s.awake 8) || s.engineHeld then s else s.tieFlush.wheelWrap))

/-- WHEEL_APPLY: TRW_WHEEL_CMD.APPLY (R189). -/
def execWheelApply (ifc : Ifc) (facts : WFacts) (s : State) : Host.Outcome State Fault Refusal :=
  .next (s.finish (s.cmdWrite ifc (F.TRW_WHEEL_CMD.addr 0) [(F.TRW_WHEEL_CMD, 1)] facts))

/-- CONTEXT_RECLAIM: contexts that have aged are reclaimed (R198). -/
def execContextReclaim (s : State) : Host.Outcome State Fault Refusal :=
  .next (s.finish (if !(s.awake 8) || s.engineHeld then s else s.reclaim))

/-- QUEUE_DOORBELL: Q_IDX.TAIL of a queue written (R199). -/
def execQueueDoorbell (ifc : Ifc) (queue : Fin 128) (tail : Word) (facts : WFacts) (s : State) : Host.Outcome State
    Fault Refusal :=
  .next (s.finish (s.cmdWrite ifc (F.Q_IDX_TAIL.addr queue.val) [(F.Q_IDX_TAIL, tail.toNat)] facts))

/-- DESCRIPTOR_FETCH: the next descriptor of a transmit queue is taken (R196); `host` is what host memory answers,
descriptor and data. -/
def execDescriptorFetch (queue : Fin 128) (host : List Byte) (s : State) : Host.Outcome State Fault Refusal :=
  .next (s.finish (if !(s.awake 8) then s else s.fetchDesc queue.val (host.map BitVec.toNat)))

/-- QUEUE_DISABLE: Q_BASE_HI.EN of a queue written 0 (R204). -/
def execQueueDisable (ifc : Ifc) (queue : Fin 128) (facts : WFacts) (s : State) : Host.Outcome State Fault Refusal :=
  .next (s.finish (s.cmdWrite ifc (F.Q_BASE_HI_EN.addr queue.val) [(F.Q_BASE_HI_EN, 0)] facts))

/-- IMAGE_READY: TRW_IMG_READY written (R207). -/
def execImageReady (ifc : Ifc) (course : Reg) (facts : WFacts) (s : State) : Host.Outcome State Fault Refusal :=
  .next (s.finish (s.cmdWrite ifc (F.TRW_IMG_READY.addr 0) [(F.TRW_IMG_READY, course.toNat)] facts))

end Sys2Proof.Machine
end

