-- ==== Sys2Proof/Machine/Flash.lean ====
section
/-! DEFINITION. The meanings of the commands of the Vault. -/

namespace Sys2Proof.Machine

/-- VAULT_PROGRAM: VLT_CMD PROGRAM (R419). -/
def execVaultProgram (ifc : Ifc) (facts : WFacts) (s : State) : Host.Outcome State Fault Refusal :=
  .next (s.finish (s.cmdWrite ifc (F.VLT_CMD_START.addr 0) [(F.VLT_CMD_OP, 2), (F.VLT_CMD_START, 1)] facts))

/-- VAULT_ERASE: VLT_CMD ERASE (R419). -/
def execVaultErase (ifc : Ifc) (facts : WFacts) (s : State) : Host.Outcome State Fault Refusal :=
  .next (s.finish (s.cmdWrite ifc (F.VLT_CMD_START.addr 0) [(F.VLT_CMD_OP, 1), (F.VLT_CMD_START, 1)] facts))

/-- VAULT_ABORT: VLT_CMD.ABORT (R419). -/
def execVaultAbort (ifc : Ifc) (facts : WFacts) (s : State) : Host.Outcome State Fault Refusal :=
  .next (s.finish (s.cmdWrite ifc (F.VLT_CMD_ABORT.addr 0) [(F.VLT_CMD_ABORT, 1)] facts))

/-- BOOT_KEY: the key written to VLT_BOOT_KEY (R419). -/
def execBootKey (ifc : Ifc) (facts : WFacts) (s : State) : Host.Outcome State Fault Refusal :=
  .next (s.finish (s.cmdWrite ifc (F.VLT_BOOT_KEY.addr 0) [(F.VLT_BOOT_KEY, 0xB007)] facts))

/-- BOOT_KEY_WINDOW_EXPIRY: 1 ms after the BOOT key (R419). -/
def execBootKeyWindowExpiry (s : State) : Host.Outcome State Fault Refusal :=
  .next (s.finish (s.bootKeyEnds))

/-- VAULT_PROGRAM_OP_DONE: a program operation ends after its pulses and verify (R410). -/
def execVaultProgramOpDone (pulses : Nat) (verify : Verify) (s : State) : Host.Outcome State Fault Refusal :=
  .next (s.finish (if !(s.answers 31 6) then s else (s.programDone pulses verify).vaultRests))

/-- VAULT_ERASE_PULSE_DONE: an erase pulse and its verify end, Tj in 0.1 °C (R411). -/
def execVaultErasePulseDone (tj : Int) (erased : Bool) (s : State) : Host.Outcome State Fault Refusal :=
  .next (s.finish (if !(s.answers 31 6) then s else (s.erasePulse tj erased).vaultRests))

/-- VAULT_RETIREMENT_DONE: a retirement finishes (R416): spares retired on the way, words copied as stored. -/
def execVaultRetirementDone (bad : Nat) (ue : Nat) (s : State) : Host.Outcome State Fault Refusal :=
  .next (s.finish (if !(s.answers 31 6) then s else (s.retirementDone bad ue).vaultRests))

end Sys2Proof.Machine
end

