-- ==== Sys2Proof/Machine/Guard.lean ====
section
/-! DEFINITION. The meanings of the commands of the Lintels and the Keystone. -/

namespace Sys2Proof.Machine

/-- LINTEL_MAP_LOAD: the Trowel loads the shadow bank of a port's Lintel; `agree` tells whether the CRCs do (R165). -/
def execLintelMapLoad (port : Port) (agree : Bool) (s : State) : Host.Outcome State Fault Refusal :=
  .next (s.finish (if !(s.awake 8) || !(s.awake port.val) then s else s.loadMap s.preview port.val agree))

/-- MAP_CRC_REFRESH: the Trowel sends the active map's CRC before G (R166). -/
def execMapCrcRefresh (port : Port) (agree : Bool) (s : State) : Host.Outcome State Fault Refusal :=
  .next (s.finish (if !(s.awake 8) || !(s.awake port.val) then s else s.refreshCrc port.val agree))

/-- ORIGINATE_WINDOW_CLOSE: a window of the Lintel closes (R170). -/
def execOriginateWindowClose (port : Port) (slot : Fin 1024) (s : State) : Host.Outcome State Fault Refusal :=
  .next (s.finish (if !(s.awake port.val) then s else s.windowClose port.val slot.val))

/-- KILL_ASSERT: ARB_KILL_N low for `low` ns; `taken` tells what the filter makes of a pulse between 10 ns and 30 ns
(R172). -/
def execKillAssert (low : Nat) (taken : Bool) (s : State) : Host.Outcome State Fault Refusal :=
  .next (s.finish (s.killPulse low taken))

/-- KILL_RELEASE: ARB_KILL_N high for 1 µs (R173). -/
def execKillRelease (s : State) : Host.Outcome State Fault Refusal :=
  .next (s.finish (s.killEnds))

/-- BABBLE_DETECT: carrier in [G + w, B), or longer than 760 words (R174). -/
def execBabbleDetect (port : Port) (s : State) : Host.Outcome State Fault Refusal :=
  .next (s.finish (if !(s.awake port.val) then s else s.babble port.val))

/-- OWN_CARRIER_DETECT: carrier inside an originate window of the own position while the Lintel passed nothing (R174,
R236). -/
def execOwnCarrierDetect (port : Port) (slot : Fin 1024) (s : State) : Host.Outcome State Fault Refusal :=
  .next (s.finish (if !(s.awake port.val) then s else s.ownCarrier port.val slot.val))

/-- BRANCH_VIOLATION: a violation on a branch port (R181); slot 0x3FF and SRC 0 for carrier. -/
def execBranchViolation (port : Port) (slot : Fin 1024) (src : BitVec 6) (s : State) : Host.Outcome State Fault
    Refusal :=
  .next (s.finish (if !(s.awake port.val) then s else s.branchViolation port.val slot.val src.toNat))

/-- BRANCH_REINSTATE: a cut branch whose clean courses have reached CLEAN_N (R182). -/
def execBranchReinstate (port : Port) (s : State) : Host.Outcome State Fault Refusal :=
  .next (s.finish (if !(s.awake port.val) then s else s.reinstateDue port.val))

/-- BRANCH_CUT_COMMAND: HUB_CMD.CUT (R182). -/
def execBranchCutCommand (ifc : Ifc) (mask : BitVec 8) (facts : WFacts) (s : State) : Host.Outcome State Fault Refusal
    :=
  .next (s.finish (s.cmdWrite ifc (F.HUB_CMD_CUT.addr 0) [(F.HUB_CMD_CUT, mask.toNat)] facts))

/-- BRANCH_REINSTATE_COMMAND: HUB_CMD.REINSTATE (R182). -/
def execBranchReinstateCommand (ifc : Ifc) (mask : BitVec 8) (facts : WFacts) (s : State) : Host.Outcome State Fault
    Refusal :=
  .next (s.finish (s.cmdWrite ifc (F.HUB_CMD_REINSTATE.addr 0) [(F.HUB_CMD_REINSTATE, mask.toNat)] facts))

end Sys2Proof.Machine
end

