-- ==== Sys2Proof/Machine/Islands.lean ====
section
/-! DEFINITION. The meanings of the commands of held transfers and PLLs. -/

namespace Sys2Proof.Machine

/-- HELD_TRANSFER_DELIVERY: a held transfer is delivered once nothing holds it (R24). -/
def execHeldTransferDelivery (s : State) : Host.Outcome State Fault Refusal :=
  .next (s.finish (s.deliverOne))

/-- PLL_LOCK_LOSS: a PLL loses lock (R42): 0 to 7 PLL_SP, 8 TRW, 9 QRY, 10 TIE, 11 HST, 12 LDM. In SLUMBER and below the
PLLs have stopped (R432 step 8). Writes staged for an island that halts are discarded (R65). -/
def execPllLockLoss (pll : Fin 13) (s : State) : Host.Outcome State Fault Refusal :=
  .next (s.finish (if !(s.answers 29 3) || 3 ≤ s.power then s else (s.pllLost pll.val).dropStaged))

/-- PLL_RELOCK: a halted PLL locks again (R153). -/
def execPllRelock (pll : Fin 13) (s : State) : Host.Outcome State Fault Refusal :=
  .next (s.finish (if !(s.answers 29 8) then s else s.pllBack pll.val))

end Sys2Proof.Machine
end

