-- ==== Sys2Proof/Machine/Ladder.lean ====
section
/-! DEFINITION. The meanings of the commands of the power ladder and network sleep. -/

namespace Sys2Proof.Machine

/-- POWER_STATE_ENTER: PWR_CMD.GO with a target below RUN (R427). -/
def execPowerStateEnter (ifc : Ifc) (target : BitVec 3) (facts : WFacts) (s : State) : Host.Outcome State Fault
    Refusal :=
  .next (s.finish (s.cmdWrite ifc (F.PWR_CMD_GO.addr 0) [(F.PWR_CMD_TARGET, target.toNat), (F.PWR_CMD_GO, 1)] facts))

/-- ENTRY_COMPLETE: the entry sequence ends, `took` ns after the decision (R432). -/
def execEntryComplete (took : Nat) (s : State) : Host.Outcome State Fault Refusal :=
  .next (s.finish (s.entryComplete took))

/-- HOST_WAKE: PWR_CMD.GO with TARGET 0 (R440). -/
def execHostWake (ifc : Ifc) (facts : WFacts) (s : State) : Host.Outcome State Fault Refusal :=
  .next (s.finish (s.cmdWrite ifc (F.PWR_CMD_GO.addr 0) [(F.PWR_CMD_TARGET, 0), (F.PWR_CMD_GO, 1)] facts))

/-- HOST_WAKE_PIN: HOST_WAKE_N low for 1 µs (R440). -/
def execHostWakePin (s : State) : Host.Outcome State Fault Refusal :=
  .next (s.finish (if s.isl.started < 8 then s else s.hostWakePin))

/-- WAKE_SWITCH: a WAKE_SW input stable at a level for 10 ms (R440). -/
def execWakeSwitch (switch : Fin 4) (level : Bool) (s : State) : Host.Outcome State Fault Refusal :=
  .next (s.finish (if s.isl.started < 8 then s else s.wakeSwitch switch.val level))

/-- LINE_WAKE: the wake watcher of a port detects its pattern (R441). -/
def execLineWake (port : Port) (s : State) : Host.Outcome State Fault Refusal :=
  .next (s.finish (if s.isl.started < 8 || s.islandAsleep 29 then s else s.lineWake port.val))

/-- EXIT_COMPLETE: the exit sequence ends, `took` ns after the wake (R434). -/
def execExitComplete (took : Nat) (s : State) : Host.Outcome State Fault Refusal :=
  .next (s.finish (s.exitComplete took))

/-- SLEEP_UNANIMITY_REACHED: the datum's count of unanimous courses has reached 8 (R437). -/
def execSleepUnanimityReached (s : State) : Host.Outcome State Fault Refusal :=
  .next (s.finish (if !s.running then s else s.sleepUnanimous))

/-- NETWORK_SLEEP_STOP: the announced stop course begins (R439). -/
def execNetworkSleepStop (s : State) : Host.Outcome State Fault Refusal :=
  .next (s.finish (if !(s.awake 8) then s else s.networkStop))

/-- WAKE_FRAME_TX: a WAKE frame of the WAKING phase (R442). -/
def execWakeFrameTx (port : Port) (s : State) : Host.Outcome State Fault Refusal :=
  .next (s.finish (if !(s.awake port.val) || !(s.awake 8) then s else s.wakeFrame port.val))

/-- WAKING_END: WAKING_MS after a network wake (R442). -/
def execWakingEnd (s : State) : Host.Outcome State Fault Refusal :=
  .next (s.finish (if s.islandAsleep 29 then s else s.wakingEnd))

/-- WAKE_CONFIRM_EXPIRY: no valid frame within WAKE_CONFIRM of a line wake (R443). -/
def execWakeConfirmExpiry (s : State) : Host.Outcome State Fault Refusal :=
  .next (s.finish (if s.islandAsleep 29 then s else s.confirmExpiry))

/-- BACKOFF_END: BACKOFF_S have passed (R444). -/
def execBackoffEnd (s : State) : Host.Outcome State Fault Refusal :=
  .next (s.finish (if s.islandAsleep 29 then s else s.backoffEnd))

/-- FALSE_WAKE_WINDOW_CLOSE: the 3,600 s window closes (R444). -/
def execFalseWakeWindowClose (s : State) : Host.Outcome State Fault Refusal :=
  .next (s.finish (if s.islandAsleep 29 then s else s.windowEnd))

/-- PHY_FAILSAFE: a PHY watchdog acts (R445): 500 ms without wake acknowledgement, or 2 s without a passed frame. -/
def execPhyFailsafe (port : Port) (ack : Bool) (s : State) : Host.Outcome State Fault Refusal :=
  .next (s.finish (if s.isl.started < 8 || s.islandAsleep 29 then s else s.phyFailsafe port.val ack))

end Sys2Proof.Machine
end

