-- ==== Sys2Proof/Machine/Line.lean ====
section
/-! DEFINITION. The meanings of the commands of the Spaka line: courses, slots, frames, links, schedules and claims. -/

namespace Sys2Proof.Machine

/-- COURSE_BOUNDARY: line time reaches the start of the next course (R33). -/
def execCourseBoundary (s : State) : Host.Outcome State Fault Refusal :=
  .next (s.finish (s.courseBoundary))

/-- SLOT_TRANSMIT: the start of a slot by the own line time (R83). `rival` is the lowest other UID that counts down in
a contended slot on Spaka-A, `coll` the Spaka-A ports on which read-back finds a mismatch (R69). -/
def execSlotTransmit (slot : Fin 1024) (rival : Option (BitVec 48)) (coll : BitVec 8) (s : State) : Host.Outcome State
    Fault Refusal :=
  .next (s.finish (s.slotTransmit slot.val ((rival.map BitVec.toNat).getD (2 ^ 48)) coll.toNat))

/-- TX_CONTEXT_BIND: the context of an own slot is bound at TRW_TX_LEAD before it starts (R205); `held` tells that a
slice held the transfer. -/
def execTxContextBind (slot : Fin 1024) (held : Bool) (s : State) : Host.Outcome State Fault Refusal :=
  .next (s.finish (if !s.running then s else s.bindSlot slot.val held))

/-- FRAME_RECEIVE: a Spaka frame has arrived whole on a port (R97): the line time of its W0, its words, whether it met
a wheel short of fast entries, the receive descriptor a host queue in host memory would hold, and what the PHY noted.
-/
def execFrameReceive (port : Port) (stamp : DWord) (words : Frame) (short : Bool) (desc : List Byte) (phy : RxPhy) (s
    : State) : Host.Outcome State Fault Refusal :=
  .next (s.finish ((s.rxPhy port.val phy).frameArrives port.val stamp.toNat (words.map BitVec.toNat) short (desc.map BitVec.toNat)
    phy.coll))

/-- MSG_REASSEMBLY_TIMEOUT: partial messages 16 courses old are discarded (R100). -/
def execMsgReassemblyTimeout (s : State) : Host.Outcome State Fault Refusal :=
  .next (s.finish (if !(s.awake 8) then s else s.reassemblyTimeout))

/-- LINK_ATTEMPT: a link attempt begins (R74). -/
def execLinkAttempt (port : Port) (s : State) : Host.Outcome State Fault Refusal :=
  .next (s.finish (s.linkAttempt port.val))

/-- LINK_UP: the PHY reports link (R75); generation and role are those a listening twin reports (R526). -/
def execLinkUp (port : Port) (gen : BitVec 2) (master : Bool) (s : State) : Host.Outcome State Fault Refusal :=
  .next (s.finish (s.phyLinkUp port.val gen.toNat master))

/-- LINK_DOWN: the PHY reports the loss of its link (R75). -/
def execLinkDown (port : Port) (s : State) : Host.Outcome State Fault Refusal :=
  .next (s.finish (s.phyLinkDown port.val))

/-- SPAKA_A_LINK_EXPIRY: 30 ms without a frame that passes HCHK (R71). -/
def execSpakaALinkExpiry (port : Port) (s : State) : Host.Outcome State Fault Refusal :=
  .next (s.finish (if !(s.awake port.val) then s else s.spakaAExpiry port.val))

/-- SPK_CFG_WRITE: SPK_CFG of a port written (R525). -/
def execSpkCfgWrite (ifc : Ifc) (port : Port) (value : Reg) (facts : WFacts) (s : State) : Host.Outcome State Fault
    Refusal :=
  .next (s.finish (s.regWrite ifc (F.SPK_CFG_GEN.addr port.val) value.toNat 15 facts))

/-- PMA_TEST_MODE: SPK_TEST.MODE of a port written (R524). -/
def execPmaTestMode (ifc : Ifc) (port : Port) (mode : BitVec 4) (facts : WFacts) (s : State) : Host.Outcome State
    Fault Refusal :=
  .next (s.finish (s.cmdWrite ifc (F.SPK_TEST.addr port.val) [(F.SPK_TEST, mode.toNat)] facts))

/-- SCHEDULE_LOAD: SCHD_CMD.LOAD (R106). -/
def execScheduleLoad (ifc : Ifc) (facts : WFacts) (s : State) : Host.Outcome State Fault Refusal :=
  .next (s.finish (s.cmdWrite ifc (F.SCHD_CMD_LOAD.addr 0) [(F.SCHD_CMD_LOAD, 1)] facts))

/-- SCHEDULE_VALIDATION_DONE: validation of an image ends (R528). -/
def execScheduleValidationDone (s : State) : Host.Outcome State Fault Refusal :=
  .next (s.finish (if !(s.awake 8) then s else s.validationDone))

/-- SCHEDULE_DISCARD: SCHD_CMD.DISCARD (R107). -/
def execScheduleDiscard (ifc : Ifc) (facts : WFacts) (s : State) : Host.Outcome State Fault Refusal :=
  .next (s.finish (s.cmdWrite ifc (F.SCHD_CMD_DISCARD.addr 0) [(F.SCHD_CMD_DISCARD, 1)] facts))

/-- CLAIM_START: SCHD_CLAIM_CMD.CLAIM (R88). -/
def execClaimStart (ifc : Ifc) (facts : WFacts) (s : State) : Host.Outcome State Fault Refusal :=
  .next (s.finish (s.cmdWrite ifc (F.SCHD_CLAIM_CMD_CLAIM.addr 0) [(F.SCHD_CLAIM_CMD_CLAIM, 1)] facts))

/-- CLAIM_RELEASE: SCHD_CLAIM_CMD.RELEASE (R90). -/
def execClaimRelease (ifc : Ifc) (facts : WFacts) (s : State) : Host.Outcome State Fault Refusal :=
  .next (s.finish (s.cmdWrite ifc (F.SCHD_CLAIM_CMD_RELEASE.addr 0) [(F.SCHD_CLAIM_CMD_RELEASE, 1)] facts))

end Sys2Proof.Machine
end

