-- ==== Sys2Proof/Machine/LocalPorts.lean ====
section
/-! DEFINITION. The meanings of the commands of the local ports. -/

namespace Sys2Proof.Machine

/-- ETH_FRAME_RECEIVE: an Ethernet frame with its FCS has arrived (R217): its stamp in line time, whether a code error
spoilt it, whether it met a wheel short of entries (R189), and a receive descriptor in host memory. -/
def execEthFrameReceive (port : Port) (stamp : DWord) (frame : List Byte) (code short : Bool) (desc : List Byte) (s : State) :
    Host.Outcome State Fault Refusal :=
  .next (s.finish (if !s.hostLive then s else s.ethReceive port.val stamp.toNat (frame.map BitVec.toNat) code short (desc.map BitVec.toNat)))

/-- CAN_FRAME_RECEIVE: a CAN frame has arrived (R217); `rx` tells whether CRC and form passed, `short` whether it met
a wheel short of entries (R189). -/
def execCanFrameReceive (port : CanPort) (stamp : DWord) (frame : CanFrame) (rx : CanRx) (short : Bool) (desc : List Byte) (s : State) :
    Host.Outcome State Fault Refusal :=
  .next (s.finish (if !s.hostLive then s else s.canReceive port.val stamp.toNat frame rx short (desc.map BitVec.toNat)))

/-- ETH_LINK_CHANGE: LE_LOS, PCS synchronisation and auto-negotiation of an LE port (R213). -/
def execEthLinkChange (port : Port) (los : Bool) (sync : Bool) (an : Bool) (s : State) : Host.Outcome State Fault
    Refusal :=
  .next (s.finish (if !s.hostLive then s else s.ethLink port.val los sync an))

/-- ETH_TRANSMIT: an LE port sends its next frame (R225). -/
def execEthTransmit (port : Port) (s : State) : Host.Outcome State Fault Refusal :=
  .next (s.finish (if !s.hostLive then s else s.ethTransmit port.val))

/-- PAUSE_EXPIRY: the quanta of a PAUSE run out (R225). -/
def execPauseExpiry (port : Port) (s : State) : Host.Outcome State Fault Refusal :=
  .next (s.finish (if !s.hostLive then s else s.pauseExpiry port.val))

/-- CAN_TRANSMIT: an LC port sends its head frame, and how that ends (R226). -/
def execCanTransmit (port : CanPort) (stamp : DWord) (ending : CanEnd) (s : State) : Host.Outcome State Fault Refusal
    :=
  .next (s.finish (if !s.hostLive then s else s.canTransmit port.val stamp.toNat ending))

/-- CAN_BUS_OFF_RECOVERY: 128 occurrences of 11 recessive bits have passed (R228). -/
def execCanBusOffRecovery (port : CanPort) (s : State) : Host.Outcome State Fault Refusal :=
  .next (s.finish (if !s.hostLive then s else s.canRecovered port.val))

/-- CAN_RECOVER_COMMAND: LC_P_CMD.RECOVER (R228). -/
def execCanRecoverCommand (ifc : Ifc) (port : CanPort) (facts : WFacts) (s : State) : Host.Outcome State Fault Refusal
    :=
  .next (s.finish (s.cmdWrite ifc (F.LC_P_CMD.addr port.val) [(F.LC_P_CMD, 1)] facts))

/-- LOCAL_PORT_DISABLE: CFG.EN of an LE port (0 to 7) or of an LC port (8 to 11) written 0 (R227). -/
def execLocalPortDisable (ifc : Ifc) (port : Fin 12) (facts : WFacts) (s : State) : Host.Outcome State Fault Refusal
    :=
  .next (s.finish (
    if port.val < 8 then s.cmdWrite ifc (F.LETH_P_CFG_EN.addr port.val) [(F.LETH_P_CFG_EN, 0)] facts
    else s.cmdWrite ifc (F.LC_P_CFG_EN.addr (port.val - 8)) [(F.LC_P_CFG_EN, 0)] facts))

end Sys2Proof.Machine
end

