-- ==== Sys2Proof/Machine/Package.lean ====
section
/-! DEFINITION. The meanings of the commands of the temperature sensor and the test access port. -/

namespace Sys2Proof.Machine

/-- THERMAL_ALERT: a reading of the Tj sensor in 0.1 °C (R506). -/
def execThermalAlert (tj : Int) (s : State) : Host.Outcome State Fault Refusal :=
  .next (s.finish (if !s.pins.main then s else s.thermal tj))

/-- TAP_RESET: TRST_N low: Test-Logic-Reset, in which IDCODE is selected (R521). -/
def execTapReset (s : State) : Host.Outcome State Fault Refusal :=
  .next (s.finish (s.tapLoad 1 idcode))

/-- TAP_BYPASS: BYPASS (R521). -/
def execTapBypass (s : State) : Host.Outcome State Fault Refusal :=
  .next (s.finish (s.tapLoad 0 0))

/-- TAP_IDCODE: IDCODE (R521). -/
def execTapIdcode (s : State) : Host.Outcome State Fault Refusal :=
  .next (s.finish (s.tapLoad 1 idcode))

/-- TAP_SAMPLE_PRELOAD: SAMPLE/PRELOAD: the levels of the covered pins, and what is shifted in (R521). -/
def execTapSamplePreload (pins : Nat) (shifted : Option Nat) (s : State) : Host.Outcome State Fault Refusal :=
  .next (s.finish (s.tapSample pins shifted))

/-- TAP_EXTEST: EXTEST (R521). -/
def execTapExtest (s : State) : Host.Outcome State Fault Refusal :=
  .next (s.finish (s.tapLoad 3 s.tap.boundary))

/-- TAP_CLAMP: CLAMP (R521). -/
def execTapClamp (s : State) : Host.Outcome State Fault Refusal :=
  .next (s.finish (s.tapLoad 4 0))

/-- TAP_HIGHZ: HIGHZ (R521). -/
def execTapHighz (s : State) : Host.Outcome State Fault Refusal :=
  .next (s.finish (s.tapLoad 5 0))

end Sys2Proof.Machine
end

