-- ==== Sys2Proof/Machine/Pages.lean ====
section
/-! DEFINITION. The meanings of the commands of register writes and reads, page commands, and the kinds of start. -/

namespace Sys2Proof.Machine

/-- REGISTER_WRITE: a host write (R44 to R65) of the aligned register at BAR0 address `addr`. -/
def execRegisterWrite (ifc : Ifc) (addr : BitVec 18) (value : Reg) (be : BitVec 4) (facts : WFacts) (s : State) :
    Host.Outcome State Fault Refusal :=
  .next (s.finish (s.regWrite ifc addr.toNat value.toNat be.toNat facts))

/-- HELD_PART_WRITE: a write to a lower part of a value that spans registers, held for its interface (R60). -/
def execHeldPartWrite (ifc : Ifc) (addr : BitVec 18) (value : Reg) (be : BitVec 4) (facts : WFacts) (s : State) :
    Host.Outcome State Fault Refusal :=
  .next (s.finish (s.regWrite ifc addr.toNat value.toNat be.toNat facts))

/-- LO_PART_READ_LATCH: a read of the least significant register of a value, which latches the other parts for its
interface (R60). -/
def execLoPartReadLatch (ifc : Ifc) (addr : BitVec 18) (facts : WFacts) (s : State) : Host.Outcome State Fault Refusal
    :=
  .next (s.finish (s.regRead ifc addr.toNat facts))

/-- RTC_NOW_SUB_READ: a read of RTC_NOW_SUB, which latches the count and both calendar registers as one instant
(R377). -/
def execRtcNowSubRead (ifc : Ifc) (facts : WFacts) (s : State) : Host.Outcome State Fault Refusal :=
  .next (s.finish (s.regRead ifc 0x32100 facts))

/-- SOFT_RESET: PG_CTRL.SRST of a page written 1 (R49). -/
def execSoftReset (ifc : Ifc) (page : Page) (facts : WFacts) (s : State) : Host.Outcome State Fault Refusal :=
  .next (s.finish (s.cmdWrite ifc (F.PG_CTRL_SRST.addr page.val) [(F.PG_CTRL_SRST, 1)] facts))

/-- SOFT_RESET_DONE: the soft reset of a page completes, `took` ns after it began and no later than 10 µs (R49). -/
def execSoftResetDone (page : Page) (took : Nat) (facts : WFacts) (s : State) : Host.Outcome State Fault Refusal :=
  .next (s.finish (s.softResetDone page.val took facts))

/-- PAGE_ENABLE: PG_CTRL.EN of a page written (R48). -/
def execPageEnable (ifc : Ifc) (page : Page) (on : Bool) (facts : WFacts) (s : State) : Host.Outcome State Fault
    Refusal :=
  .next (s.finish (s.cmdWrite ifc (F.PG_CTRL_EN.addr page.val) [(F.PG_CTRL_EN, on.toNat)] facts))

/-- PAGE_FREEZE: PG_CTRL.FREEZE of a page written (R50). -/
def execPageFreeze (ifc : Ifc) (page : Page) (on : Bool) (facts : WFacts) (s : State) : Host.Outcome State Fault
    Refusal :=
  .next (s.finish (s.cmdWrite ifc (F.PG_CTRL_FREEZE.addr page.val) [(F.PG_CTRL_FREEZE, on.toNat)] facts))

/-- PAGE_LOCK: PG_LOCK of a page written 1 (R51). -/
def execPageLock (ifc : Ifc) (page : Page) (facts : WFacts) (s : State) : Host.Outcome State Fault Refusal :=
  .next (s.finish (s.cmdWrite ifc (F.PG_LOCK.addr page.val) [(F.PG_LOCK, 1)] facts))

/-- CLAMP_REPORT_CLEAR: PG_CLAMP.VALID of a page written 1 (R58). -/
def execClampReportClear (ifc : Ifc) (page : Page) (facts : WFacts) (s : State) : Host.Outcome State Fault Refusal :=
  .next (s.finish (s.cmdWrite ifc (F.PG_CLAMP_VALID.addr page.val) [(F.PG_CLAMP_VALID, 1)] facts))

/-- SOFTWARE_RESET: the key written to TOP_SWRST (R463). -/
def execSoftwareReset (ifc : Ifc) (facts : WFacts) (s : State) : Host.Outcome State Fault Refusal :=
  .next (s.finish (s.cmdWrite ifc (F.TOP_SWRST.addr 0) [(F.TOP_SWRST, 0xA55A)] facts))

/-- RESET_PIN: RST_N low for `low` ns: a pulse shorter than 1 µs is ignored (R463). -/
def execResetPin (low : Nat) (facts : StartFacts) (s : State) : Host.Outcome State Fault Refusal :=
  .next (s.finish (if low < 1000 then s.elapse low else (s.elapse 1000).nodeReset facts 1))

/-- POWER_ON: power good and a full start (R462): what it meets, the fuses of the part, and what the canary reads. -/
def execPowerOn (facts : StartFacts) (fuses : Fuses) (canary : Reg) (s : State) : Host.Outcome State Fault Refusal :=
  .next (s.finish (s.powerOn facts fuses canary.toNat))

end Sys2Proof.Machine
end

