-- ==== Sys2Proof/Machine/Pair.lean ====
section
/-! DEFINITION. The meanings of the commands of twins and arbiter. -/

namespace Sys2Proof.Machine

/-- ARB_ROLE_CHANGE: ARB_ROLE stable at a new level for 1 µs (R233). -/
def execArbRoleChange (level : BitVec 2) (s : State) : Host.Outcome State Fault Refusal :=
  .next (s.finish (if s.isl.started < 8 || s.dumping then s else s.roleLevel level.toNat))

/-- ARB_FENCED_CHANGE: ARB_FENCED stable at a new level for 1 µs (R235). -/
def execArbFencedChange (level : Bool) (s : State) : Host.Outcome State Fault Refusal :=
  .next (s.finish (if s.isl.started < 8 || s.dumping then s else s.fencedLevel level))

/-- TIE_LANE_LOCK: a Tie lane locks (R242). -/
def execTieLaneLock (lane : Fin 2) (aligned : Bool) (skew : BitVec 8) (s : State) : Host.Outcome State Fault Refusal
    :=
  .next (s.finish (if !(s.awake 25) then s else s.tieLock lane.val aligned skew.toNat))

/-- TIE_LANE_LOSS: a Tie lane is lost after `bad` invalid headers (R242). -/
def execTieLaneLoss (lane : Fin 2) (bad : Nat) (s : State) : Host.Outcome State Fault Refusal :=
  .next (s.finish (if !(s.awake 25) then s else s.tieLoss lane.val bad))

/-- TIE_RECORD_RX: a REC frame has arrived (R248); line times of its first and last word. -/
def execTieRecordRx (bytes : List Byte) (start : DWord) (stop : DWord) (s : State) : Host.Outcome State Fault Refusal
    :=
  .next (s.finish (if !(s.awake 25) then s else s.recordRx (bytes.map BitVec.toNat) start.toNat stop.toNat))

/-- TIE_HEALTH_RX: a HEALTH frame has arrived (R265). -/
def execTieHealthRx (bytes : List Byte) (s : State) : Host.Outcome State Fault Refusal :=
  .next (s.finish (if !(s.awake 25) then s else s.healthRx (bytes.map BitVec.toNat)))

/-- TIE_ACK_RX: an ACK frame has arrived (R262). -/
def execTieAckRx (bytes : List Byte) (stamp : DWord) (s : State) : Host.Outcome State Fault Refusal :=
  .next (s.finish (if !(s.awake 25) then s else s.ackRx (bytes.map BitVec.toNat) stamp.toNat))

/-- TIE_COMMIT_RX: a COMMIT frame has arrived (R262). -/
def execTieCommitRx (bytes : List Byte) (stamp : DWord) (s : State) : Host.Outcome State Fault Refusal :=
  .next (s.finish (if !(s.awake 25) then s else s.commitRx (bytes.map BitVec.toNat) stamp.toNat))

/-- PLUMB_SILENT_SLOT: the horizon of an own slot passes without carrier (R252). -/
def execPlumbSilentSlot (slot : Fin 1024) (s : State) : Host.Outcome State Fault Refusal :=
  .next (s.finish (if !s.running then s else s.plumbSilent slot.val))

/-- ARBITER_EVIDENCE_HORIZON: a horizon of new evidence (R257). -/
def execArbiterEvidenceHorizon (evidence : Evidence) (s : State) : Host.Outcome State Fault Refusal :=
  .next (s.finish (if !(s.awake 25) || !(s.awake 8) then s else s.arbEvidence evidence))

/-- ARB_CMD_FAILOVER: TWIN_ARB_CMD.FAILOVER (R259). -/
def execArbCmdFailover (ifc : Ifc) (facts : WFacts) (s : State) : Host.Outcome State Fault Refusal :=
  .next (s.finish (s.cmdWrite ifc (F.TWIN_ARB_CMD_FAILOVER.addr 0) [(F.TWIN_ARB_CMD_FAILOVER, 1)] facts))

/-- ARB_CMD_SWAP: TWIN_ARB_CMD.SWAP (R263). -/
def execArbCmdSwap (ifc : Ifc) (facts : WFacts) (s : State) : Host.Outcome State Fault Refusal :=
  .next (s.finish (s.cmdWrite ifc (F.TWIN_ARB_CMD_SWAP.addr 0) [(F.TWIN_ARB_CMD_SWAP, 1)] facts))

/-- ARB_CMD_RESTORE: TWIN_ARB_CMD.RESTORE (R259). -/
def execArbCmdRestore (ifc : Ifc) (mask : BitVec 2) (facts : WFacts) (s : State) : Host.Outcome State Fault Refusal :=
  .next (s.finish (s.cmdWrite ifc (F.TWIN_ARB_CMD_RESTORE.addr 0) [(F.TWIN_ARB_CMD_RESTORE, mask.toNat)] facts))

/-- ARB_CMD_OUT: TWIN_ARB_CMD.OUT (R259). -/
def execArbCmdOut (ifc : Ifc) (mask : BitVec 2) (facts : WFacts) (s : State) : Host.Outcome State Fault Refusal :=
  .next (s.finish (s.cmdWrite ifc (F.TWIN_ARB_CMD_OUT.addr 0) [(F.TWIN_ARB_CMD_OUT, mask.toNat)] facts))

/-- PERIODIC_SWAP: SWAP_H hours have passed since the last swap (R264). -/
def execPeriodicSwap (s : State) : Host.Outcome State Fault Refusal :=
  .next (s.finish (if !(s.awake 25) || !(s.awake 8) then s else s.periodicSwap))

end Sys2Proof.Machine
end

