-- ==== Sys2Proof/Machine/Recorder.lean ====
section
/-! DEFINITION. The meanings of the commands of the Mark Store. -/

namespace Sys2Proof.Machine

/-- MARK_RAISE: a block raises a mark (R403): its code and the bytes that follow the RTC in its payload. -/
def execMarkRaise (code : BitVec 12) (bytes : List Byte) (deferred : Bool) (s : State) : Host.Outcome State Fault
    Refusal :=
  .next (s.finish (if s.islandAsleep 29 then s else s.mark code.toNat (bytes.map BitVec.toNat) deferred))

/-- MARK_RECORD: the recorder takes the next queued mark (R401). -/
def execMarkRecord (s : State) : Host.Outcome State Fault Refusal :=
  .next (s.finish (if !(s.answers 31 8) then s else s.recordNext))

/-- SUPPRESSED_RECORD: the first RTC second boundary after a suppression or a drop (R403). -/
def execSuppressedRecord (s : State) : Host.Outcome State Fault Refusal :=
  .next (s.finish (if !(s.answers 31 8) then s else (s.elapse (s.untilRtc (s.clk.sec + 1))).suppressedRecord))

/-- MARK_MIRROR: the mover takes the next record to the mirror (R405). -/
def execMarkMirror (s : State) : Host.Outcome State Fault Refusal :=
  .next (s.finish (if !(s.answers 31 8) then s else s.mirrorNext))

/-- MARK_CLEAR: MARK_CLEAR with the key (R406). -/
def execMarkClear (ifc : Ifc) (part : BitVec 2) (facts : WFacts) (s : State) : Host.Outcome State Fault Refusal :=
  .next (s.finish (s.cmdWrite ifc (F.MARK_CLEAR_KEY.addr 0) [(F.MARK_CLEAR_KEY, 0xC1EA), (F.MARK_CLEAR_PART, part.toNat)] facts))

/-- HOST_MARK: MARK_HOST_CMD written (R407). -/
def execHostMark (ifc : Ifc) (code : BitVec 12) (len : BitVec 5) (facts : WFacts) (s : State) : Host.Outcome State
    Fault Refusal :=
  .next (s.finish (s.cmdWrite ifc (F.MARK_HOST_CMD_TYPE.addr 0) [(F.MARK_HOST_CMD_TYPE, code.toNat), (F.MARK_HOST_CMD_LEN, len.toNat)] facts))

end Sys2Proof.Machine
end

