-- ==== Sys2Proof/Machine/Rubble.lean ====
section
/-! DEFINITION. The meanings of the commands of the Rubble dump. -/

namespace Sys2Proof.Machine

/-- DUMP_GO: the key written to DUMP_GO (R478). -/
def execDumpGo (ifc : Ifc) (facts : WFacts) (s : State) : Host.Outcome State Fault Refusal :=
  .next (s.finish (s.cmdWrite ifc (F.DUMP_GO.addr 0) [(F.DUMP_GO, 0x5A17)] facts))

/-- HELD_DUMP_START: a held dump starts (R479). -/
def execHeldDumpStart (s : State) : Host.Outcome State Fault Refusal :=
  .next (s.finish (s.heldDump))

/-- DUMP_FORCE_STOP: islands not at a handshake boundary after 100 µs (R481). -/
def execDumpForceStop (islands : Reg) (s : State) : Host.Outcome State Fault Refusal :=
  .next (s.finish (s.dumpForce islands.toNat))

/-- DUMP_IMAGE_DONE: the image is written (R488): freeze latencies of the islands in 10 ns, the time since the
trigger. -/
def execDumpImageDone (latencies : List Word) (took : Nat) (facts : StartFacts) (s : State) : Host.Outcome State Fault
    Refusal :=
  .next (s.finish (s.dumpDone (latencies.map BitVec.toNat) took facts))

/-- DUMP_SUBSET_DONE: the subset is written, or fails after `good` sectors (R489). -/
def execDumpSubsetDone (good : Nat) (hot : Bool) (took : Nat) (s : State) : Host.Outcome State Fault Refusal :=
  .next (s.finish (s.dumpSubset good hot took))

/-- DUMP_CLEAR: DUMP_CMD.CLEAR (R492). -/
def execDumpClear (ifc : Ifc) (facts : WFacts) (s : State) : Host.Outcome State Fault Refusal :=
  .next (s.finish (s.cmdWrite ifc (F.DUMP_CMD_CLEAR.addr 0) [(F.DUMP_CMD_CLEAR, 1)] facts))

/-- DUMP_VAULT_CLEAR: DUMP_CMD.VLT_CLEAR (R492). -/
def execDumpVaultClear (ifc : Ifc) (mask : BitVec 4) (facts : WFacts) (s : State) : Host.Outcome State Fault Refusal
    :=
  .next (s.finish (s.cmdWrite ifc (F.DUMP_CMD_VLT_CLEAR.addr 0) [(F.DUMP_CMD_VLT_CLEAR, mask.toNat)] facts))

end Sys2Proof.Machine
end

