-- ==== Sys2Proof/Machine/Dispatch.lean ====
section
/-! DEFINITION. What each command does to everything but the queue of waiting commands. -/

namespace Sys2Proof.Machine

def exec (i : Instr) (s : State) : Host.Outcome State Fault Refusal :=
  match i with
  | .registerWrite ifc addr value be facts => Sys2Proof.Machine.execRegisterWrite ifc addr value be facts s
  | .heldPartWrite ifc addr value be facts => Sys2Proof.Machine.execHeldPartWrite ifc addr value be facts s
  | .loPartReadLatch ifc addr facts => Sys2Proof.Machine.execLoPartReadLatch ifc addr facts s
  | .rtcNowSubRead ifc facts => Sys2Proof.Machine.execRtcNowSubRead ifc facts s
  | .softReset ifc page facts => Sys2Proof.Machine.execSoftReset ifc page facts s
  | .softResetDone page took facts => Sys2Proof.Machine.execSoftResetDone page took facts s
  | .pageEnable ifc page on facts => Sys2Proof.Machine.execPageEnable ifc page on facts s
  | .pageFreeze ifc page on facts => Sys2Proof.Machine.execPageFreeze ifc page on facts s
  | .pageLock ifc page facts => Sys2Proof.Machine.execPageLock ifc page facts s
  | .clampReportClear ifc page facts => Sys2Proof.Machine.execClampReportClear ifc page facts s
  | .softwareReset ifc facts => Sys2Proof.Machine.execSoftwareReset ifc facts s
  | .resetPin low facts => Sys2Proof.Machine.execResetPin low facts s
  | .powerOn facts fuses canary => Sys2Proof.Machine.execPowerOn facts fuses canary s
  | .heldTransferDelivery => Sys2Proof.Machine.execHeldTransferDelivery s
  | .pllLockLoss pll => Sys2Proof.Machine.execPllLockLoss pll s
  | .pllRelock pll => Sys2Proof.Machine.execPllRelock pll s
  | .courseBoundary => Sys2Proof.Machine.execCourseBoundary s
  | .slotTransmit slot rival coll => Sys2Proof.Machine.execSlotTransmit slot rival coll s
  | .txContextBind slot held => Sys2Proof.Machine.execTxContextBind slot held s
  | .frameReceive port stamp words short desc phy => Sys2Proof.Machine.execFrameReceive port stamp words short desc phy s
  | .msgReassemblyTimeout => Sys2Proof.Machine.execMsgReassemblyTimeout s
  | .linkAttempt port => Sys2Proof.Machine.execLinkAttempt port s
  | .linkUp port gen master => Sys2Proof.Machine.execLinkUp port gen master s
  | .linkDown port => Sys2Proof.Machine.execLinkDown port s
  | .spakaALinkExpiry port => Sys2Proof.Machine.execSpakaALinkExpiry port s
  | .spkCfgWrite ifc port value facts => Sys2Proof.Machine.execSpkCfgWrite ifc port value facts s
  | .pmaTestMode ifc port mode facts => Sys2Proof.Machine.execPmaTestMode ifc port mode facts s
  | .scheduleLoad ifc facts => Sys2Proof.Machine.execScheduleLoad ifc facts s
  | .scheduleValidationDone => Sys2Proof.Machine.execScheduleValidationDone s
  | .scheduleDiscard ifc facts => Sys2Proof.Machine.execScheduleDiscard ifc facts s
  | .claimStart ifc facts => Sys2Proof.Machine.execClaimStart ifc facts s
  | .claimRelease ifc facts => Sys2Proof.Machine.execClaimRelease ifc facts s
  | .couplingChange port level => Sys2Proof.Machine.execCouplingChange port level s
  | .cabActiveChange level => Sys2Proof.Machine.execCabActiveChange level s
  | .setoutStart ifc facts => Sys2Proof.Machine.execSetoutStart ifc facts s
  | .syncLoss beyond => Sys2Proof.Machine.execSyncLoss beyond s
  | .reportRepeatTimeout => Sys2Proof.Machine.execReportRepeatTimeout s
  | .orphanTimeout => Sys2Proof.Machine.execOrphanTimeout s
  | .joinerAdoption => Sys2Proof.Machine.execJoinerAdoption s
  | .keyInstall ifc high facts => Sys2Proof.Machine.execKeyInstall ifc high facts s
  | .keySelect ifc slot facts => Sys2Proof.Machine.execKeySelect ifc slot facts s
  | .keyRoll ifc facts => Sys2Proof.Machine.execKeyRoll ifc facts s
  | .keyClear ifc facts => Sys2Proof.Machine.execKeyClear ifc facts s
  | .strangerTableClear ifc facts => Sys2Proof.Machine.execStrangerTableClear ifc facts s
  | .timingExchangeStart port dst turn => Sys2Proof.Machine.execTimingExchangeStart port dst turn s
  | .lineTimeSet ifc facts => Sys2Proof.Machine.execLineTimeSet ifc facts s
  | .lineTimeSnap ifc facts => Sys2Proof.Machine.execLineTimeSnap ifc facts s
  | .ptpSyncTx port => Sys2Proof.Machine.execPtpSyncTx port s
  | .ptpAnnounceTx port => Sys2Proof.Machine.execPtpAnnounceTx port s
  | .ppsPulse => Sys2Proof.Machine.execPpsPulse s
  | .lintelMapLoad port agree => Sys2Proof.Machine.execLintelMapLoad port agree s
  | .mapCrcRefresh port agree => Sys2Proof.Machine.execMapCrcRefresh port agree s
  | .originateWindowClose port slot => Sys2Proof.Machine.execOriginateWindowClose port slot s
  | .killAssert low taken => Sys2Proof.Machine.execKillAssert low taken s
  | .killRelease => Sys2Proof.Machine.execKillRelease s
  | .babbleDetect port => Sys2Proof.Machine.execBabbleDetect port s
  | .ownCarrierDetect port slot => Sys2Proof.Machine.execOwnCarrierDetect port slot s
  | .branchViolation port slot src => Sys2Proof.Machine.execBranchViolation port slot src s
  | .branchReinstate port => Sys2Proof.Machine.execBranchReinstate port s
  | .branchCutCommand ifc mask facts => Sys2Proof.Machine.execBranchCutCommand ifc mask facts s
  | .branchReinstateCommand ifc mask facts => Sys2Proof.Machine.execBranchReinstateCommand ifc mask facts s
  | .wheelWrap => Sys2Proof.Machine.execWheelWrap s
  | .wheelApply ifc facts => Sys2Proof.Machine.execWheelApply ifc facts s
  | .contextReclaim => Sys2Proof.Machine.execContextReclaim s
  | .queueDoorbell ifc queue tail facts => Sys2Proof.Machine.execQueueDoorbell ifc queue tail facts s
  | .descriptorFetch queue host => Sys2Proof.Machine.execDescriptorFetch queue host s
  | .queueDisable ifc queue facts => Sys2Proof.Machine.execQueueDisable ifc queue facts s
  | .imageReady ifc course facts => Sys2Proof.Machine.execImageReady ifc course facts s
  | .ethFrameReceive port stamp frame code short desc => Sys2Proof.Machine.execEthFrameReceive port stamp frame code short desc s
  | .canFrameReceive port stamp frame rx short desc => Sys2Proof.Machine.execCanFrameReceive port stamp frame rx short desc s
  | .ethLinkChange port los sync an => Sys2Proof.Machine.execEthLinkChange port los sync an s
  | .ethTransmit port => Sys2Proof.Machine.execEthTransmit port s
  | .pauseExpiry port => Sys2Proof.Machine.execPauseExpiry port s
  | .canTransmit port stamp ending => Sys2Proof.Machine.execCanTransmit port stamp ending s
  | .canBusOffRecovery port => Sys2Proof.Machine.execCanBusOffRecovery port s
  | .canRecoverCommand ifc port facts => Sys2Proof.Machine.execCanRecoverCommand ifc port facts s
  | .localPortDisable ifc port facts => Sys2Proof.Machine.execLocalPortDisable ifc port facts s
  | .arbRoleChange level => Sys2Proof.Machine.execArbRoleChange level s
  | .arbFencedChange level => Sys2Proof.Machine.execArbFencedChange level s
  | .tieLaneLock lane aligned skew => Sys2Proof.Machine.execTieLaneLock lane aligned skew s
  | .tieLaneLoss lane bad => Sys2Proof.Machine.execTieLaneLoss lane bad s
  | .tieRecordRx bytes start stop => Sys2Proof.Machine.execTieRecordRx bytes start stop s
  | .tieHealthRx bytes => Sys2Proof.Machine.execTieHealthRx bytes s
  | .tieAckRx bytes stamp => Sys2Proof.Machine.execTieAckRx bytes stamp s
  | .tieCommitRx bytes stamp => Sys2Proof.Machine.execTieCommitRx bytes stamp s
  | .plumbSilentSlot slot => Sys2Proof.Machine.execPlumbSilentSlot slot s
  | .arbiterEvidenceHorizon evidence => Sys2Proof.Machine.execArbiterEvidenceHorizon evidence s
  | .arbCmdFailover ifc facts => Sys2Proof.Machine.execArbCmdFailover ifc facts s
  | .arbCmdSwap ifc facts => Sys2Proof.Machine.execArbCmdSwap ifc facts s
  | .arbCmdRestore ifc mask facts => Sys2Proof.Machine.execArbCmdRestore ifc mask facts s
  | .arbCmdOut ifc mask facts => Sys2Proof.Machine.execArbCmdOut ifc mask facts s
  | .periodicSwap => Sys2Proof.Machine.execPeriodicSwap s
  | .quarryAccess master addr be data found => Sys2Proof.Machine.execQuarryAccess master addr be data found s
  | .scrubPatrol found hard => Sys2Proof.Machine.execScrubPatrol found hard s
  | .bankPowerWrite ifc index value facts => Sys2Proof.Machine.execBankPowerWrite ifc index value facts s
  | .bankClearDone bank => Sys2Proof.Machine.execBankClearDone bank s
  | .fenceSet ifc mask facts => Sys2Proof.Machine.execFenceSet ifc mask facts s
  | .fenceClear ifc mask facts => Sys2Proof.Machine.execFenceClear ifc mask facts s
  | .semAcquire ifc index tag lease facts => Sys2Proof.Machine.execSemAcquire ifc index tag lease facts s
  | .semRenew ifc index tag lease facts => Sys2Proof.Machine.execSemRenew ifc index tag lease facts s
  | .semRelease ifc index tag lease facts => Sys2Proof.Machine.execSemRelease ifc index tag lease facts s
  | .semLeaseExpiry index => Sys2Proof.Machine.execSemLeaseExpiry index s
  | .semBreak ifc mask facts => Sys2Proof.Machine.execSemBreak ifc mask facts s
  | .marchStart ifc bank mode full facts => Sys2Proof.Machine.execMarchStart ifc bank mode full facts s
  | .marchAbort ifc facts => Sys2Proof.Machine.execMarchAbort ifc facts s
  | .marchSegment => Sys2Proof.Machine.execMarchSegment s
  | .marchDone found => Sys2Proof.Machine.execMarchDone found s
  | .spareEntryEnable ifc entry value facts => Sys2Proof.Machine.execSpareEntryEnable ifc entry value facts s
  | .spareCopyDone entry => Sys2Proof.Machine.execSpareCopyDone entry s
  | .repairBurn ifc vfuse tj facts => Sys2Proof.Machine.execRepairBurn ifc vfuse tj facts s
  | .laneFuse ifc vfuse tj facts => Sys2Proof.Machine.execLaneFuse ifc vfuse tj facts s
  | .fuseBurnDone verified => Sys2Proof.Machine.execFuseBurnDone verified s
  | .restLaneSliceStart => Sys2Proof.Machine.execRestLaneSliceStart s
  | .gapSliceStart tie => Sys2Proof.Machine.execGapSliceStart tie s
  | .sliceEnd domain found facts => Sys2Proof.Machine.execSliceEnd domain found facts s
  | .lbistRunStart domain => Sys2Proof.Machine.execLbistRunStart domain s
  | .lbistRetest ifc domain facts => Sys2Proof.Machine.execLbistRetest ifc domain facts s
  | .lbistRelease ifc domain facts => Sys2Proof.Machine.execLbistRelease ifc domain facts s
  | .adcResult chan stamp len codeI codeV held => Sys2Proof.Machine.execAdcResult chan stamp len codeI codeV held s
  | .measurementWindowClose chan => Sys2Proof.Machine.execMeasurementWindowClose chan s
  | .gateEdge chan => Sys2Proof.Machine.execGateEdge chan s
  | .proofAgeExpiry chan => Sys2Proof.Machine.execProofAgeExpiry chan s
  | .commandTimeout chan => Sys2Proof.Machine.execCommandTimeout chan s
  | .settleExpiry chan => Sys2Proof.Machine.execSettleExpiry chan s
  | .noMainsTimeout chan => Sys2Proof.Machine.execNoMainsTimeout chan s
  | .slowTrip chan => Sys2Proof.Machine.execSlowTrip chan s
  | .feedRetry chan => Sys2Proof.Machine.execFeedRetry chan s
  | .retryCountClear chan => Sys2Proof.Machine.execRetryCountClear chan s
  | .loadLearn ifc chan facts => Sys2Proof.Machine.execLoadLearn ifc chan facts s
  | .clearLock ifc chan facts => Sys2Proof.Machine.execClearLock ifc chan facts s
  | .autozero ifc pair facts => Sys2Proof.Machine.execAutozero ifc pair facts s
  | .billingEdge => Sys2Proof.Machine.execBillingEdge s
  | .periodClose slice => Sys2Proof.Machine.execPeriodClose slice s
  | .meteringStop ifc facts => Sys2Proof.Machine.execMeteringStop ifc facts s
  | .meteringStart ifc facts => Sys2Proof.Machine.execMeteringStart ifc facts s
  | .tallyVaultCopy => Sys2Proof.Machine.execTallyVaultCopy s
  | .tallyAck ifc index facts => Sys2Proof.Machine.execTallyAck ifc index facts s
  | .rtcTrim => Sys2Proof.Machine.execRtcTrim s
  | .rtcSecondsEnd => Sys2Proof.Machine.execRtcSecondsEnd s
  | .calendarEnd => Sys2Proof.Machine.execCalendarEnd s
  | .rtcCommit ifc force form atCourse facts => Sys2Proof.Machine.execRtcCommit ifc force form atCourse facts s
  | .rtcPendingCommit => Sys2Proof.Machine.execRtcPendingCommit s
  | .rtcDiscard ifc facts => Sys2Proof.Machine.execRtcDiscard ifc facts s
  | .rtcCapture ifc facts => Sys2Proof.Machine.execRtcCapture ifc facts s
  | .alarm => Sys2Proof.Machine.execAlarm s
  | .mainValid facts canary => Sys2Proof.Machine.execMainValid facts canary s
  | .mainFailure => Sys2Proof.Machine.execMainFailure s
  | .snapshotSaveDone facts canary => Sys2Proof.Machine.execSnapshotSaveDone facts canary s
  | .vbatMeasure mv vao => Sys2Proof.Machine.execVbatMeasure mv vao s
  | .brownOutDetect => Sys2Proof.Machine.execBrownOutDetect s
  | .crystalStopDetect resumes => Sys2Proof.Machine.execCrystalStopDetect resumes s
  | .markRaise code bytes deferred => Sys2Proof.Machine.execMarkRaise code bytes deferred s
  | .markRecord => Sys2Proof.Machine.execMarkRecord s
  | .suppressedRecord => Sys2Proof.Machine.execSuppressedRecord s
  | .markMirror => Sys2Proof.Machine.execMarkMirror s
  | .markClear ifc part facts => Sys2Proof.Machine.execMarkClear ifc part facts s
  | .hostMark ifc code len facts => Sys2Proof.Machine.execHostMark ifc code len facts s
  | .vaultProgram ifc facts => Sys2Proof.Machine.execVaultProgram ifc facts s
  | .vaultErase ifc facts => Sys2Proof.Machine.execVaultErase ifc facts s
  | .vaultAbort ifc facts => Sys2Proof.Machine.execVaultAbort ifc facts s
  | .bootKey ifc facts => Sys2Proof.Machine.execBootKey ifc facts s
  | .bootKeyWindowExpiry => Sys2Proof.Machine.execBootKeyWindowExpiry s
  | .vaultProgramOpDone pulses verify => Sys2Proof.Machine.execVaultProgramOpDone pulses verify s
  | .vaultErasePulseDone tj erased => Sys2Proof.Machine.execVaultErasePulseDone tj erased s
  | .vaultRetirementDone bad ue => Sys2Proof.Machine.execVaultRetirementDone bad ue s
  | .powerStateEnter ifc target facts => Sys2Proof.Machine.execPowerStateEnter ifc target facts s
  | .entryComplete took => Sys2Proof.Machine.execEntryComplete took s
  | .hostWake ifc facts => Sys2Proof.Machine.execHostWake ifc facts s
  | .hostWakePin => Sys2Proof.Machine.execHostWakePin s
  | .wakeSwitch switch level => Sys2Proof.Machine.execWakeSwitch switch level s
  | .lineWake port => Sys2Proof.Machine.execLineWake port s
  | .exitComplete took => Sys2Proof.Machine.execExitComplete took s
  | .sleepUnanimityReached => Sys2Proof.Machine.execSleepUnanimityReached s
  | .networkSleepStop => Sys2Proof.Machine.execNetworkSleepStop s
  | .wakeFrameTx port => Sys2Proof.Machine.execWakeFrameTx port s
  | .wakingEnd => Sys2Proof.Machine.execWakingEnd s
  | .wakeConfirmExpiry => Sys2Proof.Machine.execWakeConfirmExpiry s
  | .backoffEnd => Sys2Proof.Machine.execBackoffEnd s
  | .falseWakeWindowClose => Sys2Proof.Machine.execFalseWakeWindowClose s
  | .phyFailsafe port ack => Sys2Proof.Machine.execPhyFailsafe port ack s
  | .pcieReset kind => Sys2Proof.Machine.execPcieReset kind s
  | .pcieCompletionTimeout dma index => Sys2Proof.Machine.execPcieCompletionTimeout dma index s
  | .dmaStart ifc channel facts => Sys2Proof.Machine.execDmaStart ifc channel facts s
  | .dmaAbort ifc channel facts => Sys2Proof.Machine.execDmaAbort ifc channel facts s
  | .dmaDone channel host => Sys2Proof.Machine.execDmaDone channel host s
  | .localBusRead addr found facts => Sys2Proof.Machine.execLocalBusRead addr found facts s
  | .localBusWrite addr data be found facts => Sys2Proof.Machine.execLocalBusWrite addr data be found facts s
  | .spiRead frame found => Sys2Proof.Machine.execSpiRead frame found s
  | .spiWrite command frame found facts => Sys2Proof.Machine.execSpiWrite command frame found facts s
  | .spiStatus => Sys2Proof.Machine.execSpiStatus s
  | .irqEoi ifc mask facts => Sys2Proof.Machine.execIrqEoi ifc mask facts s
  | .watchdogKick ifc facts => Sys2Proof.Machine.execWatchdogKick ifc facts s
  | .watchdogExpiry facts => Sys2Proof.Machine.execWatchdogExpiry facts s
  | .dumpGo ifc facts => Sys2Proof.Machine.execDumpGo ifc facts s
  | .heldDumpStart => Sys2Proof.Machine.execHeldDumpStart s
  | .dumpForceStop islands => Sys2Proof.Machine.execDumpForceStop islands s
  | .dumpImageDone latencies took facts => Sys2Proof.Machine.execDumpImageDone latencies took facts s
  | .dumpSubsetDone good hot took => Sys2Proof.Machine.execDumpSubsetDone good hot took s
  | .dumpClear ifc facts => Sys2Proof.Machine.execDumpClear ifc facts s
  | .dumpVaultClear ifc mask facts => Sys2Proof.Machine.execDumpVaultClear ifc mask facts s
  | .thermalAlert tj => Sys2Proof.Machine.execThermalAlert tj s
  | .tapReset => Sys2Proof.Machine.execTapReset s
  | .tapBypass => Sys2Proof.Machine.execTapBypass s
  | .tapIdcode => Sys2Proof.Machine.execTapIdcode s
  | .tapSamplePreload pins shifted => Sys2Proof.Machine.execTapSamplePreload pins shifted s
  | .tapExtest => Sys2Proof.Machine.execTapExtest s
  | .tapClamp => Sys2Proof.Machine.execTapClamp s
  | .tapHighz => Sys2Proof.Machine.execTapHighz s
  | .pcieLinkUp speed width => Sys2Proof.Machine.execPcieLinkUp speed width s
  | .perstNRelease => Sys2Proof.Machine.execPerstNRelease s
  | .pcieConfigWrite bme msix fmask d3hot => Sys2Proof.Machine.execPcieConfigWrite bme msix fmask d3hot s
  | .bar4WindowAccess write addr found => Sys2Proof.Machine.execBar4WindowAccess write addr found s

end Sys2Proof.Machine
end

