-- ==== Sys2Proof/Safety.lean ====
section
/-! DEFINITION. What a safe state is, in the terms the statements use: the shape that the node's data keep, when an interface's
write of a register is taken, and when nothing but the command itself acts. -/

namespace Sys2Proof.Machine

/-- Keys rise strictly. -/
def rfWf : List (Nat × Nat) → Bool
  | [] => true
  | [_] => true
  | (k, _) :: (k', v') :: t => decide (k < k') && rfWf ((k', v') :: t)

/-- The Quarry and the Vault in canonical form: the Quarry reads 0 and the Vault 0xFF where nothing is listed. -/
def State.memOk (s : State) : Bool := Memory.wf 0 s.qry.mem && Memory.wf 0xFF s.vault.mem

/-- The lists with a fixed number of members have it. -/
def State.shapeOk (s : State) : Bool := s.loads.length == 48 && s.lines.length == 8 && s.mtr.chans.length == 48

/-- The node's data are well formed. -/
def State.wf (s : State) : Bool := rfWf s.regs && s.memOk && s.shapeOk

/-- The fields of a register lie in its 32 bits. -/
def fitsRow (r : Row) : Bool := decide ((r.fields.map (fun d => (2 ^ d.fld.width - 1) * 2 ^ d.fld.lo)).sum < 2 ^ 32)

/-- The page of the register at `a` takes a write of it now: the page is no reserved one, its island runs, the node is READY
or the page is one that serves before READY, it is not fenced, in soft reset or under test (R46, R49, R62 to R65, R464). -/
def State.pageTakes (s : State) (a : Nat) : Bool :=
  !(pageReserved (a / 0x1000)) && decide (a / 0x1000 < 64) && !(s.islandAsleep (regIsland (a / 0x1000) (a % 0x1000)))
    && (s.on F.TOP_READY_READY || beforeReady (a / 0x1000))
    && (!(s.islandFenced (regIsland (a / 0x1000) (a % 0x1000))) || a % 0x1000 == 0x10 || a % 0x1000 == 0x14)
    && !(s.host.reset.any (fun r => r.1 == a / 0x1000)) && !(s.testing (a / 0x1000) (a % 0x1000))

/-- Interface `i` reaches the registers of page `p`, with no local-bus half waiting (R446, R453, R465). -/
def State.ifcTakes (s : State) (i : Ifc) (p : Nat) : Bool :=
  s.ifcOn i && s.reaches p && (i != .lb || s.host.lbLow.isNone)

/-- A write by interface `i` of the register at `a` is checked, applied and reported now. -/
def State.takes (s : State) (i : Ifc) (a : Nat) : Bool := s.ifcTakes i (a / 0x1000) && s.pageTakes a

/-- The PG_SEQ of page `p` counts a write (R48). -/
def State.counted (s : State) (p : Nat) : State := s.set F.PG_SEQ ((s.get F.PG_SEQ p + 1) % 65536) p

/-- No entry into a lower power state is in progress, so no command can turn it back (R433). -/
def State.steady (s : State) : Bool := !(s.on F.PWR_STAT_ENTERING)

/-- No dump freezes islands, and no TAP instruction holds the pins (R480, R521). -/
def State.unheld (s : State) : Bool := !s.dumping && decide (s.tap.ir < 3)

/-- A message waits in the PBA only while its vector is pending, and while MSI-X is enabled only where it may not be sent
(R457). -/
def State.pbaOk (s : State) : Bool :=
  !s.hostUp || (List.range 32).all (fun v =>
    !(bit (s.get F.PBA) v) || (bit s.vecLive v && !(s.host.msix && s.msixOpen v)))

end Sys2Proof.Machine
end

