-- ==== Sys2Proof/Certificates/Slice0/Obligations.lean ====
section
/-! DEFINITION. The statements for the provers. A command's outcome is written `.next (s.finish x)`: `x` is what the command
leaves, and `State.finish` (Machine/Attach.lean) adds what follows every command, of which `FinishFrame` says how little that is. -/

open Sys2Proof
open Sys2Proof.Machine

/-! ### The queue and what every command shares -/

/-- The row's form of a block: a step runs the command at the front of the queue on the queue's rest; with no command waiting
one nanosecond passes (the model's choice, log entry 1). -/
def Obligations.StepRunsFront : Prop :=
  (∀ (c : Instr) (rest : List Instr) (s : State), step { s with pending := c :: rest } = exec c { s with pending := rest }) ∧
  (∀ s : State, s.pending = [] → step s = .next (s.elapse 1))

/-- Every command completes: it answers a next state, whose queue is the queue it was given. -/
def Obligations.EveryCommandCompletes : Prop :=
  ∀ (c : Instr) (s : State), ∃ t, exec c s = .next t ∧ t.pending = s.pending

/-- R457: a message waits in the PBA only while its vector is pending and enabled, and, with MSI-X enabled, only while it may not
be sent. Every step keeps this. -/
def Obligations.PbaKept : Prop :=
  ∀ s t : State, s.pbaOk = true → step s = .next t → t.pbaOk = true

/-- What reset leaves, field by field of the registers' Reset columns: identity (R45, R48), the vector map (table after R459),
timers and windows of the host (chapter 18), the ports (chapter 03), the Quarry (chapter 10) and the Vault (chapter 16); no
command waits and nothing is stored.
The invariant of `PbaKept` holds at reset. -/
def Obligations.ResetState : Prop :=
  (let s := State.reset
  s.get F.PG_ID_TYPE 0x05 = 0x0150 ∧ s.get F.PG_ID_VERSION 0x20 = 1 ∧ s.get F.PG_ID_INDEX 0x32 = 0x32 ∧
  s.get F.PG_CTRL_EN 0x18 = 1 ∧ s.get F.PG_LOCK 0x18 = 0 ∧ s.get F.PG_IRQ_EN 0x05 = 0 ∧
  s.get F.HOST_CPL_TO = 50 ∧ s.get F.HOST_WDOG_CFG_TIMEOUT_MS = 1000 ∧ s.get F.HOST_WDOG_CFG_EN = 0 ∧
  s.get F.IRQ_VEC_EN = 0 ∧ s.get (F.IRQ_MAP_VEC 2) 8 = 20 ∧
  s.get F.SPK_CFG_GEN 0 = 4 ∧ s.get F.SPK_CFG_GEN 5 = 0 ∧
  s.get F.QRY_SEMN_HELD 63 = 0 ∧ s.get F.RGN_FENCED = 0 ∧ s.get F.DUMP_STAT_STATE = 0 ∧ s.get F.PWR_STAT_STATE = 0 ∧
  s.get F.MTR_CFG_EN = 1 ∧ s.get F.RTC_STAT_TIME_VALID = 0 ∧ s.get F.VLT_STAT_BUSY = 0 ∧
  s.pending = [] ∧ s.qry.mem = [] ∧ s.vault.mem = [] ∧ s.wf = true) ∧
  (State.reset.pbaOk = true)

/-- R521: whatever command runs, what it has given to covered pins does not reach them once EXTEST, CLAMP or HIGHZ is in force;
an output that leaves by no covered pin is left alone. -/
def Obligations.TapHoldsPins : Prop :=
  ∀ (c : Instr) (s t : State), exec c s = .next t → 3 ≤ t.tap.ir →
    ∀ e ∈ t.out.take (t.out.length - s.out.length), t.covered e = false

/-- What follows a command, where no entry is in progress, nothing is frozen and the TAP holds no pin: messages go out or wait
in the PBA, and nothing else of the node changes. -/
def Obligations.FinishFrame : Prop :=
  ∀ s x : State, s.steady = true → x.unheld = true →
    (∀ (f : Fld) (i : Nat), f.key i ≠ F.PBA.key 0 → (s.finish x).get f i = x.get f i) ∧
    s.finish x = { x with regs := (s.finish x).regs, out := (s.finish x).out, pending := s.pending } ∧
    ∃ sent : List Emit, (s.finish x).out = sent ++ x.out ∧ ∀ e ∈ sent, ∃ v a d, e = .msix v a d

/-! ### The clamp rule (chapter 02) -/

/-- R46: a reserved page reads all zeros, and a write to it is discarded and logged in CLMP alone, with cause UNMAPPED and field
index 0xFE; no PG_CLAMP, PG_SEQ or PG_IRQ_RAW changes. -/
def Obligations.ReservedPage : Prop :=
  ∀ (ifc : Ifc) (addr : BitVec 18) (v : Reg) (be : BitVec 4) (facts : WFacts) (s : State),
    addr.toNat % 4 = 0 → pageReserved (addr.toNat / 0x1000) = true → s.ifcTakes ifc (addr.toNat / 0x1000) = true →
    exec (.loPartReadLatch ifc addr facts) s = .next (s.finish (s.emit (.hostRead ifc.id addr.toNat 0))) ∧
    ∃ x, exec (.registerWrite ifc addr v be facts) s = .next (s.finish x) ∧
      x = s.clampLog ⟨addr.toNat / 0x1000, 0xFE, 5, addr.toNat % 0x1000, mergeBytes 0 v.toNat be.toNat, 0, ifc.id⟩ ∧
      (∀ f ∈ [F.PG_CLAMP_OFFSET, F.PG_CLAMP_CAUSE, F.PG_CLAMP_FIELD, F.PG_CLAMP_COUNT, F.PG_CLAMP_VALID, F.PG_CLAMP_VAL,
        F.PG_CLAMP_RES, F.PG_SEQ, F.PG_IRQ_RAW], ∀ p, x.get f p = s.get f p)

/-- The register at offset `off` of page `p` lies in a port's block of GRD or HUB (R28). -/
def portBlock (p off : Nat) : Bool := (p == 0x13 || p == 0x14) && decide (0x200 ≤ off ∧ off < 0x400)

/-- R62, R28, R464: a page whose island is off, halted or frozen, or that does not serve before READY, refuses every write with cause
ASLEEP in the CLMP log alone; asleep, it reads 0 but for PG_ID, PG_CAP and PG_STAT, which reads with only ASLEEP set, and the
status field of a port's block on GRD or HUB, which shows ASLEEP alone.
The two registers that a sleeping or frozen node still takes, DUMP_GO and TOP_SWRST, are left out; before READY the write is of the
whole word.
R63: while its island is fenced a page refuses every write but those of PG_IRQ_RAW and PG_IRQ_EN with cause FENCED, field
index 0xFE, reported on the page and in the log; stated for writes of the whole word.
R49, R64: a write to a page in soft reset or under a slice waits, and changes nothing else. -/
def Obligations.PagesThatRefuse : Prop :=
  (∀ (ifc : Ifc) (addr : BitVec 18) (v : Reg) (be : BitVec 4) (facts : WFacts) (s : State),
    addr.toNat % 4 = 0 → pageReserved (addr.toNat / 0x1000) = false → s.ifcTakes ifc (addr.toNat / 0x1000) = true →
    addr.toNat ≠ 0x36100 → addr.toNat ≠ 0x118 →
    let a := addr.toNat
    let asleep := s.islandAsleep (regIsland (a / 0x1000) (a % 0x1000))
    (asleep = true → exec (.registerWrite ifc addr v be facts) s =
      .next (s.finish (s.clampLog ⟨a / 0x1000, 0xFE, 6, a % 0x1000, mergeBytes 0 v.toNat be.toNat, 0, ifc.id⟩))) ∧
    (asleep = false → s.on F.TOP_READY_READY = false → beforeReady (a / 0x1000) = false →
      exec (.registerWrite ifc addr v 15 facts) s =
        .next (s.finish (s.clampLog ⟨a / 0x1000, 0xFE, 6, a % 0x1000, v.toNat, s.regLive a, ifc.id⟩))) ∧
    (asleep = true →
      (a % 0x1000 = 0xC → s.readReg a = 2) ∧
      (a % 0x1000 ≠ 0 → a % 0x1000 ≠ 4 → a % 0x1000 ≠ 0xC →
        s.readReg a = if portBlock (a / 0x1000) (a % 0x1000) && (a % 0x1000 - 0x200) % 0x40 == 0 then
          (if a / 0x1000 = 0x13 then 0x10 else 0x20) else 0))) ∧
  (∀ (ifc : Ifc) (addr : BitVec 18) (v : Reg) (facts : WFacts) (s : State),
    let a := addr.toNat
    a % 4 = 0 → pageReserved (a / 0x1000) = false → s.ifcTakes ifc (a / 0x1000) = true →
    s.islandAsleep (regIsland (a / 0x1000) (a % 0x1000)) = false → s.on F.TOP_READY_READY = true →
    s.islandFenced (regIsland (a / 0x1000) (a % 0x1000)) = true → a % 0x1000 ≠ 0x10 → a % 0x1000 ≠ 0x14 →
    exec (.registerWrite ifc addr v 15 facts) s = .next (s.finish
      (s.clampReport ⟨a / 0x1000, 0xFE, 7, a % 0x1000, v.toNat, if (rowAt (a / 0x1000) (a % 0x1000)).isSome then s.regLive a else 0,
        ifc.id⟩))) ∧
  (∀ (ifc : Ifc) (addr : BitVec 18) (v : Reg) (be : BitVec 4) (facts : WFacts) (s : State),
    let a := addr.toNat
    a % 4 = 0 → pageReserved (a / 0x1000) = false → s.ifcTakes ifc (a / 0x1000) = true →
    s.islandAsleep (regIsland (a / 0x1000) (a % 0x1000)) = false → s.on F.TOP_READY_READY = true →
    s.islandFenced (regIsland (a / 0x1000) (a % 0x1000)) = false →
    (s.host.reset.any (fun r => r.1 == a / 0x1000) || s.testing (a / 0x1000) (a % 0x1000)) = true →
    exec (.registerWrite ifc addr v be facts) s =
      .next (s.finish { s with host := { s.host with staged := s.host.staged ++ [⟨ifc.id, a, v.toNat, be.toNat⟩] } }))

/-- R44, R52, R54, R55, R56 on one register, HOST_CPL_TO, whose field takes 1 to 255: a legal value is applied and counted in
PG_SEQ; 0 takes the nearest legal value and is reported NEAREST; reserved bits are ignored and reported RESERVED with index
0xFF, with the legal field applied.
R52, R55: a value of TOP_SWRST other than the key is reported RESET and resets nothing; 0 is the field's reset value and is
not reported (the model's reading, log entry 14). R47, R55: an offset without a register and a register without a writable field discard a write, reported with causes UNMAPPED
and READONLY, and PG_SEQ stands still.
R55, R62a: what one event leaves on its page and in the log, where the log is not frozen: PG_CLAMP with the event's offset,
cause and field index, VALID and the CLAMP event set, COUNT advanced and saturating at 127; the log's next entry with the same and a
sequence number that follows the last one.
R44, R52, R53, R56, R48, R523: REGISTER_WRITE to a register that stands alone and has a field that can be written, on a page that
takes it: the value merged by the byte enables is checked field by field and written, what was clamped is reported and then its
reserved bits, fields of other registers that depend on it are judged again, PG_SEQ counts the write, and the block acts on it.
On the pages whose blocks only hold configuration (ISL, WAKE, PLMB and LDC), a field that takes
any value then holds the bits written. -/
def Obligations.ClampRule : Prop :=
  (∀ (ifc : Ifc) (v : Reg) (facts : WFacts) (s : State), s.takes ifc 0x511C = true →
    let lo := v.toNat % 256
    (lo ≠ 0 → v.toNat < 256 →
      exec (.registerWrite ifc 0x511C v 15 facts) s = .next (s.finish ((s.set F.HOST_CPL_TO lo).counted 0x05))) ∧
    (v = 0 → exec (.registerWrite ifc 0x511C v 15 facts) s =
      .next (s.finish (((s.set F.HOST_CPL_TO 1).clampReport ⟨0x05, 0, 0, 0x11C, 0, 1, ifc.id⟩).counted 0x05))) ∧
    (lo ≠ 0 → 256 ≤ v.toNat → exec (.registerWrite ifc 0x511C v 15 facts) s =
      .next (s.finish (((s.set F.HOST_CPL_TO lo).clampReport ⟨0x05, 0xFF, 2, 0x11C, v.toNat, lo, ifc.id⟩).counted 0x05)))) ∧
  (∀ (ifc : Ifc) (v : Reg) (facts : WFacts) (s : State), s.takes ifc 0x118 = true → s.takes ifc 0xF0 = true → s.takes ifc 0x104 = true →
    (v.toNat < 65536 → v ≠ 0xA55A → v ≠ 0 → exec (.registerWrite ifc 0x118 v 15 facts) s =
      .next (s.finish ((s.clampReport ⟨0, 0, 1, 0x118, v.toNat, 0, ifc.id⟩).counted 0))) ∧
    exec (.registerWrite ifc 0xF0 v 15 facts) s =
      .next (s.finish (s.clampReport ⟨0, 0xFE, 5, 0xF0, v.toNat, 0, ifc.id⟩)) ∧
    exec (.registerWrite ifc 0x104 v 15 facts) s =
      .next (s.finish (s.clampReport ⟨0, 0xFE, 4, 0x104, v.toNat, s.get F.TOP_UID_LO, ifc.id⟩))) ∧
  (∀ (s : State) (e : ClampEv), e.page < 64 → e.off < 4096 → e.cause < 16 → e.field < 256 →
    let x := s.clampReport e
    x.get F.PG_CLAMP_OFFSET e.page = e.off ∧ x.get F.PG_CLAMP_CAUSE e.page = e.cause ∧ x.get F.PG_CLAMP_FIELD e.page = e.field ∧
    x.get F.PG_CLAMP_VALID e.page = 1 ∧ x.get F.PG_CLAMP_COUNT e.page = min (s.get F.PG_CLAMP_COUNT e.page + 1) 127 ∧
    bit (x.get F.PG_IRQ_RAW e.page) 0 = true ∧ x.get F.PG_CLAMP_VAL e.page = e.written % 2 ^ 32 ∧
    x.get F.PG_CLAMP_RES e.page = e.applied % 2 ^ 32 ∧
    (s.isl.frozen.contains 29 = false → s.on F.PG_CTRL_FREEZE 1 = false →
      let n := s.get F.CLMP_HEAD
      x.get F.CLMP_E_OFFSET n = e.off ∧ x.get F.CLMP_E_CAUSE n = e.cause ∧ x.get F.CLMP_E_FIELD n = e.field ∧
      x.get F.CLMP_E_PAGE n = e.page ∧ x.get F.CLMP_E_SEQ n = x.get F.CLMP_LASTSEQ ∧ x.get F.CLMP_HEAD = (n + 1) % 64 ∧
      x.get F.CLMP_TOTAL = min (s.get F.CLMP_TOTAL + 1) (2 ^ F.CLMP_TOTAL.width - 1))) ∧
  (∀ (ifc : Ifc) (addr : BitVec 18) (v : Reg) (be : BitVec 4) (facts : WFacts) (s : State) (r : Row),
    let a := addr.toNat
    s.takes ifc a = true → a % 4 = 0 → rowAt (a / 0x1000) (a % 0x1000) = some r → r.fields.all (fun d => d.acc == .ro) = false →
    writeGroup a = [] →
    exec (.registerWrite ifc addr v be facts) s = .next (s.finish
      (let p := s.writePart ifc.id a (s.merged a v.toNat be.toNat r) r
       let q := p.1
       let y := (((p.2.reportFields ifc.id q).reportReserved ifc.id q).recheckAll ifc.id a).counted (a / 0x1000)
       ((y.wheelReports q).rtcReports q (!q.events.isEmpty || q.res)).effect s ifc.id q facts))) ∧
  (∀ (ifc : Ifc) (addr : BitVec 18) (v : Reg) (facts : WFacts) (s : State) (r : Row) (d : FieldDef),
    let a := addr.toNat
    s.takes ifc a = true → a % 4 = 0 → 0x100 ≤ a % 0x1000 → [0x02, 0x04, 0x1E, 0x28].contains (a / 0x1000) = true →
    rowAt (a / 0x1000) (a % 0x1000) = some r → d ∈ r.fields → d.acc = .rw → d.legal = .any →
    ∃ x, exec (.registerWrite ifc addr v 15 facts) s = .next (s.finish x) ∧
      x.get d.fld (d.fld.inst a) = bits v.toNat d.fld.lo d.fld.width ∧
      x.get F.PG_SEQ (a / 0x1000) = (s.get F.PG_SEQ (a / 0x1000) + 1) % 65536)

/-! ### Register pages: the commands of chapter 02 -/

/-- R60: a write to a lower part of a value that spans registers is held for its interface and writes nothing; a read of the least
significant register latches the other parts for the interface that reads, in place of what it held.
R377, R60: a read of RTC_NOW_SUB gives the subsecond count, and latches the seconds and both calendar registers of the same
instant. -/
def Obligations.PartsHeldAndLatched : Prop :=
  (∀ (ifc : Ifc) (addr : BitVec 18) (v : Reg) (facts : WFacts) (s : State) (r : Row),
    s.takes ifc addr.toNat = true → addr.toNat % 4 = 0 → rowAt (addr.toNat / 0x1000) (addr.toNat % 0x1000) = some r →
    r.fields.all (fun d => d.acc == .ro) = false → (writeGroup addr.toNat).getLast? ≠ some addr.toNat →
    writeGroup addr.toNat ≠ [] → fitsRow r = true →
    ∃ x, exec (.heldPartWrite ifc addr v 15 facts) s = .next (s.finish x) ∧ x.heldPart ifc.id addr.toNat = some v.toNat ∧
      (∀ (m b : Nat), m ≠ ifc.id ∨ b ≠ addr.toNat → x.heldPart m b = s.heldPart m b) ∧
      x = { s with host := { s.host with parts := x.host.parts } }) ∧
  (∀ (ifc : Ifc) (addr : BitVec 18) (facts : WFacts) (s : State),
    s.ifcTakes ifc (addr.toNat / 0x1000) = true → addr.toNat % 4 = 0 → s.pageSilent addr.toNat = false →
    (regGroup addr.toNat).head? = some addr.toNat →
    ∃ x, exec (.loPartReadLatch ifc addr facts) s = .next (s.finish x) ∧
      x.out = .hostRead ifc.id addr.toNat (s.readReg addr.toNat) :: s.out ∧
      x.host.latch = ((regGroup addr.toNat).drop 1).map (fun b => (ifc.id, b, s.readReg b)) ++
        s.host.latch.filter (fun l => !(l.1 == ifc.id && (regGroup addr.toNat).contains l.2.1)) ∧
      x = { s with out := x.out, host := { s.host with latch := x.host.latch } }) ∧
  (∀ (ifc : Ifc) (facts : WFacts) (s : State), s.ifcTakes ifc 0x32 = true → s.pageSilent 0x32100 = false →
    s.testing 0x32 0x100 = false → s.on F.PG_CTRL_FREEZE 0x32 = false →
    ∃ x, exec (.rtcNowSubRead ifc facts) s = .next (s.finish x) ∧
      let k := s.timeValid.toNat
      x.out = .hostRead ifc.id 0x32100 (k * s.clk.sub % 2 ^ F.RTC_NOW_SUB.width) :: s.out ∧
      x.host.latch.take 4 = [(ifc.id, 0x32104, k * s.clk.sec % 2 ^ 32), (ifc.id, 0x32108, k * s.clk.sec / 2 ^ 32 % 2 ^ F.RTC_NOW_SEC_HI.width),
        (ifc.id, 0x3210C, s.readReg 0x3210C), (ifc.id, 0x32110, s.readReg 0x32110)] ∧
      x.regs = s.regs ∧ x.clk = s.clk)

/-- R49: PG_CTRL.SRST written 1 on a page that has a soft reset: the reset is due 10 µs later, EN and FREEZE keep their values, the
write is counted; and when the reset completes PG_IRQ_RAW holds SRST_DONE alone, while EN, FREEZE, PG_LOCK and PG_IRQ_EN
stay. What else stays is stated
for RGN (0x21), whose block holds registers only and keeps FENCED (R280). On every page the reset ends with SRST_DONE alone, and
the writes held for the page then proceed. -/
def Obligations.SoftReset : Prop :=
  (∀ (ifc : Ifc) (page : Page) (facts : WFacts) (s : State), s.takes ifc (page.val * 0x1000 + 8) = true → pageCapEn page.val = true →
    ∃ x, exec (.softReset ifc page facts) s = .next (s.finish x) ∧ x.host.reset = s.host.reset ++ [(page.val, s.clk.now + 10000)] ∧
      x.get F.PG_CTRL_EN page.val = s.get F.PG_CTRL_EN page.val ∧ x.get F.PG_CTRL_FREEZE page.val = s.get F.PG_CTRL_FREEZE page.val ∧
      x.get F.PG_SEQ page.val = (s.get F.PG_SEQ page.val + 1) % 65536 ∧ x.qry = s.qry ∧ x.vault = s.vault) ∧
  (∀ (page : Page) (took : Nat) (facts : WFacts) (s : State) (t : Nat), s.host.reset.find? (fun r => r.1 == page.val) = some (page.val, t) →
    ∃ y : State, y.get F.PG_IRQ_RAW page.val = 2 ∧ exec (.softResetDone page took facts) s = .next (s.finish (y.applyStaged facts))) ∧
  (∀ (took : Nat) (facts : WFacts) (s : State) (t : Nat), s.host.reset = [(0x21, t)] → s.host.staged = [] →
    ∃ x, exec (.softResetDone 0x21 took facts) s = .next (s.finish x) ∧ x.host.reset = [] ∧
      x.get F.PG_IRQ_RAW 0x21 = 2 ∧ x.get F.PG_LOCK 0x21 = s.get F.PG_LOCK 0x21 ∧ x.get F.PG_IRQ_EN 0x21 = s.get F.PG_IRQ_EN 0x21 ∧
            x.get F.PG_CTRL_EN 0x21 = s.get F.PG_CTRL_EN 0x21 ∧ x.get F.PG_CTRL_FREEZE 0x21 = s.get F.PG_CTRL_FREEZE 0x21 ∧
      x.get F.RGN_FENCED = s.get F.RGN_FENCED ∧ x.qry = s.qry)

/-- R48, R50, R51, R58: the header commands. EN takes the value written, where the page has it and is not locked, and a locked
page keeps it and reports LOCKED (on a load page the twelve channels then follow it); FREEZE captures the page's status and counters; PG_LOCK becomes 1; VALID written 1 clears
VALID and COUNT. -/
def Obligations.HeaderCommands : Prop :=
  ∀ (ifc : Ifc) (page : Page) (on : Bool) (facts : WFacts) (s : State), let p := page.val
    (s.takes ifc (p * 0x1000 + 8) = true → pageCapEn p = true → ¬ (0x29 ≤ p ∧ p ≤ 0x2C) →
      ∃ x, exec (.pageEnable ifc page on facts) s = .next (s.finish x) ∧
        (s.on F.PG_LOCK p = false → x.get F.PG_CTRL_EN p = on.toNat) ∧
        (s.on F.PG_LOCK p = true → x.get F.PG_CTRL_EN p = s.get F.PG_CTRL_EN p ∧
          (on.toNat ≠ s.get F.PG_CTRL_EN p → x.get F.PG_CLAMP_CAUSE p = 3 ∧ x.get F.PG_CLAMP_FIELD p = 0)) ∧
        x.get F.PG_CTRL_FREEZE p = s.get F.PG_CTRL_FREEZE p) ∧
    (s.takes ifc (p * 0x1000 + 8) = true → 0x29 ≤ p → p ≤ 0x2C → s.on F.PG_LOCK p = false → on.toNat ≠ s.get F.PG_CTRL_EN p →
      ∃ y : State, y.get F.PG_CTRL_EN p = on.toNat ∧ exec (.pageEnable ifc page on facts) s =
        .next (s.finish ((List.range 12).foldl (fun z i => z.chanEnable (12 * (p - 0x29) + i)) y))) ∧
    (s.takes ifc (p * 0x1000 + 8) = true →
      ∃ x, exec (.pageFreeze ifc page on facts) s = .next (s.finish x) ∧ x.get F.PG_CTRL_FREEZE p = on.toNat ∧
        (on = true → p ≠ 1 → s.on F.PG_CTRL_FREEZE p = false → (p, s.snapshotPage p) ∈ x.host.frozen) ∧
        (on = false → s.on F.PG_CTRL_FREEZE p = true → ∀ y ∈ x.host.frozen, y.1 ≠ p)) ∧
    (s.takes ifc (p * 0x1000 + 0x28) = true →
      exec (.pageLock ifc page facts) s = .next (s.finish ((s.set F.PG_LOCK 1 p).counted p))) ∧
    (s.takes ifc (p * 0x1000 + 0x1C) = true →
      ∃ x, exec (.clampReportClear ifc page facts) s = .next (s.finish x) ∧ x.get F.PG_CLAMP_VALID p = 0 ∧ x.get F.PG_CLAMP_COUNT p = 0 ∧
        x.get F.PG_CLAMP_CAUSE p = s.get F.PG_CLAMP_CAUSE p ∧ x.get F.PG_CLAMP_VAL p = s.get F.PG_CLAMP_VAL p)

/-- R462, R465: every start ends in one of three ways: PLL_TRW or PLL_HST without lock (HOST_BOOT.FAIL 1 after step 4), no valid
microcode image (FAIL 2 after step 6), both with START_FAIL raised, or all eight steps. -/
def startEnd (facts : StartFacts) (x : State) : Prop :=
  (x.isl.started = 4 ∧ x.get F.HOST_BOOT_FAIL = 1 ∧ x.get F.TOP_READY_STEP = 4 ∧ bit (x.get F.IRQ_URG_RAW) 6 = true ∧
    (bit facts.plls 8 || bit facts.plls 11) = true) ∨
  (x.isl.started = 6 ∧ x.get F.HOST_BOOT_FAIL = 2 ∧ x.get F.TOP_READY_STEP = 6 ∧ bit (x.get F.IRQ_URG_RAW) 6 = true ∧
    (bit facts.plls 8 || bit facts.plls 11) = false) ∨
  (x.isl.started = 8 ∧ x.get F.TOP_READY_STEP = 8 ∧ (bit facts.plls 8 || bit facts.plls 11) = false)

/-- A power-on, the reset pin held low for 1 µs or longer, and the key in TOP_SWRST start the node, and each start ends as
`startEnd` says; a shorter pulse on RST_N only lets its time pass (R463). The resets are stated with main valid and no dump in
progress. -/
def Obligations.StartsEnd : Prop :=
  (∀ (facts : StartFacts) (fuses : Fuses) (canary : Reg) (s : State),
    ∃ x, exec (.powerOn facts fuses canary) s = .next (s.finish x) ∧ startEnd facts x) ∧
  (∀ (low : Nat) (facts : StartFacts) (s : State), s.pins.main = true →
    (low < 1000 → exec (.resetPin low facts) s = .next (s.finish (s.elapse low))) ∧
    (1000 ≤ low → ∃ x, exec (.resetPin low facts) s = .next (s.finish x) ∧ startEnd facts x)) ∧
  (∀ (ifc : Ifc) (facts : WFacts) (s : State), s.takes ifc 0x118 = true → s.dumping = false → s.pins.main = true →
    ∃ x, exec (.softwareReset ifc facts) s = .next (s.finish x) ∧ startEnd facts.start x)

/-! ### Islands and clocks (chapter 01) -/

/-- R24, R42, R153: with nothing held, delivery changes nothing; a held access that nothing holds any more is served in its turn.
A PLL that loses lock is listed, its LOST bit set, its LOCKED bit cleared, the loss counted and the urgent source raised; a port's
link then goes down, PLL_TRW stops line time, and PLL_TIE takes the Tie's lanes; what was staged for a halted island is dropped. One
that locks again is LOCKED, and PLL_TRW lets line time count again, with LOCK on a source alone; the local frames that waited are
then taken (R227). -/
def Obligations.IslandCommands : Prop :=
  (∀ s : State, s.qry.held = [] → exec .heldTransferDelivery s = .next (s.finish s)) ∧
  (∀ (s : State) (h : HeldAccess) (t : List HeldAccess), s.qry.held = h :: t →
    (s.heldDeny h = none → exec .heldTransferDelivery s =
      .next (s.finish (({ s with qry := { s.qry with held := t } }).qServe h.master h.addr h.be h.write .none))) ∧
    (s.heldDeny h = some .held → exec .heldTransferDelivery s = .next (s.finish s))) ∧
  (∀ (pll : Fin 13) (s : State), s.answers 29 3 = true → s.power < 3 → s.isl.pllLost.contains pll.val = false →
    ∃ y : State, y.isl.pllLost = pll.val :: s.isl.pllLost ∧ bit (y.get F.ISL_PLL_LOST) pll.val = true ∧
      bit (y.get F.ISL_PLL_LOCKED) pll.val = false ∧ y.get F.ISL_PLL_CNT = min (s.get F.ISL_PLL_CNT + 1) 65535 ∧
      bit (y.get F.IRQ_URG_RAW) 4 = true ∧ bit (y.get F.PG_IRQ_RAW 0x02) 8 = true ∧
      exec (.pllLockLoss pll) s = .next (s.finish
        (if pll.val < 8 then y.linkDown pll.val
         else if pll.val = 8 then
           { y with clk := { y.clk with ltOn := false }, pace := { y.pace with haltAt := y.clk.now, haltN := 0 } }
         else if pll.val = 10 then y.tieLanes 0 false 0 else y).dropStaged)) ∧
  (∀ (pll : Fin 13) (s : State), s.answers 29 8 = true → s.isl.pllLost.contains pll.val = true → pll.val ≠ 8 →
    exec (.pllRelock pll) s = .next (s.finish
      (({ s with isl := { s.isl with pllLost := s.isl.pllLost.filter (· != pll.val) } } : State).orBit F.ISL_PLL_LOCKED pll.val).drainLocal)) ∧
  (∀ s : State, s.answers 29 8 = true → s.isl.pllLost.contains 8 = true →
    ∃ y : State, exec (.pllRelock 8) s = .next (s.finish y.drainLocal) ∧ y.isl.pllLost = s.isl.pllLost.filter (· != 8) ∧ y.clk.ltOn = true ∧
      y.get F.LINE_STAT_LOCK = s.isSource.toNat)

/-! ### The line (chapter 03) -/

/-- R33: in RUN a boundary that line time takes closes the course, advances the course number by 1 and makes the boundary the base;
the Plumb then judges the course that closed, a plan for the new course commits, and the rest of the new course's start follows, with
COURSE_OUT. R150, R152: a backward correction leaves the boundary to be reached again. R31, R428: in HOLD and NAP, and while a state
is entered, the course number advances, the boundary becomes the base, CAN bundles close and the token reaches the islands that are on.
R42, R167: while PLL_TRW is lost no boundary is taken by the Trowel. R100: a partial message 16 courses old is discarded and counted. -/
def Obligations.CourseClock : Prop :=
  (∀ s : State, s.clk.ltOn = true → 8 ≤ s.isl.started → s.on F.PWR_STAT_WAKING = false → s.power = 0 →
    s.on F.PWR_STAT_ENTERING = false →
    let e := s.elapseLt (s.base + s.courseNs)
    let a := if e.stepsNow then e.correct.2.loadStep (e.epsilon.getD 0) else e.correct.2
    let c := a.closeCourse
    let y := ({ c with course := (c.course + 1) % 2 ^ 32, base := s.base + s.courseNs } : State).plumbBoundary a.course
    let z := y.commitBoundary.afterCommit y.gen
    (e.correct.1 = true → exec .courseBoundary s = .next (s.finish
      ({ z with test := { z.test with nine := z.on F.LANE_REST_DEGRADED } }.boundaryTail c a.silentCourse))) ∧
    (e.correct.1 = false → exec .courseBoundary s = .next (s.finish a)) ∧
    (s.isSource = true → e.correct.1 = true)) ∧
  (∀ s : State, s.clk.ltOn = true → 8 ≤ s.isl.started → s.on F.PWR_STAT_WAKING = false → s.power ≤ 2 →
    (s.power ≠ 0 ∨ s.on F.PWR_STAT_ENTERING = true) →
    exec .courseBoundary s = .next (s.finish
      ({ (s.elapseLt (s.base + s.courseNs)).closeBundles with
          course := (s.course + 1) % 2 ^ 32, base := s.base + s.courseNs }.boundaryToken false))) ∧
  (∀ s : State, s.clk.ltOn = false → s.portsLive = false → exec .courseBoundary s = .next (s.finish s)) ∧
  (∀ (s : State) (m : RxMsg), s.awake 8 = true → s.inFlight s.base = false → s.trw.rx = [m] → m.course + 16 ≤ s.course → s.trw.ctxs = [] →
    exec .msgReassemblyTimeout s = .next (s.finish
      (({ s with trw := { s.trw with rx := [], broken := (m.uid, m.stream, m.id) :: s.trw.broken } } : State).inc F.TRW_MSG_DISCARD)))

/-- R83, R109: at the start of slot 0 the datum hands a SYNC frame (kind 2, DST 63, the boundary as payload) to its ports. R116: slot 4
carries the ROLL of the position whose turn it is, and nothing else is sent in it. R87: the datum's slot 6 without a decision is a null
frame. R436: a VOTE slot carries the vote of its owner, with the control sequence. A slot that the state mutes, and one that another
position owns, send nothing. R205, R196: TRW_TX_LEAD before an own MSG slot its context is taken and the frame kept for the slot;
without a context a null frame is kept. -/
def Obligations.SlotsServed : Prop :=
  (∀ (rival : Option (BitVec 48)) (coll : BitVec 8) (s : State) (e : Slot), s.slot 0 = some e → s.originates = true →
    let a := s.elapseLt (s.base + e.start)
    a.slotMuted 0 = false → a.actsDatum = true → a.so.provis = false →
    exec (.slotTransmit 0 rival coll) s =
      .next (s.finish ((a.sendControl 2 0 0 63 (wordsOf 4 a.base) a.ownPorts coll.toNat).syncToken a.base))) ∧
  (∀ (slot : Fin 1024) (rival : Option (BitVec 48)) (coll : BitVec 8) (s : State) (e : Slot), s.slot slot.val = some e →
    s.originates = true →
    let a := s.elapseLt (s.base + e.start)
    (a.slotMuted slot.val = true → exec (.slotTransmit slot rival coll) s = .next (s.finish a)) ∧
    (a.slotMuted slot.val = false → slot.val = 4 →
      exec (.slotTransmit slot rival coll) s = .next (s.finish
        (if a.pos = a.course % max 1 a.count + 1 then a.sendControl 3 0 4 63 a.rollPayload a.ownPorts coll.toNat else a))) ∧
    (a.slotMuted slot.val = false → slot.val = 6 → a.actsDatum = true → a.claimDecision = none →
      exec (.slotTransmit slot rival coll) s = .next (s.finish
        (a.handOver a.ownPorts (a.ownFrame 4 0 6 63 a.trw.ctl []) coll.toNat))) ∧
    (a.slotMuted slot.val = false → 8 ≤ slot.val → a.ownerOf slot.val ≠ a.pos →
      exec (.slotTransmit slot rival coll) s = .next (s.finish a)) ∧
    (a.slotMuted slot.val = false → 8 ≤ slot.val → e.kind = 8 → a.ownerOf slot.val = a.pos → a.pos ≠ 0 →
      a.on F.SETO_STAT_SCHED_MISMATCH = false →
      exec (.slotTransmit slot rival coll) s = .next (s.finish
        ((a.sendControl 6 (2 * a.votesSleep.toNat) slot.val e.dst [] a.ownPorts coll.toNat).setB F.WAKE_STAT_VOTING_SLEEP
          a.votesSleep)))) ∧
  (∀ (slot : Fin 1024) (held : Bool) (s : State) (e : Slot), s.running = true → s.slot slot.val = some e → e.kind = 7 →
    s.ownerOf slot.val = s.pos → s.clk.lt < s.base + e.start → s.isOut = false → s.engineHeld = false →
    let a := s.elapseLt (s.base + e.start - s.get F.TRW_TX_LEAD * 1000)
    let b := (a.ctxAlloc (a.serving.headD 0) 1 slot.val).2
    ((a.ctxAlloc (a.serving.headD 0) 1 slot.val).1 = true → exec (.txContextBind slot held) s =
      .next (s.finish { (b.msgFrame e).2 with
        trw := { (b.msgFrame e).2.trw with bufTx := put slot.val (b.msgFrame e).1 (b.msgFrame e).2.trw.bufTx } })) ∧
    ((a.ctxAlloc (a.serving.headD 0) 1 slot.val).1 = false → exec (.txContextBind slot held) s =
      .next (s.finish { b with trw := { b.trw with bufTx := put slot.val [4, 0] b.trw.bufTx } })))

/-- R97: a frame whose header fails its check is counted in SPK_HDR_ERR with the port's event and goes no further, but for the
lead-ins that its W0 had called for (R171); on a trunk port, where a context is free, a frame that passes is heard, relayed, judged
and its context given back, and a TIMING frame is judged by R147 in place of R97's steps 5 and 6 (Spaka-B links). While a slice holds
the engine the header waits at the port (R194). A frame that a branch gate finds in violation is counted there (R181). Before the
start is complete nothing is received (R465). -/
def Obligations.FramesReceived : Prop :=
  (∀ (port : Port) (stamp : DWord) (words : Frame) (short : Bool) (desc : List Byte) (phy : RxPhy) (s : State),
    s.awake port.val = true → s.get F.SPK_CFG_GEN port.val ≠ 0 → s.get F.SPK_CFG_GEN port.val ≠ 1 →
    s.up port.val = true → s.portGen port.val = 2 → s.get F.SPK_TEST port.val = 0 →
    let f := words.map BitVec.toNat
    let a := s.elapseLt (stamp.toNat + (f.length - 1) * tWord 2)
    hchkOk f = false → a.standby = false →
    exec (.frameReceive port stamp words short desc phy) s = .next (s.finish
      (let b := ((a.pairFault f).inc F.SPK_HDR_ERR port.val).irq (8 + port.val) 10
       if b.gated port.val then b else b.leadIns port.val stamp.toNat (stamp.toNat + (f.length - 1) * tWord 2) f))) ∧
  (∀ (port : Port) (stamp : DWord) (words : Frame) (desc : List Byte) (phy : RxPhy) (s : State),
    s.awake port.val = true → s.running = true → s.get F.SPK_CFG_GEN port.val ≠ 0 → s.get F.SPK_CFG_GEN port.val ≠ 1 →
    s.up port.val = true → s.portGen port.val = 2 → s.get F.SPK_TEST port.val = 0 →
    let f := words.map BitVec.toNat
    let stop := stamp.toNat + (f.length - 1) * tWord 2
    let a := s.elapseLt stop
    hchkOk f = true →
    (a.gated port.val = false → a.engineHeld = false → (fKind f ≠ 3 ∨ fSlot f ≠ 2) →
      let b := (a.portHears port.val stamp.toNat f).relay port.val stamp.toNat stop f (fcrcOk f) none phy.coll
      let c := b.2.ctxFrame port.val (0x30000000 + fSlot f) f stamp.toNat
      c.1 = true →
      exec (.frameReceive port stamp words false desc phy) s = .next (s.finish
        ((if fKind f = 3 && fSlot f = 0x3FF && fFlags f = 0 then c.2.timingFrame port.val stamp.toNat stop f
          else c.2.judge97 port.val stamp.toNat stop f b.1 (desc.map BitVec.toNat)).ctxFree port.val (0x30000000 + fSlot f)))) ∧
    (a.gated port.val = false → a.engineHeld = true →
      exec (.frameReceive port stamp words false desc phy) s = .next (s.finish
        (let h := a.portHears port.val stamp.toNat f
         { h with trw := { h.trw with crossing := h.trw.crossing ++
           [⟨port.val, stamp.toNat, stop, f, true, none, false, desc.map BitVec.toNat, phy.coll⟩] } }))) ∧
    (a.gated port.val = true → a.branchGate port.val stamp.toNat stop f = .violation →
      exec (.frameReceive port stamp words false desc phy) s = .next (s.finish (a.branchViolation port.val (fSlot f) (fSrc f))))) ∧
  (∀ (port : Port) (stamp : DWord) (words : Frame) (short : Bool) (desc : List Byte) (phy : RxPhy) (s : State), s.isl.started < 8 →
    exec (.frameReceive port stamp words short desc phy) s = .next (s.finish s))

/-- R74, R75, R71: an attempt fixes its end, generation and PHY role, a configured generation and role taken as configured;
the link comes up on what the attempt chose, counted, and a port of setting-out then probes; a lost link clears what it
reported and is counted, in HOLD too (R425), and a facing port's loss then goes to setting-out; a Spaka-A link expires 30 ms after its
last frame, decided at the horizon of R158 (200 ns: the model's choice, log entry 96). -/
def Obligations.LinksComeUpAndGoDown : Prop :=
  (∀ (port : Port) (s : State), s.phyOn port.val = true → s.up port.val = false → s.phyDrives = true →
    (s.line port.val).attempt = none → s.lines.length = 8 →
    ∃ x e g m, exec (.linkAttempt port) s = .next (s.finish x) ∧ (x.line port.val).attempt = some (e, g, m) ∧ (g = 2 ∨ g = 3) ∧
      e = s.clk.now + (if g = 2 then 40000000 else 120000000) ∧
      (s.get F.SPK_CFG_GEN port.val = 2 → g = 2) ∧ (s.get F.SPK_CFG_GEN port.val = 3 → g = 3) ∧
      (s.on F.SPK_CFG_ROLE_MODE port.val = true → m = s.on F.SPK_CFG_ROLE port.val) ∧ x.regs = s.regs) ∧
  (∀ (port : Port) (gen : BitVec 2) (master : Bool) (s : State) (e g : Nat) (m : Bool), s.phyOn port.val = true →
    s.phyDrives = true → (s.line port.val).attempt = some (e, g, m) → s.up port.val = false → g < 4 →
    ∃ y : State, y.get F.SPK_LINK_UP port.val = 1 ∧ y.get F.SPK_LINK_GEN port.val = g ∧ y.get F.SPK_LINK_MASTER port.val = m.toNat ∧
      y.get F.SPK_LINKCNT_UPS port.val = min (s.get F.SPK_LINKCNT_UPS port.val + 1) (2 ^ F.SPK_LINKCNT_UPS.width - 1) ∧
      exec (.linkUp port gen master) s = .next (s.finish
        (if y.setoutPort port.val && bit y.sched.genset (g - 1) && !y.isOut then y.startProbe port.val else y))) ∧
  (∀ (port : Port) (s : State), 8 ≤ s.isl.started → s.islandAsleep port.val = false → 2 ≤ s.get F.SPK_CFG_GEN port.val →
    s.get F.SPK_CFG_GEN port.val ≤ 4 → s.up port.val = true →
    ∃ y : State, y.get F.SPK_LINK_UP port.val = 0 ∧ y.get F.SPK_LINK_GEN port.val = 0 ∧
      y.get F.SPK_LINKCNT_DOWNS port.val = min (s.get F.SPK_LINKCNT_DOWNS port.val + 1) (2 ^ F.SPK_LINKCNT_DOWNS.width - 1) ∧
      bit (y.get F.PG_IRQ_RAW (8 + port.val)) 9 = true ∧
      exec (.linkDown port) s = .next (s.finish
        (if s.setoutPort port.val && !(s.on F.SPK_LINK_GEN_MISMATCH port.val) && !y.isOut then y.loss port.val else y))) ∧
  (∀ (port : Port) (s : State), s.awake port.val = true → s.get F.SPK_CFG_GEN port.val = 1 → s.up port.val = true →
    s.inFlight (s.asLine ((s.line port.val).lastRx + 30000001)) = false →
    exec (.spakaALinkExpiry port) s =
      .next (s.finish ((s.elapseTo ((s.line port.val).lastRx + 30000001 + 200)).linkDown port.val)))

/-- R524, R525: a legal SPK_CFG or SPK_TEST is taken, and the port starts anew. -/
def Obligations.LegalPortConfigTaken : Prop :=
  (∀ (ifc : Ifc) (port : Port) (value : Reg) (facts : WFacts) (s : State), s.takes ifc (0x8100 + 0x1000 * port.val) = true →
    value.toNat < 32 → value.toNat % 8 ≤ 4 → (value.toNat % 8 = 1 → port.val < 2) → value.toNat % 8 ≠ s.get F.SPK_CFG_GEN port.val →
    s.get F.SPK_TEST port.val = 0 →
    ∃ y : State, y.get F.SPK_CFG_GEN port.val = value.toNat % 8 ∧ y.on F.SPK_CFG_ROLE_MODE port.val = bit value.toNat 3 ∧
      y.on F.SPK_CFG_ROLE port.val = bit value.toNat 4 ∧
      exec (.spkCfgWrite ifc port value facts) s = .next (s.finish (y.joinPin.portRestart port.val))) ∧
  (∀ (ifc : Ifc) (port : Port) (mode : BitVec 4) (facts : WFacts) (s : State), s.takes ifc (0x8104 + 0x1000 * port.val) = true →
    mode.toNat = 0 ∨ (pmaModes (s.get F.SPK_CFG_GEN port.val)).contains mode.toNat = true → mode.toNat ≠ s.get F.SPK_TEST port.val →
    ∃ y : State, y.get F.SPK_TEST port.val = mode.toNat ∧
      exec (.pmaTestMode ifc port mode facts) s = .next (s.finish (y.joinPin.portRestart port.val)))

/-- R106, R528, R107: LOAD takes the image into validation, or is refused as BUSY and counted; validation ends with its code, an
image without fault becomes the pending schedule; DISCARD drops the pending schedule. -/
def Obligations.ScheduleCommands : Prop :=
  (∀ (ifc : Ifc) (facts : WFacts) (s : State), s.takes ifc 0x1210C = true → s.on F.SCHD_RESULT_BUSY = true →
    exec (.scheduleLoad ifc facts) s = .next (s.finish
      ((((s.counted 0x12).set F.SCHD_RESULT_CODE 0x13).set F.SCHD_RESULT_OFFSET 0).inc F.SCHD_REJECTS))) ∧
  (∀ (ifc : Ifc) (facts : WFacts) (s : State), s.takes ifc 0x1210C = true → s.on F.SCHD_RESULT_BUSY = false → s.on F.SCHD_SRC = true →
    exec (.scheduleLoad ifc facts) s = .next (s.finish
      (({ s.counted 0x12 with loading := some (s.vBytes (0x080000 + s.get F.SCHD_ADDR) (s.get F.SCHD_LEN)) } : State).set F.SCHD_RESULT_BUSY 1))) ∧
  (∀ (ifc : Ifc) (facts : WFacts) (s : State), s.takes ifc 0x1210C = true → s.on F.SCHD_RESULT_BUSY = false → s.on F.SCHD_SRC = false →
    let r := (s.counted 0x12).qRead 3 (s.get F.SCHD_ADDR) (s.get F.SCHD_LEN)
    exec (.scheduleLoad ifc facts) s = .next (s.finish (({ r.2.2 with loading := some r.2.1 } : State).set F.SCHD_RESULT_BUSY 1))) ∧
  (∀ (s : State) (im : List Nat), s.awake 8 = true → s.loading = some im →
    ∃ x, exec .scheduleValidationDone s = .next (s.finish x) ∧ x.loading = none ∧ x.get F.SCHD_RESULT_BUSY = 0 ∧
      x.get F.SCHD_RESULT_CODE = (validate im im.length (s.boot.straps % 2)).1 % 256 ∧
      bit (x.get F.PG_IRQ_RAW 0x12) 8 = true ∧ x.sched = s.sched ∧
      ((validate im im.length (s.boot.straps % 2)).1 = 0 → x.pendSched = some (parseImage im) ∧ x.get F.SCHD_RESULT_PENDING = 1) ∧
      ((validate im im.length (s.boot.straps % 2)).1 ≠ 0 → x.pendSched = s.pendSched)) ∧
  (∀ (ifc : Ifc) (facts : WFacts) (s : State), s.takes ifc 0x1210C = true →
    exec (.scheduleDiscard ifc facts) s = .next (s.finish
      ((({ s.counted 0x12 with pendSched := none } : State).set F.SCHD_RESULT_PENDING 0).set F.SCHD_PENDING_ID 0)))

/-- R88, R90: CLAIM starts a claim, RELEASE asks for the release of a quoin that is owned; stated for a node that is no standby or OUT
twin. -/
def Obligations.ClaimCommands : Prop :=
  ∀ (ifc : Ifc) (facts : WFacts) (s : State), s.takes ifc 0x12128 = true → s.standby = false → s.isOut = false →
    exec (.claimStart ifc facts) s = .next (s.finish
      ({ (s.counted 0x12).set F.SCHD_CLAIM_STAT_STATE 1 with so := { s.so with claimKept := [], claimNow := [] } })) ∧
    (s.ownQuoin.isSome = true →
      exec (.claimRelease ifc facts) s = .next (s.finish ({ s.counted 0x12 with so := { s.so with claimRel := true } }))) ∧
    (s.ownQuoin = none → exec (.claimRelease ifc facts) s = .next (s.finish (s.counted 0x12)))

/-! ### Setting-out, keys and line time (chapters 04 and 05) -/

/-- R115, R130, R140: a coupling input that has changed its level starts probing on its port or reports the loss there; asleep
the node keeps the level for later. CAB_ACTIVE on a wayside node, or asleep, is only kept; at an end node
of a train that is no arbiter a change is reported, and at a node that is no end node an active level is counted in SETO_CAB_IGN.
START raises the event TRIGGER, probes every setting-out port whose link is up, and reports a hub configuration that differs from the
one in effect.
R132, R117, R140, R155: after three courses without SYNC a member becomes ORPHAN, and a provisional datum that reports DATUM_LOST
where the break lies next to it; a REPORT without answer for 3 courses is
due again; an ORPHAN without plan, probe or provisional datum becomes ALONE at position 1 of 1, datum unless it is an arbiter; an adoption
without two SYNCs of courses that follow each other, or without Theta, fails, is counted and sends the joiner to REJOIN; with two SYNCs of courses that follow each other the joiner
steps to the survivor's line time and takes its place in the plan. -/
def Obligations.SettingOut : Prop :=
  (∀ (port : Fin 2) (level : Bool) (s : State), s.awake 8 = true → bit s.so.cpl port.val = !level →
    exec (.couplingChange port level) s = .next (s.finish
      (let a : State := { s with so := { s.so with cpl := setBit s.so.cpl port.val level } }
       if level then a.startProbe port.val else a.loss port.val))) ∧
  (∀ (port : Fin 2) (level : Bool) (s : State), s.awake 8 = false →
    exec (.couplingChange port level) s = .next (s.finish { s with so := { s.so with cpl := setBit s.so.cpl port.val level } })) ∧
  (∀ (level : Bool) (s : State), s.awake 8 = false ∨ s.wayside = true →
    exec (.cabActiveChange level) s = .next (s.finish { s with so := { s.so with cab := level } })) ∧
  (∀ (level : Bool) (s : State), s.awake 8 = true → s.wayside = false → s.count ≠ 1 → s.pos ≠ 1 → s.pos ≠ s.count → s.so.cab = !level →
    exec (.cabActiveChange level) s = .next (s.finish
      (let a : State := { s with so := { s.so with cab := level } }
       let b := (a.setEntry a.pos { a.entry a.pos with pref := a.ownPref }).prefFlags
       if level then b.inc F.SETO_CAB_IGN else b))) ∧
  (∀ (level : Bool) (s : State), s.awake 8 = true → s.wayside = false → s.count ≠ 1 → (s.pos = 1 ∨ s.pos = s.count) → s.arbiter = false →
    s.so.cab = !level →
    exec (.cabActiveChange level) s = .next (s.finish
      (let a : State := { s with so := { s.so with cab := level } }
       let b := (a.setEntry a.pos { a.entry a.pos with pref := a.ownPref }).prefFlags
       b.triggered.report (b.reportPayload 3 0 0 0 0) 1 (b.course + 1)))) ∧
  (∀ (ifc : Ifc) (facts : WFacts) (s : State), s.takes ifc 0x11104 = true → s.standby = false → s.isOut = false →
    let a : State := { (s.counted 0x11).irq 0x11 8 with so := { s.so with trigger := s.course } }
    let b := ((List.range 8).filter (fun n => (n < 2 || bit s.so.hub 0) && s.up n)).foldl (fun y n => y.startProbe n) a
    exec (.setoutStart ifc facts) s = .next (s.finish
      (if (b.on F.HUB_CFG_HUB_EN).toNat + 2 * (b.on F.HUB_CFG_END0_BRANCH).toNat + 4 * (b.on F.HUB_CFG_END1_BRANCH).toNat = b.so.hub then b
       else b.report (b.reportPayload 3 0 0 0 0) 1 b.course))) ∧
  (∀ (s : State), s.running = true → s.isSource = false → 3 ≤ s.get F.LINE_STAT_SYNC_MISS → 1 ≤ s.soState → s.soState ≤ 5 →
    s.inFlight s.base = false →
    (s.standby = false → s.arbiter = false → ∃ x, exec (.syncLoss true) s = .next (s.finish x) ∧ x.soState = 5 ∧
      x.so.provis = true ∧ x.so.provisAt = s.course + 1 ∧ x.so.facing = none ∧ x.so.orphanAt = some s.course ∧
      x.so.event = some (s.reportPayload 2 (s.so.facing.getD 0) 0 s.lineUid 0)) ∧
    ∃ x, exec (.syncLoss false) s = .next (s.finish x) ∧ x.soState = 5 ∧ x.so.orphanAt = some s.course ∧ x.so.trigger = s.course ∧
      bit (x.get F.PG_IRQ_RAW 0x11) 8 = true) ∧
  (∀ (s : State) (e : List Nat) (c : Nat), s.running = true → s.so.event = some e → s.so.sentAt = some c → c + 3 ≤ s.course →
    s.inFlight s.base = false →
    exec .reportRepeatTimeout s = .next (s.finish { s with so := { s.so with sentAt := none, eventFrom := s.course } })) ∧
  (∀ (s : State) (c : Nat), s.running = true → s.so.orphanAt = some c → s.soState = 5 → c + 3 ≤ s.course → s.so.plan = none →
    s.so.alt = 0 → s.so.provis = false → s.so.probes = [] → s.inFlight s.base = false →
    ∃ x, exec .orphanTimeout s = .next (s.finish x) ∧ x.soState = 0 ∧ x.pos = 1 ∧ x.count = 1 ∧ x.isDatum = !s.arbiter ∧
      x.so.event = none ∧ x.so.orphanAt = none) ∧
  (∀ (s : State) (p : Plan), s.running = true → s.so.plan = some p → p.joining = true →
    (∀ k t0 t1, s.so.syncs = [(k + 1, t1), (k, t0)] → s.on F.LINE_STAT_THETA_VALID = false) →
    ∃ x, exec .joinerAdoption s = .next (s.finish x) ∧ x.soState = 8 ∧ x.so.plan = none ∧
      x.get F.LINE_ADOPT_FAIL = min (s.get F.LINE_ADOPT_FAIL + 1) (2 ^ F.LINE_ADOPT_FAIL.width - 1) ∧
      bit (x.get F.PG_IRQ_RAW 0x10) 12 = true) ∧
  (∀ (s : State) (p : Plan) (k t0 t1 : Nat), s.running = true → s.so.plan = some p → p.joining = true →
    s.so.syncs = [(k + 1, t1), (k, t0)] → s.on F.LINE_STAT_THETA_VALID = true →
    let b := t0 + (p.commit - k) * (t1 - t0)
    let a := s.elapseLt ((b : Int) - s.bigTheta).toNat
    let y := ({ (a.loadLt b).stepped ((b : Int) - a.clk.lt) true with course := p.commit, base := b } : State).setLock true |>.commitPlan p
    exec .joinerAdoption s = .next (s.finish
      (((((y.loadStep ((y.clk.lt : Int) - s.clk.lt)).plumbBoundary s.course).closeBundles).afterCommit s.gen).boundaryTail s false)))

/-- R529, R530, R139, R137: a key whose three lower parts the interface holds is installed whole in the selected slot and VALID, and
without all three KEY3 installs nothing; KEYSEL selects, and a new selection drops the parts held; ROLL on the datum asks for a roll,
and on another node is refused and reported RESET; CLEAR_KEY forgets the selected slot's key; STR_CLEAR empties the stranger table.
R141, R142: LINE_CMD.SET of an ALONE node takes the staged line time, the time since the boundary kept, and on another node is refused
and reported RESET; SNAP keeps line time and RTC of one instant. -/
def Obligations.KeysAndLineTime : Prop :=
  (∀ (ifc : Ifc) (high : Reg) (facts : WFacts) (s : State) (h0 h1 h2 : Nat), s.takes ifc 0x15114 = true →
    s.heldPart ifc.id 0x15108 = some h0 → s.heldPart ifc.id 0x1510C = some h1 → s.heldPart ifc.id 0x15110 = some h2 →
    h0 < 2 ^ 32 → h1 < 2 ^ 32 → h2 < 2 ^ 32 →
    ∃ x, exec (.keyInstall ifc high facts) s = .next (s.finish x) ∧
      x.keys = put (s.get F.ADM_KEYSEL) (h0 + h1 * 2 ^ 32 + h2 * 2 ^ 64 + high.toNat * 2 ^ 96) s.keys ∧
      bit (x.get F.ADM_KEYSTAT_VALID) (s.get F.ADM_KEYSEL) = true ∧ x.heldPart ifc.id 0x15108 = none ∧
      x.get F.PG_SEQ 0x15 = (s.get F.PG_SEQ 0x15 + 1) % 65536) ∧
  (∀ (ifc : Ifc) (high : Reg) (facts : WFacts) (s : State), s.takes ifc 0x15114 = true →
    (s.heldPart ifc.id 0x15108 = none ∨ s.heldPart ifc.id 0x1510C = none ∨ s.heldPart ifc.id 0x15110 = none) →
    ∃ x, exec (.keyInstall ifc high facts) s = .next (s.finish x) ∧ x.keys = s.keys ∧
      x.get F.ADM_KEYSTAT_VALID = s.get F.ADM_KEYSTAT_VALID ∧ (high ≠ 0 → x.get F.PG_CLAMP_CAUSE 0x15 = 8) ∧
      (∀ b ∈ [0x15108, 0x1510C, 0x15110], x.heldPart ifc.id b = none)) ∧
  (∀ (ifc : Ifc) (slot : BitVec 2) (facts : WFacts) (s : State), s.takes ifc 0x15104 = true →
    ∃ x, exec (.keySelect ifc slot facts) s = .next (s.finish x) ∧ x.get F.ADM_KEYSEL = slot.toNat ∧ x.keys = s.keys ∧
      (slot.toNat ≠ s.get F.ADM_KEYSEL → ∀ m, ∀ b ∈ [0x15108, 0x1510C, 0x15110], x.heldPart m b = none)) ∧
  (∀ (ifc : Ifc) (facts : WFacts) (s : State), s.takes ifc 0x1511C = true →
    (s.isDatum = true →
      exec (.keyRoll ifc facts) s = .next (s.finish ((s.counted 0x15).set F.ADM_KEYSTAT_ROLL_PENDING 1))) ∧
    (s.isDatum = false → exec (.keyRoll ifc facts) s = .next (s.finish
      ((s.clampReport ⟨0x15, 0, 1, 0x11C, 1, 0, ifc.id⟩).counted 0x15))) ∧
    exec (.keyClear ifc facts) s = .next (s.finish
      (({ s.counted 0x15 with keys := del (s.get F.ADM_KEYSEL) s.keys } : State).clrBit F.ADM_KEYSTAT_VALID (s.get F.ADM_KEYSEL))) ∧
    exec (.strangerTableClear ifc facts) s = .next (s.finish
      (((s.counted 0x15).eraseRegs 0x15200 0x15300).set F.ADM_STR_USED 0))) ∧
  (∀ (ifc : Ifc) (facts : WFacts) (s : State), s.takes ifc 0x10104 = true →
    (s.soState = 0 → exec (.lineTimeSet ifc facts) s = .next (s.finish
      (({ (s.counted 0x10).loadLt (s.get F.LINE_SET_LO + 2 ^ 32 * s.get F.LINE_SET_HI) with
          base := s.get F.LINE_SET_LO + 2 ^ 32 * s.get F.LINE_SET_HI - s.into } : State).loadStep
        (((s.get F.LINE_SET_LO + 2 ^ 32 * s.get F.LINE_SET_HI : Nat) : Int) - s.clk.lt)))) ∧
    (s.soState ≠ 0 → exec (.lineTimeSet ifc facts) s = .next (s.finish
      ((s.clampReport ⟨0x10, 0, 1, 0x104, 1, 0, ifc.id⟩).counted 0x10))) ∧
    ∃ x, exec (.lineTimeSnap ifc facts) s = .next (s.finish x) ∧ x.get F.LINE_SNAP_LT_LO = s.clk.lt % 2 ^ 32 ∧
      x.get F.LINE_SNAP_LT_HI = s.clk.lt / 2 ^ 32 % 2 ^ 32 ∧ x.get F.LINE_SNAP_RTC_LO = s.clk.sec % 2 ^ 32 ∧
      x.get F.LINE_SNAP_RTC_HI_SECONDS = s.clk.sec / 2 ^ 32 % 256 ∧ x.get F.LINE_SNAP_RTC_HI_SUBSEC = s.clk.sub % 2 ^ 15 ∧ x.clk = s.clk)

/-- R148, R69: at G, or at the reply's instant after it, a Spaka-A port in service sends its TIMING frame to the member named, stopped
by a collision; on other ports the exchange of G puts a TIMING frame on every Spaka-B and Spaka-C port that holds one, to the partner
there. A node that originates nothing sends none.
R161, R162: a Sync or an Announce that falls due on an LE port that gives 1588 service is numbered and queued, and goes out at once
unless the port is paused; without service, or while the served time is negative, only the due time moves on and the status shows it.
R506: PPS_OUT pulses at the next whole second of line time that has not had its pulse, under LOCK; while line time does not count,
or the Trowel is off, nothing happens. -/
def Obligations.TimeGivenOut : Prop :=
  (∀ (port : Port) (dst : BitVec 6) (turn : TimingTurn) (s : State), s.originates = true →
    (s.portGen port.val = 1 → s.up port.val = true →
      let a := s.elapseLt (s.base + s.gapAt + (if turn.reply then 232000 else 0))
      let y := a.sendTiming port.val a.clk.lt dst.toNat
      exec (.timingExchangeStart port dst turn) s = .next (s.finish
        (if s.so.excluded.contains port.val then a
         else if turn.coll && (y.line port.val).sending != (a.line port.val).sending then y.collide port.val 0x3FF else y))) ∧
    ((s.portGen port.val ≠ 1 ∨ s.up port.val = false) →
      exec (.timingExchangeStart port dst turn) s = .next (s.finish
        (let a := s.elapseLt (s.base + s.gapAt)
         a.timingPorts.foldl (fun y n => y.sendTiming n y.clk.lt (y.neighbour n)) a)))) ∧
  (∀ (port : Port) (dst : BitVec 6) (turn : TimingTurn) (s : State), s.originates = false →
    exec (.timingExchangeStart port dst turn) s = .next (s.finish s)) ∧
  (∀ (port : Port) (ann : Bool) (s : State), s.hostLive = true →
    let k := 2 * port.val + ann.toNat
    let c := if ann then Instr.ptpAnnounceTx port else Instr.ptpSyncTx port
    let d := match s.loc.ptpAt.find? (fun x => x.1 == k) with
      | some x => s.elapseTo (x.2 + logNs (if ann then s.get F.LINE_PTP_INT_LOG_ANN else s.get F.LINE_PTP_INT_LOG_SYNC))
      | none => s
    let a := ({ d with loc := { d.loc with ptpAt := put k d.clk.now d.loc.ptpAt } } : State).setB F.PG_STAT_STATUS d.ptpNeg 0x10
    ((s.ptpOn port.val = false ∨ d.ptpNeg = true) → exec c s = .next (s.finish a)) ∧
    (s.ptpOn port.val = true → d.ptpNeg = false →
      ∃ (b : State) (m : Ptp), b.loc.ptpTx = s.loc.ptpTx ++ [(port.val, m)] ∧ m.kind = (if ann then 0xB else 0) ∧
        m.seq = look 0 k s.loc.ptpSeq ∧ look 0 k b.loc.ptpSeq = (look 0 k s.loc.ptpSeq + 1) % 65536 ∧ b.out = s.out ∧
        exec c s = .next (s.finish (if b.paused port.val then b else b.ethTransmit port.val)))) ∧
  (∀ s : State,
    (s.clk.ltOn = true → s.islandAsleep 8 = false →
      let next := (s.clk.lt + 999999999) / 1000000000 * 1000000000
      let due := if s.pins.pps = some next then next + 1000000000 else next
      let y : State := { s.elapseLt due with pins := { s.pins with pps := some due } }
      exec .ppsPulse s = .next (s.finish (if s.on F.LINE_STAT_LOCK then y.emit (.pulse "PPS_OUT") else y))) ∧
    ((s.clk.ltOn = false ∨ s.islandAsleep 8 = true) → exec .ppsPulse s = .next (s.finish s)))

/-! ### Lintel and Keystone (chapter 06) -/

/-- R165, R166, R170: the next map is put into the shadow bank, valid if its CRCs agree before G; a disagreeing refresh of the
active map is remembered; at a window's end, the drift window's included, a transmission in it that still runs is cut and counted in
GRD_P_TRUNC, and with none in it nothing happens. -/
def Obligations.LintelMaps : Prop :=
  (∀ (port : Port) (agree : Bool) (s : State), s.awake 8 = true → s.awake port.val = true →
    exec (.lintelMapLoad port agree) s = .next (s.finish
      (s.setLine port.val { s.line port.val with shadow := some (s.preview.needMap port.val, agree && decide (s.into < s.gapAt)) }))) ∧
  (∀ (port : Port) (agree : Bool) (s : State), s.awake 8 = true → s.awake port.val = true → (s.line port.val).map.isSome = true →
    exec (.mapCrcRefresh port agree) s = .next (s.finish
      (if agree then s else s.setLine port.val { s.line port.val with crcBad := true }))) ∧
  (∀ (port : Port) (slot : Fin 1024) (s : State), s.awake port.val = true →
    (∀ start f, (s.line port.val).sending ≠ some (slot.val, start, f)) →
    exec (.originateWindowClose port slot) s = .next (s.finish s)) ∧
  (∀ (port : Port) (slot : Fin 1024) (s : State) (m : LMap) (start : Nat) (f : List Nat) (e : Nat × Nat × Nat × Nat), s.awake port.val = true →
    (s.line port.val).map = some m → (s.line port.val).sending = some (slot.val, start, f) →
    ((fKind f = 3 ∧ fSlot f = 0x3FF) ∨ m.entries[slot.val]? = some e) →
    let close : Int := s.lintelBase port.val +
      (if fKind f = 3 ∧ fSlot f = 0x3FF then m.gap + m.w else e.1 + e.2.1 + m.g : Nat)
    let a := (s.elapseLt close.toNat).setLine port.val { s.line port.val with sending := none }
    exec (.originateWindowClose port slot) s = .next (s.finish
      (if close < (start + airTime (s.portGen port.val) (fLen f) : Nat) then
        (a.inc F.GRD_P_TRUNC port.val).emit (.cut port.val slot.val) else a)))

/-- R172, R173: ARB_KILL_N low for 30 ns or longer, or for 10 ns or longer where the filter takes the pulse, latches the kill once:
KILL_STAT latched with the pin low, counted, with its event and the urgent source, and every Lintel KILLED with nothing in its hands;
a pulse that the filter rejects only lets its time pass, and in a node whose port islands are off the level is kept for their return.
1 µs of high ends it: the Lintel of a port with a map enters REARM, one without a map in a node that sleeps or wakes shows
ASLEEP_WAKE where its port takes part, and any other is SHUT. -/
def Obligations.KillLatchSetsAndClears : Prop :=
  (∀ (low : Nat) (taken : Bool) (s : State), low < 10 ∨ (low < 30 ∧ taken = false) →
    exec (.killAssert low taken) s = .next (s.finish (s.elapse low))) ∧
  (∀ (low : Nat) (taken : Bool) (s : State), 10 ≤ low → (30 ≤ low ∨ taken = true) → (s.isl.started < 8 ∨ 3 ≤ s.power) →
    exec (.killAssert low taken) s = .next (s.finish { s.elapse (min low 30) with twin := { s.twin with killPin := true } })) ∧
  (∀ (low : Nat) (taken : Bool) (s : State), 10 ≤ low → (30 ≤ low ∨ taken = true) → 8 ≤ s.isl.started → s.power < 3 → s.killed = false → s.lines.length = 8 →
    ∃ x, exec (.killAssert low taken) s = .next (s.finish x) ∧ x.killed = true ∧ x.on F.GRD_KILL_STAT_PIN_LOW = true ∧
      x.get F.GRD_KILL_CNT = min (s.get F.GRD_KILL_CNT + 1) (2 ^ F.GRD_KILL_CNT.width - 1) ∧
      bit (x.get F.PG_IRQ_RAW 0x13) 8 = true ∧ bit (x.get F.IRQ_URG_RAW) 0 = true ∧ x.twin.killPin = true ∧
      (∀ n < 8, x.lintel n = 4 ∧ (x.line n).sending = none ∧ (x.line n).relaying = none ∧ (x.line n).primed = false)) ∧
  (∀ s : State, 8 ≤ s.isl.started → s.power < 3 → s.killed = true →
    ∃ x, exec .killRelease s = .next (s.finish x) ∧ x.killed = false ∧ x.on F.GRD_KILL_STAT_PIN_LOW = false ∧ x.twin.killPin = false ∧
      (∀ n < 8, x.lintel n = if (s.line n).map.isSome then 3
        else if (s.get F.PWR_STAT_STATE ≠ 0 ∨ s.on F.PWR_STAT_ENTERING = true ∨ s.on F.PWR_STAT_WAKING = true) ∧ s.runsOn n = true then 5
        else 0))

/-- R174, R236, R181, R182: what a port sees where nothing should be is counted: babble with the GRD event; carrier in an
own window is remembered, and on SP0 and SP1 in slot 0 or from slot 8 on it keeps the course from being silent; a violation on a branch
port is counted with its slot and source and, once CUT_N courses of violations are reached, cuts the branch; a port that is no branch,
or is under probe (log entry 74), counts none. A branch without LATCH whose clean courses have reached CLEAN_N is reinstated. -/
def Obligations.BranchesAndBabble : Prop :=
  (∀ (port : Port) (s : State), s.awake port.val = true →
    exec (.babbleDetect port) s = .next (s.finish ((s.inc F.GRD_P_BABBLE_RX port.val).irq 0x13 11))) ∧
  (∀ (port : Port) (slot : Fin 1024) (s : State), s.awake port.val = true →
    exec (.ownCarrierDetect port slot) s = .next (s.finish
      (let y := s.setLine port.val { s.line port.val with ownCar := true }
       if port.val < 2 ∧ (slot.val = 0 ∨ 8 ≤ slot.val) then { y with twin := { y.twin with sawCarrier := true } } else y))) ∧
  (∀ (port : Port) (slot : Fin 1024) (src : BitVec 6) (s : State), s.awake port.val = true → s.gated port.val = true →
    s.lines.length = 8 →
    ∃ x, exec (.branchViolation port slot src) s = .next (s.finish x) ∧
      x.get F.HUB_BR_LAST_SLOT port.val = slot.val ∧ x.get F.HUB_BR_LAST_SRC port.val = src.toNat ∧
      x.get F.HUB_BR_VIOL port.val = min (s.get F.HUB_BR_VIOL port.val + 1) (2 ^ F.HUB_BR_VIOL.width - 1) ∧
      bit (x.get F.PG_IRQ_RAW 0x14) 10 = true ∧
      ((s.line port.val).violNow = false → s.get F.HUB_BR_STAT_STATE port.val = 0 →
        s.get F.HUB_CFG_CUT_N ≤ (s.line port.val).violRun + 1 → x.get F.HUB_BR_STAT_STATE port.val = if s.on F.HUB_BR_CFG port.val then 2 else 1) ∧
      ((s.line port.val).violNow = true ∨ (s.line port.val).violRun + 1 < s.get F.HUB_CFG_CUT_N →
        x.get F.HUB_BR_STAT_STATE port.val = s.get F.HUB_BR_STAT_STATE port.val)) ∧
  (∀ (port : Port) (slot : Fin 1024) (src : BitVec 6) (s : State), s.awake port.val = true → s.gated port.val = false →
    exec (.branchViolation port slot src) s = .next (s.finish s)) ∧
  (∀ (port : Port) (s : State), s.awake port.val = true →
    (s.get F.HUB_BR_STAT_STATE port.val ≠ 1 ∨ s.on F.HUB_BR_CFG port.val = true ∨
      s.get F.HUB_BR_STAT_CLEAN port.val < s.get F.HUB_CFG_CLEAN_N) →
    exec (.branchReinstate port) s = .next (s.finish s)) ∧
  (∀ (port : Port) (s : State), s.awake port.val = true → s.get F.HUB_BR_STAT_STATE port.val = 1 → s.on F.HUB_BR_CFG port.val = false →
    s.get F.HUB_CFG_CLEAN_N ≤ s.get F.HUB_BR_STAT_CLEAN port.val →
    exec (.branchReinstate port) s = .next (s.finish
      (((s.set F.HUB_BR_STAT_STATE 0 port.val).set F.HUB_BR_STAT_CLEAN 0 port.val).irq 0x14 9)))

/-- R182, R473: HUB_CMD on a node that is no standby or OUT twin: CUT puts every branch port it names in CUT_HELD, REINSTATE lets
each one it names forward again, and a port named that is no branch port is left alone. A standby or OUT twin does neither. -/
def Obligations.HubCommand : Prop :=
  ∀ (ifc : Ifc) (mask : BitVec 8) (facts : WFacts) (s : State), s.takes ifc 0x14104 = true →
    (s.standby = false → s.isOut = false →
      (∃ x, exec (.branchCutCommand ifc mask facts) s = .next (s.finish x) ∧
        ∀ n < 8, x.get F.HUB_BR_STAT_STATE n = if bit mask.toNat n && s.isBranch n then 2 else s.get F.HUB_BR_STAT_STATE n) ∧
      (∃ x, exec (.branchReinstateCommand ifc mask facts) s = .next (s.finish x) ∧
        ∀ n < 8, x.get F.HUB_BR_STAT_STATE n = if bit mask.toNat n && s.isBranch n then 0 else s.get F.HUB_BR_STAT_STATE n)) ∧
    (s.standby = true ∨ s.isOut = true →
      (∃ x, exec (.branchCutCommand ifc mask facts) s = .next (s.finish x) ∧
        ∀ n < 8, x.get F.HUB_BR_STAT_STATE n = s.get F.HUB_BR_STAT_STATE n) ∧
      (∃ x, exec (.branchReinstateCommand ifc mask facts) s = .next (s.finish x) ∧
        ∀ n < 8, x.get F.HUB_BR_STAT_STATE n = s.get F.HUB_BR_STAT_STATE n))

/-! ### The Trowel (chapter 07) -/

/-- R189: APPLY, where the staged wheel leaves no channel short, asks for the change, and is refused where it leaves one short, which
CHANNEL then names; the next wrap copies every staged entry into the wheel in force, clears PENDING and raises its event.
R191, R193: a wrap with a rotation due rotates the lanes, unless a slice on the rest lane is in progress; a further failing lane
gives its position to the lane of the highest remaining one, which is withdrawn. R194: under a slice of the whole engine no wrap comes.
R196: a wrap first tries TIE work again that waits for a context. -/
def Obligations.WheelAppliedAtTheWrap : Prop :=
  (∀ (ifc : Ifc) (facts : WFacts) (s : State), s.takes ifc 0x18148 = true →
    (s.shortOf s.shareOf = none →
      exec (.wheelApply ifc facts) s = .next (s.finish ((s.counted 0x18).set F.TRW_WHEEL_STAT_PENDING 1))) ∧
    (∀ c, s.shortOf s.shareOf = some c → ∃ x, exec (.wheelApply ifc facts) s = .next (s.finish x) ∧
      x.get F.TRW_WHEEL_STAT_CHANNEL = c ∧ x.get F.TRW_WHEEL_STAT_PENDING = s.get F.TRW_WHEEL_STAT_PENDING ∧
      x.get F.PG_CLAMP_CAUSE 0x18 = 8 ∧ x.trw = s.trw)) ∧
  (∀ s : State, s.awake 8 = true → s.engineHeld = true → exec .wheelWrap s = .next (s.finish s)) ∧
  (∀ s : State, s.awake 8 = true → s.engineHeld = false →
    let y := s.tieFlush
    (y.on F.TRW_WHEEL_STAT_PENDING = true →
      ∃ x, exec .wheelWrap s = .next (s.finish x) ∧ x.on F.TRW_WHEEL_STAT_PENDING = false ∧ bit (x.get F.PG_IRQ_RAW 0x18) 12 = true ∧
        ∀ e < 64, x.get F.TRW_WHEEL_ACT e =
          y.get F.TRW_WHEEL_FILL e + ((List.range 7).map (fun k => y.get (F.TRW_WHEEL_P k) e * 16 ^ (k + 1))).sum) ∧
    (y.on F.TRW_WHEEL_STAT_PENDING = false → y.trw.withdraw = [] →
      exec .wheelWrap s = .next (s.finish
        (if y.trw.rotate && !(y.test.slices.any (fun x => x.1 < 9)) then
          ({ y with trw := { y.trw with rotate := false } } : State).rotateLanes else y))) ∧
    (∀ l p h, y.on F.TRW_WHEEL_STAT_PENDING = false → y.trw.rotate = false → y.trw.withdraw = [l] → y.posOfLane l = some p →
      ((List.range 8).reverse).find? (fun p => y.get (F.LANE_MAP_P p) != 0xF) = some h →
      ∃ x, exec .wheelWrap s = .next (s.finish x) ∧ x.trw.withdraw = [] ∧ x.get (F.LANE_MAP_P h) = 0xF ∧
        (p ≠ h → x.get (F.LANE_MAP_P p) = y.get (F.LANE_MAP_P h)) ∧ x.on F.LANE_REST_SHORT = true ∧
        x.get F.LANE_REST_WORKING = y.get F.LANE_REST_WORKING - 1))

/-- R196, R198, R199, R204, R207: the doorbell moves TAIL, no further than the ring holds; a descriptor that the queue's memory
answers is taken where it is owned by the node and, of a MSG queue, while a context is free, and finished with BAD_ADDR where it
cannot be read; EN written 0 disables the queue, at once or where a fragment is bound to its slot at the
fragment boundary; contexts that have aged are freed, counted and their event raised; IMG_READY arms the image of the next course,
whatever number it was given.
R194: a slice of the whole engine holds descriptors and reclaims. -/
def Obligations.QueuesAndContexts : Prop :=
  (∀ (ifc : Ifc) (queue : Fin 128) (tail : Word) (facts : WFacts) (s : State), s.takes ifc (0x1980C + 16 * queue.val) = true →
    let head := s.get F.Q_IDX_HEAD queue.val
    ∃ x, exec (.queueDoorbell ifc queue tail facts) s = .next (s.finish x) ∧
      x.get F.Q_IDX_TAIL queue.val = (if (tail.toNat + 65536 - head) % 65536 ≤ s.ringSize queue.val then tail.toNat
        else (head + s.ringSize queue.val) % 65536) ∧
      x.get F.Q_IDX_HEAD queue.val = head ∧ x.trw = s.trw ∧ x.qry = s.qry) ∧
  (∀ (queue : Fin 128) (host : List Byte) (s : State), s.awake 8 = true →
    let q := queue.val
    let i := s.nextDesc q
    let h := host.map BitVec.toNat
    (s.on F.Q_BASE_HI_EN q = false ∨ i = s.get F.Q_IDX_TAIL q ∨ 64 ≤ q ∨ q ∈ s.trw.closing ∨ s.engineHeld = true →
      exec (.descriptorFetch queue host) s = .next (s.finish s)) ∧
    (q < 64 → s.on F.Q_BASE_HI_EN q = true → i ≠ s.get F.Q_IDX_TAIL q → q ∉ s.trw.closing → s.engineHeld = false →
      let next (y : State) : State := { y with trw := { y.trw with fetched := put q ((i + 1) % 65536) y.trw.fetched } }
      let r := s.queueRead q (s.descAddr q i) 32 h
      (r.1 = false → exec (.descriptorFetch queue host) s =
        .next (s.finish ((next r.2.2).complete q i (List.replicate 32 0) 3 0 0))) ∧
      (r.1 = true → bit (r.2.1.getD 0xC 0) 0 = false → exec (.descriptorFetch queue host) s = .next (s.finish r.2.2)) ∧
      (r.1 = true → bit (r.2.1.getD 0xC 0) 0 = true →
        (s.get F.Q_BIND_CLASS q ≠ 0 → exec (.descriptorFetch queue host) s =
          .next (s.finish ((next r.2.2).takeLocal q i r.2.1 (h.drop 32)))) ∧
        (s.get F.Q_BIND_CLASS q = 0 → s.get F.TRW_CTX_INUSE 0xB < s.get F.TRW_CTX_Q_MAX 0xB →
          (s.get F.TRW_CTX_INUSE 0xB < s.get F.TRW_CTX_Q_RES 0xB ∨ s.poolUsed < s.pool) →
          exec (.descriptorFetch queue host) s = .next (s.finish ((next r.2.2).takeMsg q i r.2.1 (h.drop 32)))) ∧
        (s.get F.Q_BIND_CLASS q = 0 → s.get F.TRW_CTX_Q_MAX 0xB ≤ s.get F.TRW_CTX_INUSE 0xB →
          exec (.descriptorFetch queue host) s = .next (s.finish (r.2.2.inc F.TRW_CTX_DENY 0xB)))) ∧
      (s.on F.Q_BASE_HI_LOC q = true → s.bmOk (s.descAddr q i) 32 = true → 32 ≤ host.length → r = (true, h.take 32, s)))) ∧
  (∀ (ifc : Ifc) (queue : Fin 128) (facts : WFacts) (s : State), s.takes ifc (0x19804 + 16 * queue.val) = true →
    s.on F.Q_BASE_HI_EN queue.val = true → s.host.parts = [] →
    3 ≤ s.get F.Q_BASE_HI_LOG2SIZE queue.val → s.get F.Q_BASE_HI_LOG2SIZE queue.val ≤ 12 →
    (s.get F.Q_IDX_TAIL queue.val + 65536 - s.get F.Q_IDX_HEAD queue.val) % 65536 ≤ s.ringSize queue.val →
    ∃ y : State, y.on F.Q_BASE_HI_EN queue.val = false ∧ y.get F.Q_IDX_HEAD queue.val = s.get F.Q_IDX_HEAD queue.val ∧
      y.get F.Q_IDX_TAIL queue.val = s.get F.Q_IDX_TAIL queue.val ∧ y.trw = s.trw ∧
      exec (.queueDisable ifc queue facts) s = .next (s.finish (y.queueDisable queue.val false facts.host)) ∧
      (s.trw.tx.any (fun t => t.q == queue.val && decide (t.frag < t.bound)) = true →
        y.queueDisable queue.val false facts.host =
          { y.set F.Q_BASE_HI_EN 1 queue.val with trw := { s.trw with closing := queue.val :: s.trw.closing } }) ∧
      (s.trw.tx.any (fun t => t.q == queue.val && decide (t.frag < t.bound)) = false →
        (y.queueDisable queue.val false facts.host).on F.Q_BASE_HI_EN queue.val = false ∧
        ∀ t ∈ (y.queueDisable queue.val false facts.host).trw.tx, t.q ≠ queue.val)) ∧
  (∀ s : State, s.awake 8 = true →
    let aged (c : Ctx) : Prop := c.since + s.get F.TRW_CTX_AGE * 1000000 ≤ s.clk.now
    (s.engineHeld = true ∨ (∀ c ∈ s.trw.ctxs, ¬ aged c) → exec .contextReclaim s = .next (s.finish s)) ∧
    (s.engineHeld = false → s.trw.ctxs ≠ [] → (∀ c ∈ s.trw.ctxs, aged c) →
      ∃ x, exec .contextReclaim s = .next (s.finish x) ∧ x.trw.ctxs = [] ∧ bit (x.get F.PG_IRQ_RAW 0x18) 11 = true ∧
        x.get F.TRW_CTX_RECLAIM = min (s.get F.TRW_CTX_RECLAIM + s.trw.ctxs.length) (2 ^ F.TRW_CTX_RECLAIM.width - 1))) ∧
  (∀ (ifc : Ifc) (course : Reg) (facts : WFacts) (s : State), s.takes ifc 0x18134 = true →
    (course.toNat = (s.course + 1) % 2 ^ 32 → exec (.imageReady ifc course facts) s = .next (s.finish
      ({ (s.counted 0x18).set F.TRW_IMG_STAT_ARMED 1 with trw := { s.trw with imgFor := some course.toNat } }))) ∧
    ∃ x, exec (.imageReady ifc course facts) s = .next (s.finish x) ∧ x.on F.TRW_IMG_STAT_ARMED = true ∧
      x.trw = { s.trw with imgFor := some ((s.course + 1) % 2 ^ 32) })

/-! ### Local ports (chapter 08) -/

/-- R213, R217, R225, R227: an Ethernet frame that finds no room in the port's receive buffer is counted in RX_FULL with its event, one
that is spoilt, short, long or not addressed to the port in RX_BAD; any other is counted in RX_OK. A PAUSE frame stops there,
as does a 1588 frame on a port with PTP enabled; where the
Trowel takes no local frames the frame waits in the buffer, one that a short wheel cannot finish in time is counted in
TRW_SHORT_DROP (R189), and otherwise it is classified with a context of its own, or counted
in RX_NOCTX where there is none. In HOLD and NAP it is counted in RX_PWR.
R213: the link is up when there is no LOS, the PCS is synchronised and auto-negotiation, where enabled, is done; coming up and going
down raise their events, and going down empties the port's transmit buffer. -/
def Obligations.EthernetReceive : Prop :=
  (∀ (port : Port) (stamp : DWord) (frame : List Byte) (code short : Bool) (desc : List Byte) (s : State), s.hostLive = true →
    s.on F.LETH_P_CFG_EN port.val = true → s.on F.LETH_P_STAT_UP port.val = true → s.power ≤ 2 →
    let f := frame.map BitVec.toNat
    let g := f.take (f.length - 4)
    let full := decide (32768 < s.ethHeld port.val + f.length)
    (s.power ≠ 0 → exec (.ethFrameReceive port stamp frame code short desc) s =
      .next (s.finish ((s.inc F.LETH_P_RX_PWR port.val).irq 0x38 10))) ∧
    (s.power = 0 → full = true → exec (.ethFrameReceive port stamp frame code short desc) s =
      .next (s.finish ((s.inc F.LETH_P_RX_FULL port.val).irq 0x38 10))) ∧
    (s.power = 0 → full = false → (code = true ∨ f.length < 64 ∨ 1522 < f.length ∨ s.ethDaOk port.val f = false ∨
        f.drop (f.length - 4) ≠ le 4 (crc32r g)) →
      exec (.ethFrameReceive port stamp frame code short desc) s = .next (s.finish (s.inc F.LETH_P_RX_BAD port.val))) ∧
    (s.power = 0 → full = false → code = false → 64 ≤ f.length → f.length ≤ 1522 → s.ethDaOk port.val f = true →
      f.drop (f.length - 4) = le 4 (crc32r g) →
      let a := s.inc F.LETH_P_RX_OK port.val
      let at_ := stamp.toNat + s.get F.LETH_P_LAT_RX port.val
      let d := desc.map BitVec.toNat
      (isPause (s.ethMac port.val) g = true →
        exec (.ethFrameReceive port stamp frame code short desc) s = .next (s.finish (a.pauseRx port.val g))) ∧
      (isPause (s.ethMac port.val) g = false → etherType g = 0x88F7 → bit (s.get F.LINE_PTP_EN_EN) port.val = true →
        exec (.ethFrameReceive port stamp frame code short desc) s = .next (s.finish (a.ptpRx port.val at_ ((untag g).drop 14)))) ∧
      (isPause (s.ethMac port.val) g = false → (etherType g ≠ 0x88F7 ∨ bit (s.get F.LINE_PTP_EN_EN) port.val = false) →
        (s.localHeld = true → exec (.ethFrameReceive port stamp frame code short desc) s =
          .next (s.finish { a with loc := { a.loc with ethRx := s.loc.ethRx ++ [(port.val, at_, g, d)] } })) ∧
        (s.localHeld = false → s.fallsShort short = true →
          exec (.ethFrameReceive port stamp frame code short desc) s = .next (s.finish (a.inc F.TRW_SHORT_DROP))) ∧
        (s.localHeld = false → s.fallsShort short = false → (a.ctxAlloc 9 1 (0x20000000 + port.val)).1 = true →
          exec (.ethFrameReceive port stamp frame code short desc) s = .next (s.finish
            (((a.ctxAlloc 9 1 (0x20000000 + port.val)).2.ethClassify port.val at_ g d).ctxFree 9 (0x20000000 + port.val)))) ∧
        (s.localHeld = false → s.fallsShort short = false → s.get F.TRW_CTX_Q_MAX 9 ≤ s.get F.TRW_CTX_INUSE 9 →
          exec (.ethFrameReceive port stamp frame code short desc) s =
            .next (s.finish (((a.inc F.TRW_CTX_DENY 9).inc F.LETH_P_RX_NOCTX port.val).irq 0x38 10)))))) ∧
  (∀ (port : Port) (los sync an : Bool) (s : State), s.hostLive = true →
    let up := !los && sync && (!(s.on F.LETH_P_CFG_AN_EN port.val) || an)
    ∃ x, exec (.ethLinkChange port los sync an) s = .next (s.finish x) ∧ x.on F.LETH_P_STAT_LOS port.val = los ∧
      x.on F.LETH_P_STAT_SYNC port.val = sync ∧ x.on F.LETH_P_STAT_AN_DONE port.val = an ∧ x.on F.LETH_P_STAT_UP port.val = up ∧
      (s.on F.LETH_P_STAT_UP port.val = false → up = true → bit (x.get F.PG_IRQ_RAW 0x38) 8 = true) ∧
      (s.on F.LETH_P_STAT_UP port.val = true → up = false → bit (x.get F.PG_IRQ_RAW 0x38) 9 = true ∧
        (∀ t ∈ x.loc.ethTx, t.1 ≠ port.val) ∧ ∀ m ∈ x.loc.ptpTx, m.1 ≠ port.val))

/-- R161, R225, R227: a port that may send sends a waiting 1588 message first, and then takes the next frame of its highest class in
turn, pads it to 60 bytes, adds the FCS, counts it
and completes its descriptor; a port that may not send, or has nothing to send, does nothing; at the end of a pause the port may send
again; a port disabled drops what waits for it, and the wheel is checked anew. -/
def Obligations.LocalSend : Prop :=
  (∀ (port : Port) (s : State), s.hostLive = true →
    let hs := heads s.loc.ethTx port.val
    let cls := hs.foldl (fun m h => max m h.cls) 0
    let next := nextTurn (look 0xFFFF (4 * port.val + cls) s.loc.turn) (hs.filter (fun h => h.cls == cls))
    let msg := s.loc.ptpTx.find? (fun x => x.1 == port.val)
    (s.localActive = false ∨ s.on F.LETH_P_CFG_EN port.val = false ∨ s.on F.LETH_P_STAT_UP port.val = false ∨ s.paused port.val = true
        ∨ (msg = none ∧ next = none) → exec (.ethTransmit port) s = .next (s.finish s)) ∧
    (s.localActive = true → s.on F.LETH_P_CFG_EN port.val = true → s.on F.LETH_P_STAT_UP port.val = true → s.paused port.val = false →
      (∀ m, msg = some m → exec (.ethTransmit port) s = .next (s.finish
        (({ s with loc := { s.loc with ptpTx := s.loc.ptpTx.erase m } } : State).ptpSend port.val m.2))) ∧
      (∀ t, msg = none → next = some t →
        let f := t.data ++ List.replicate (60 - t.data.length) 0
        let a : State := { s with loc := { s.loc with
          ethTx := s.loc.ethTx.erase (port.val, t), turn := put (4 * port.val + cls) t.src s.loc.turn } }
        exec (.ethTransmit port) s = .next (s.finish
          (((a.emit (.eth port.val (f ++ le 4 (crc32r f)))).inc F.LETH_P_TX_OK port.val).localSent 9
            (s.clk.lt + s.get F.LETH_P_LAT_TX port.val) t))))) ∧
  (∀ (port : Port) (s : State), s.hostLive = true →
    exec (.pauseExpiry port) s = .next (s.finish
      (let a := s.elapseTo (look 0 port.val s.loc.pause)
       { a with loc := { a.loc with pause := del port.val a.loc.pause } }))) ∧
  (∀ (ifc : Ifc) (port : Fin 12) (facts : WFacts) (s : State),
    (port.val < 8 → s.takes ifc (0x38200 + 0x40 * port.val) = true →
      ∃ y : State, y.on F.LETH_P_CFG_EN port.val = false ∧ y.loc = s.loc ∧
        exec (.localPortDisable ifc port facts) s = .next (s.finish
          ((if s.on F.LETH_P_CFG_EN port.val then (y.flushLocal true port.val).wheelCheck else y).ethFollow port.val))) ∧
    (8 ≤ port.val → s.takes ifc (0x39200 + 0x40 * (port.val - 8)) = true →
      ∃ y : State, y.on F.LC_P_CFG_EN (port.val - 8) = false ∧ y.loc = s.loc ∧
        exec (.localPortDisable ifc port facts) s = .next (s.finish
          ((if s.on F.LC_P_CFG_EN (port.val - 8) then (y.flushLocal false (port.val - 8)).wheelCheck else y).canState
            (port.val - 8)))))

/-- R214, R217, R220, R226 to R228: a CAN frame received whole is counted and classified with a context of its own, or waits in the port's
receive buffer, whose overflow is counted, or is dropped where a short wheel cannot finish it (R189); one that fails its checks, or an FD frame on a port without FD, is an error counted in REC,
by 8 where the error was dominant. A transmission sent gives out the record and lowers TEC by 1; one
in error adds 8, and takes the port bus-off past 255; one that an error-passive port finds unacknowledged leaves TEC;
one that lost arbitration waits. RECOVER is kept for a bus-off port alone, and after 128 occurrences of 11 recessive bits
the counters are 0.
R214 gives REC after a good frame above 127 as a range alone: the model's free value (log entry 104). -/
def Obligations.CanPorts : Prop :=
  (∀ (port : CanPort) (stamp : DWord) (frame : CanFrame) (rx : CanRx) (short : Bool) (desc : List Byte) (s : State), s.hostLive = true →
    s.on F.LC_P_CFG_EN port.val = true → s.power = 0 → s.get F.LC_P_STAT_STATE port.val ≠ 2 →
    let r := s.get F.LC_P_STAT_REC port.val
    (64 ≤ s.canHeld port.val → exec (.canFrameReceive port stamp frame rx short desc) s =
      .next (s.finish ((s.inc F.LC_P_RX_FULL port.val).irq 0x39 10))) ∧
    (s.canHeld port.val < 64 → (rx ≠ .intact ∨ (frame.fdf = true ∧ s.on F.LC_P_CFG_FD_EN port.val = false)) →
      exec (.canFrameReceive port stamp frame rx short desc) s = .next (s.finish
        (((s.inc F.LC_P_ERR port.val).set F.LC_P_STAT_REC (min 255 (r + if rx = .dominant then 8 else 1)) port.val).canState port.val))) ∧
    (s.canHeld port.val < 64 → (frame.fdf = false ∨ s.on F.LC_P_CFG_FD_EN port.val = true) →
      let down := if 127 < r then 119 + Config.canRec s.clk.now % 9 else r - 1
      let a := ((s.inc F.LC_P_RX_OK port.val).set F.LC_P_STAT_REC down port.val).canState port.val
      (s.localHeld = true → exec (.canFrameReceive port stamp frame .intact short desc) s =
        .next (s.finish { a with loc := { a.loc with canRx := s.loc.canRx ++ [(port.val, stamp.toNat, frame, desc.map BitVec.toNat)] } })) ∧
      (s.localHeld = false → s.fallsShort short = true →
        exec (.canFrameReceive port stamp frame .intact short desc) s = .next (s.finish (a.inc F.TRW_SHORT_DROP))) ∧
      (s.localHeld = false → s.fallsShort short = false → (a.ctxAlloc 0xA 1 (0x20000000 + port.val)).1 = true →
        exec (.canFrameReceive port stamp frame .intact short desc) s = .next (s.finish
          (((a.ctxAlloc 0xA 1 (0x20000000 + port.val)).2.canClassify port.val stamp.toNat frame (desc.map BitVec.toNat)).ctxFree 0xA
            (0x20000000 + port.val)))))) ∧
  (∀ (port : CanPort) (stamp : DWord) (s : State) (t : LocalTx), s.hostLive = true → s.localActive = true →
    s.on F.LC_P_CFG_EN port.val = true → s.canMonitor port.val = false → s.get F.LC_P_STAT_STATE port.val ≠ 2 →
    lowestCan ((heads s.loc.canTx port.val).filter (fun h => s.on F.LC_P_CFG_FD_EN port.val || !(bit (leVal (h.data.take 4)) 31))) = some t →
    exec (.canTransmit port stamp .lost) s = .next (s.finish s) ∧
    (∀ (e : CanEnd) (n : Nat), (e = .error ∧ n = 8) ∨ (e = .unacked ∧ n = if s.get F.LC_P_STAT_STATE port.val = 1 then 0 else 8) →
      let tec := s.get F.LC_P_STAT_TEC port.val + n
      let a := (s.inc F.LC_P_ERR port.val).set F.LC_P_STAT_TEC (min 255 tec) port.val
      (tec ≤ 255 → exec (.canTransmit port stamp e) s = .next (s.finish (a.canState port.val))) ∧
      (255 < tec → exec (.canTransmit port stamp e) s = .next (s.finish
        ((({ a.set F.LC_P_STAT_STATE 2 port.val with loc := { a.loc with busOff := port.val :: a.loc.busOff } } : State).inc
          F.LC_P_BUSOFF port.val).irq 0x39 8)))) ∧
    exec (.canTransmit port stamp .sent) s = .next (s.finish
      (let a : State := { s with loc := { s.loc with canTx := s.loc.canTx.erase (port.val, t) } }
       ((((a.emit (.can port.val (s.canWire port.val t.data))).inc F.LC_P_TX_OK port.val).set F.LC_P_STAT_TEC
        (s.get F.LC_P_STAT_TEC port.val - 1) port.val).localSent 0xA stamp.toNat t).canState port.val))) ∧
  (∀ (port : CanPort) (s : State), s.hostLive = true → s.busOff port.val = true →
    (s.on F.LC_P_CFG_AUTO_REC port.val = true ∨ port.val ∈ s.loc.recover) →
    ∃ x, exec (.canBusOffRecovery port) s = .next (s.finish x) ∧ x.get F.LC_P_STAT_TEC port.val = 0 ∧ x.get F.LC_P_STAT_REC port.val = 0 ∧
      x.get F.LC_P_STAT_STATE port.val = (if s.canMonitor port.val then 3 else 0) ∧ bit (x.get F.PG_IRQ_RAW 0x39) 9 = true ∧
      x.busOff port.val = false) ∧
  (∀ (ifc : Ifc) (port : CanPort) (facts : WFacts) (s : State), s.takes ifc (0x39214 + 0x40 * port.val) = true →
    (s.busOff port.val = true → exec (.canRecoverCommand ifc port facts) s = .next (s.finish
      { s.counted 0x39 with loc := { s.loc with recover := port.val :: s.loc.recover.filter (· != port.val) } })) ∧
    (s.busOff port.val = false → ∃ x, exec (.canRecoverCommand ifc port facts) s = .next (s.finish x) ∧ x.loc = s.loc ∧
      x.get F.PG_CLAMP_CAUSE 0x39 = 8))

/-! ### Twins and arbiter (chapter 09) -/

/-- R233 to R235, R158: a level of ARB_ROLE or ARB_FENCED counts once it has been stable for 1 µs; one that is no change does nothing
more. A new role command is kept with the instant it was taken and shown in ROLE_CMD, ends a silent run and disarms a takeover, and
changes no role by itself. ARB_FENCED high and the command ACTIVE arm the takeover of a twin that is not active, with FENCE_SRC 1. -/
def Obligations.RoleAndFence : Prop :=
  ∀ s : State, 8 ≤ s.isl.started → s.dumping = false →
    let e := s.elapse 1000
    (s.boot.twin = false → ∀ (level : BitVec 2) (fence : Bool), exec (.arbRoleChange level) s = .next (s.finish e) ∧
      exec (.arbFencedChange fence) s = .next (s.finish e)) ∧
    (s.boot.twin = true →
      (∀ level : BitVec 2, level.toNat = s.twin.roleLevel → exec (.arbRoleChange level) s = .next (s.finish e)) ∧
      (∀ level : BitVec 2, level.toNat ≠ s.twin.roleLevel →
        ∃ x, exec (.arbRoleChange level) s = .next (s.finish x) ∧ x.get F.TWIN_STAT_ROLE_CMD = level.toNat ∧
          x.get F.TWIN_STAT_SILENT_RUN = 0 ∧ x.twin.roleLevel = level.toNat ∧
          x.get F.TWIN_STAT_TAKE_ARMED = (s.twin.fencedIn && level == 1 && s.role != 1 && !s.killed).toNat ∧
          x.twin.cmdAt = s.clk.now + 1000 ∧
          x.twin.cmdWas = (if e.beforeNext s.twin.cmdAt then s.roleCmd else s.twin.cmdWas) ∧
          x.clk = e.clk ∧ (s.role = 1 ↔ x.role = 1) ∧ (s.role ≠ 1 → level ≠ 1 → x.role = if s.twin.isOut then 2 else 0)) ∧
      (∀ level : Bool, level = s.twin.fencedIn → exec (.arbFencedChange level) s = .next (s.finish e)) ∧
      (∀ level : Bool, level = !s.twin.fencedIn →
        ∃ x, exec (.arbFencedChange level) s = .next (s.finish x) ∧ x.twin.fencedIn = level ∧ x.role = s.role ∧
          x.clk = e.clk ∧ x.twin.fencedAt = s.clk.now + 1000 ∧
          (level = true → s.role ≠ 1 → s.roleCmd = 1 → s.killed = false → s.twin.outUntil = false →
            x.get F.TWIN_STAT_TAKE_ARMED = 1 ∧ x.get F.TWIN_STAT_FENCE_SRC = 1) ∧
          (level = false → x.get F.TWIN_STAT_TAKE_ARMED = s.get F.TWIN_STAT_TAKE_ARMED)))

/-- R242, R244: a lane that locks on an enabled twin shows in TIE_STAT.LOCK; the link is up while both lanes are locked and aligned, and
with one lane alone SINGLE is set and the host block dropped until both return. A lane lost takes the link down. A lane that was not
locked only counts its invalid headers.
R243: a Tie frame whose CRC fails is counted in TIE_RX_FRAMES and TIE_RX_BAD and does nothing else, whatever its type.
R243, R196, R247 to R249, R262, R265: a whole Tie frame is counted. A HEALTH frame gives the partner's health word and, between two
actives, DUAL_ACTIVE; an ACK of the proposed course before G has the active send COMMIT, or hold it where no context of the TIE
channel is free; a COMMIT of the coming boundary arms the standby's
takeover map with FENCE_SRC 3; a record is late, bad or accepted, and its length in time is kept. Each only counts on a
twin in the other role. -/
def Obligations.TieLink : Prop :=
  (∀ (lane : Fin 2) (s : State), s.awake 25 = true → s.boot.twin = true → s.on F.TIE_CFG_EN = true →
    let lane1 := s.on F.TIE_CFG_LANE1_EN
    let was := s.on F.TIE_STAT_UP
    (∀ (aligned : Bool) (skew : BitVec 8),
      ∃ x, exec (.tieLaneLock lane aligned skew) s = .next (s.finish x) ∧
        (∀ k < 2, bit (x.get F.TIE_STAT_LOCK) k = (bit (s.get F.TIE_STAT_LOCK) k || k == lane.val)) ∧
        let two := decide (x.get F.TIE_STAT_LOCK = 3) && aligned && lane1
        let single := !two && (bit (x.get F.TIE_STAT_LOCK) 0 || (bit (x.get F.TIE_STAT_LOCK) 1 && lane1))
        x.on F.TIE_STAT_UP = two ∧ x.on F.TIE_STAT_ALIGNED = aligned ∧ x.on F.TIE_STAT_SINGLE = single ∧
        x.on F.TWIN_STAT_HOST_DROP = (!two && (was || single || s.on F.TWIN_STAT_HOST_DROP)) ∧
        (was = false → two = true → bit (x.get F.PG_IRQ_RAW 0x1D) 8 = true)) ∧
    (∀ bad : Nat, bit (s.get F.TIE_STAT_LOCK) lane.val = false →
      exec (.tieLaneLoss lane bad) s = .next (s.finish (s.add F.TIE_BLK_ERR bad))) ∧
    (∀ bad : Nat, bit (s.get F.TIE_STAT_LOCK) lane.val = true →
      ∃ x, exec (.tieLaneLoss lane bad) s = .next (s.finish x) ∧
        (∀ k < 2, bit (x.get F.TIE_STAT_LOCK) k = (bit (s.get F.TIE_STAT_LOCK) k && k != lane.val)) ∧
        let single := bit (x.get F.TIE_STAT_LOCK) 0 || (bit (x.get F.TIE_STAT_LOCK) 1 && lane1)
        x.on F.TIE_STAT_UP = false ∧ x.on F.TIE_STAT_SINGLE = single ∧
        x.on F.TWIN_STAT_HOST_DROP = (was || single || s.on F.TWIN_STAT_HOST_DROP) ∧
        x.get F.TIE_LANE_DOWN = min (s.get F.TIE_LANE_DOWN + 1) (2 ^ F.TIE_LANE_DOWN.width - 1) ∧
        (was = true → bit (x.get F.PG_IRQ_RAW 0x1D) 9 = true))) ∧
  (∀ (bytes : List Byte) (start stop : DWord) (s : State), s.awake 25 = true → s.boot.twin = true → s.on F.TIE_CFG_EN = true →
    s.islandServes 25 = true →
    (let f := bytes.map BitVec.toNat
     f.drop (f.length - 4) ≠ le 4 (crc32r (f.take (f.length - 4)))) →
    let x := (s.inc F.TIE_RX_FRAMES).inc F.TIE_RX_BAD
    exec (.tieRecordRx bytes start stop) s = .next (s.finish x) ∧ exec (.tieHealthRx bytes) s = .next (s.finish x) ∧
    exec (.tieAckRx bytes stop) s = .next (s.finish x) ∧ exec (.tieCommitRx bytes stop) s = .next (s.finish x)) ∧
  (∀ (bytes : List Byte) (course : Nat) (p : List Nat) (s : State), s.awake 25 = true → s.boot.twin = true →
    s.on F.TIE_CFG_EN = true → s.islandServes 25 = true → course < 2 ^ 32 → 4 ≤ p.length → p.length ≤ 49152 →
    let n := min (s.get F.TIE_RX_FRAMES + 1) (2 ^ F.TIE_RX_FRAMES.width - 1)
    (bytes.map BitVec.toNat = tieFrame 2 course p →
      ∃ x, exec (.tieHealthRx bytes) s = .next (s.finish x) ∧ x.get F.TIE_RX_FRAMES = n ∧
        x.get F.TWIN_PARTNER_HEALTH = leVal (p.take 4) ∧ x.get F.TIE_STAT_PARTNER = 1 ∧ x.twin.partnerAt = some s.course ∧
        (s.role = 1 → leVal (p.take 4) % 4 = 1 → x.get F.TWIN_STAT_DUAL_ACTIVE = 1) ∧
        (s.role ≠ 1 → x.get F.TWIN_STAT_DUAL_ACTIVE = s.get F.TWIN_STAT_DUAL_ACTIVE)) ∧
    (∀ stamp : DWord, bytes.map BitVec.toNat = tieFrame 3 course p →
      (s.role ≠ 1 → exec (.tieAckRx bytes stamp) s = .next (s.finish (s.inc F.TIE_RX_FRAMES))) ∧
      (s.role = 1 → s.get F.TWIN_STAT_SWAP = 1 → leVal ((p.drop 4).take 4) = s.course + 1 → s.twin.swapAt = s.course + 1 →
        stamp.toNat < s.base + s.gapAt →
        ∃ x, exec (.tieAckRx bytes stamp) s = .next (s.finish x) ∧ x.get F.TIE_RX_FRAMES = n ∧ x.get F.TWIN_STAT_SWAP = 3 ∧
          x.twin.commit = true ∧
          let c := s.course + 1
          (s.testing 0x1D 0x100 = false → (s.ctxAlloc 8 2 (tieCtx 4)).1 = true → x.out = .tie 4 (tieFrame 4 c (le 4 c)) :: s.out) ∧
          (s.testing 0x1D 0x100 = false → (s.ctxAlloc 8 2 (tieCtx 4)).1 = false →
            x.trw.tieHeld = s.trw.tieHeld ++ [(4, c, le 4 c)] ∧ x.out = s.out))) ∧
    (∀ stamp : DWord, bytes.map BitVec.toNat = tieFrame 4 course p →
      (s.standby = false → exec (.tieCommitRx bytes stamp) s = .next (s.finish (s.inc F.TIE_RX_FRAMES))) ∧
      (s.standby = true → s.get F.TWIN_STAT_SWAP = 2 →
        leVal (p.take 4) = s.course + 1 → s.twin.swapAt = s.course + 1 → stamp.toNat < s.base + s.courseNs →
        ∃ x, exec (.tieCommitRx bytes stamp) s = .next (s.finish x) ∧ x.get F.TIE_RX_FRAMES = n ∧ x.get F.TWIN_STAT_SWAP = 3 ∧
          x.get F.TWIN_STAT_FENCE_SRC = 3 ∧ x.get F.TWIN_STAT_TAKE_ARMED = 1 ∧ x.twin.commit = true ∧ x.role = s.role)) ∧
    (∀ start stop : DWord, bytes.map BitVec.toNat = tieFrame 1 course p →
      (s.standby = false → exec (.tieRecordRx bytes start stop) s = .next (s.finish (s.inc F.TIE_RX_FRAMES))) ∧
      (s.standby = true →
        let y := (s.inc F.TIE_RX_FRAMES).set F.TIE_REC_NS (stop.toNat - start.toNat)
        exec (.tieRecordRx bytes start stop) s = .next (s.finish
          (if start.toNat < s.base then y.inc F.TWIN_REC_LATE
           else if y.recordOk p then y.acceptRecord p else y.inc F.TWIN_REC_BAD)))))

/-- R251, R252, R256, R257: an own slot with a would-be frame that stays silent is counted at its horizon, with its event, and drives
PLUMB_MISMATCH; without one, or on a node that is no standby, nothing happens. The arbiter shows the PM levels it sampled; a slot
that the pair owns and that is silent, 2 µs after the horizon of its own window: what the standby does not report is put down to the
arbiter's own receiver, and what it does report fails over to an eligible standby where AUTO is set. With AUTO set a heartbeat missed
HB_MISS times fails over as well. -/
def Obligations.PlumbAndEvidence : Prop :=
  (∀ (slot : Fin 1024) (e : Slot) (s : State), s.running = true → s.standby = true → s.slot slot.val = some e →
    s.twin.would.any (fun x => x.1 == slot.val) = true →
    ∃ x, exec (.plumbSilentSlot slot) s = .next (s.finish x) ∧ x.twin.silent = true ∧ x.twin.pm = true ∧
      x.get F.PLMB_SILENT_CNT = min (s.get F.PLMB_SILENT_CNT + 1) (2 ^ F.PLMB_SILENT_CNT.width - 1) ∧
      bit (x.get F.PG_IRQ_RAW 0x1E) 9 = true) ∧
  (∀ (slot : Fin 1024) (s : State), s.running = true →
    (s.standby = false ∨ s.slot slot.val = none ∨ s.twin.would.any (fun x => x.1 == slot.val) = false) →
    exec (.plumbSilentSlot slot) s = .next (s.finish s)) ∧
  (∀ (s : State), s.awake 25 = true → s.awake 8 = true → s.boot.role = 3 →
    (∀ (slot : Nat) (pm : Bool), s.pairClose slot = none → exec (.arbiterEvidenceHorizon (.silent slot pm)) s = .next (s.finish s)) ∧
    (∀ slot t : Nat, s.pairClose slot = some t →
      let e := s.elapseLt (t + 2200)
      exec (.arbiterEvidenceHorizon (.silent slot false)) s = .next (s.finish (e.inc F.TWIN_ARB_OWN_SILENT)) ∧
      (s.on F.TWIN_ARB_CFG_AUTO = false → exec (.arbiterEvidenceHorizon (.silent slot true)) s = .next (s.finish e)) ∧
      (s.on F.TWIN_ARB_CFG_AUTO = true → s.drivenOut (1 - s.twin.standby) = false → s.eligible false = true →
        exec (.arbiterEvidenceHorizon (.silent slot true)) s = .next (s.finish (e.driveFailover.arbDecided 2)))) ∧
    (∀ (a b : Option (List Nat)) (pmA pmB : Bool), s.on F.TWIN_ARB_CFG_AUTO = false →
      ∃ x, exec (.arbiterEvidenceHorizon (.window a b pmA pmB)) s = .next (s.finish x) ∧
        x.get F.TWIN_ARB_STAT_PM = pmA.toNat + 2 * pmB.toNat ∧ x.get F.TWIN_ARB_DECISIONS = s.get F.TWIN_ARB_DECISIONS) ∧
    (∀ (pmA pmB : Bool) (word : Nat), s.on F.TWIN_ARB_CFG_AUTO = true → s.twin.standby = 1 → s.twin.swapOn = false →
      s.arbHealth 0 % 4 = 1 → s.drivenOut 0 = false → s.get F.TWIN_ARB_CFG_HB_MISS ≤ look 0 0 s.twin.hbMiss + 1 →
      word < 2 ^ 32 → word % 4 = 0 → bit word 5 = false → bit word 6 = false → bit word 12 = false →
      ∃ x, exec (.arbiterEvidenceHorizon (.window none (some (heartbeat s.course word)) pmA pmB)) s = .next (s.finish x) ∧
        x.get F.TWIN_ARB_STAT_LAST = 1 ∧ x.get F.TWIN_ARB_STAT_ROLE_A = 3 ∧ x.get F.TWIN_ARB_STAT_ROLE_B = 1 ∧
        bit (x.get F.TWIN_ARB_STAT_KILL) 0 = true ∧ bit (x.get F.TWIN_ARB_STAT_FENCED) 1 = true ∧
        x.get F.TWIN_ARB_HLTH 1 = word ∧ x.twin.lastTake = some (s.course + 1)))

/-- R259, R261, R263, R264: the arbiter's commands drive the levels of the decisions they name and are recorded as the host's:
FAILOVER, where the standby is eligible, RESTORE and OUT; SWAP, where it is not refused, drives STANDBY to the active and ACTIVE to the
standby, and so does the periodic swap when SWAP_H hours have passed, or it waits for the next courses. A refused FAILOVER
or SWAP drives nothing, nor does a mask of no twin. -/
def Obligations.ArbiterCommands : Prop :=
  (∀ (ifc : Ifc) (facts : WFacts) (s : State), s.takes ifc 0x1C204 = true → s.boot.role = 3 →
    (s.eligible false = true → exec (.arbCmdFailover ifc facts) s = .next (s.finish ((s.counted 0x1C).driveFailover.arbDecided 10))) ∧
    (s.eligible false = false → ∃ x, exec (.arbCmdFailover ifc facts) s = .next (s.finish x) ∧ x.twin = s.twin ∧
      x.get F.TWIN_ARB_STAT_ROLE_A = s.get F.TWIN_ARB_STAT_ROLE_A ∧ x.get F.TWIN_ARB_STAT_ROLE_B = s.get F.TWIN_ARB_STAT_ROLE_B ∧
      x.get F.TWIN_ARB_STAT_KILL = s.get F.TWIN_ARB_STAT_KILL ∧ x.get F.PG_CLAMP_CAUSE 0x1C = 8) ∧
    (s.arbSwapOk = true → ∃ x, exec (.arbCmdSwap ifc facts) s = .next (s.finish x) ∧ x.twin.swapOn = true ∧
      x.arbRole (1 - s.twin.standby) = 2 ∧ (s.twin.standby ≤ 1 → x.arbRole s.twin.standby = 1) ∧ x.get F.TWIN_ARB_STAT_LAST = 8) ∧
    (s.arbSwapOk = false → ∃ x, exec (.arbCmdSwap ifc facts) s = .next (s.finish x) ∧ x.twin = s.twin ∧
      x.get F.TWIN_ARB_STAT_ROLE_A = s.get F.TWIN_ARB_STAT_ROLE_A ∧ x.get F.TWIN_ARB_STAT_ROLE_B = s.get F.TWIN_ARB_STAT_ROLE_B ∧
      x.get F.PG_CLAMP_CAUSE 0x1C = 8)) ∧
  (∀ (ifc : Ifc) (mask : BitVec 2) (facts : WFacts) (s : State), s.takes ifc 0x1C204 = true → s.boot.role = 3 →
    (∃ x, exec (.arbCmdRestore ifc mask facts) s = .next (s.finish x) ∧
      x.get F.TWIN_ARB_STAT_LAST = (if mask = 0 then s.get F.TWIN_ARB_STAT_LAST else 10) ∧
      ∀ i < 2, bit (x.get F.TWIN_ARB_STAT_KILL) i = (bit (s.get F.TWIN_ARB_STAT_KILL) i && !mask.getLsbD i) ∧
        bit (x.get F.TWIN_ARB_STAT_FENCED) (1 - i) = (bit (s.get F.TWIN_ARB_STAT_FENCED) (1 - i) && !mask.getLsbD i) ∧
        x.arbRole i = if mask.getLsbD i then 2 else s.arbRole i) ∧
    ∃ x, exec (.arbCmdOut ifc mask facts) s = .next (s.finish x) ∧
      x.get F.TWIN_ARB_STAT_LAST = (if mask = 0 then s.get F.TWIN_ARB_STAT_LAST else 10) ∧
      ∀ i < 2, bit (x.get F.TWIN_ARB_STAT_KILL) i = (bit (s.get F.TWIN_ARB_STAT_KILL) i || mask.getLsbD i) ∧
        x.arbRole i = if mask.getLsbD i then 3 else s.arbRole i) ∧
  (∀ s : State, s.awake 25 = true → s.awake 8 = true → s.boot.role = 3 → s.get F.TWIN_ARB_CFG_SWAP_H ≠ 0 →
    let e := s.elapse (s.untilRtc (s.twin.swapSec + 3600 * s.get F.TWIN_ARB_CFG_SWAP_H))
    (s.twin.swapOn = false → s.arbSwapOk = true →
      exec .periodicSwap s = .next (s.finish { e.driveSwap with twin := { e.driveSwap.twin with swapDue := false } })) ∧
    (s.twin.swapOn = false → s.arbSwapOk = false →
      exec .periodicSwap s = .next (s.finish { e with twin := { e.twin with swapDue := true } })) ∧
    (s.twin.swapOn = true → exec .periodicSwap s = .next (s.finish e)))

/-! ### The Quarry (chapter 10) -/

/-- R267 to R269, R274, R275, R278, R279: an access that is served. A read answers the eight bytes stored and changes nothing; a write of
all eight bytes stores them at the word's own place in its bank, every other byte of the Quarry keeps its value, and no register
changes. Nothing that a command does here takes the memory out of its canonical form.
R275, R279: an access that is not served, or that finds an error. A denied access stores nothing, is answered as denied, logged with
its address, master, kind and direction, counted for its master and raised; a single-bit error is corrected, counted and
logged; an uncorrectable word is counted, logged and answered as such, and a narrower write leaves it unchanged.
R269, R291: a narrower write of a sound word is a read-modify-write; an access that a march or a copy holds waits for its turn.
A master whose interface or island does not answer has no effect. -/
def Obligations.QuarryAccess : Prop :=
  (∀ (master : Master) (addr : BitVec 26) (s : State), s.masterOn master.val = true → 5 ≤ s.isl.started →
    let w := addr.toNat / 8 * 8
    (∀ be : BitVec 8, s.qDeny master.val (w + (beSpan be.toNat).1) (beSpan be.toNat).2 false = none →
      s.qry.ue.any (fun p => p.1 == s.qKey w / 8) = false →
      exec (.quarryAccess master addr be none .none) s =
        .next (s.finish (s.emit (.quarry master.val w 0 (leVal (s.qBytes w 8)))))) ∧
    (∀ (data : DWord) (found : Upset), s.qDeny master.val w 8 true = none →
      ∃ x, exec (.quarryAccess master addr 0xFF (some data) found) s = .next (s.finish x) ∧
        x.out = .quarry master.val w 0 0 :: s.out ∧ x.regs = s.regs ∧
        (∀ i < 8, memGet 0 (s.qKey (w + i)) x.qry.mem = data.toNat / 256 ^ i % 256) ∧
        (∀ k, (∀ i < 8, k ≠ s.qKey (w + i)) → memGet 0 k x.qry.mem = memGet 0 k s.qry.mem) ∧
        (Memory.wf 0 s.qry.mem = true → Memory.wf 0 x.qry.mem = true) ∧
        (∀ p ∈ x.qry.ue, p.1 ≠ s.qKey w / 8) ∧
        x = { s with out := x.out, qry := { s.qry with mem := x.qry.mem, ue := x.qry.ue } }) ∧
    (∀ (be : BitVec 8) (data : DWord), be ≠ 0xFF → s.qDeny master.val (w + (beSpan be.toNat).1) (beSpan be.toNat).2 true = none →
      s.qry.ue.any (fun p => p.1 == s.qKey w / 8) = false →
      exec (.quarryAccess master addr be (some data) .none) s = .next (s.finish
        ((s.qStore w (le 8 (mergeBytes (leVal (s.qBytes w 8)) data.toNat be.toNat))).emit (.quarry master.val w 0 0)))) ∧
    (∀ (be : BitVec 8) (data : Option DWord) (found : Upset),
      s.qDeny master.val (w + (beSpan be.toNat).1) (beSpan be.toNat).2 data.isSome = some .held →
      exec (.quarryAccess master addr be data found) s = .next (s.finish
        (({ s with qry := { s.qry with held := s.qry.held ++ [⟨master.val, w, be.toNat, data.map BitVec.toNat⟩] } } : State).emit
          (.quarry master.val w 3 0))))) ∧
  (∀ (master : Master) (addr : BitVec 26) (be : BitVec 8) (data : Option DWord) (found : Upset) (s : State),
    s.masterOn master.val = false → exec (.quarryAccess master addr be data found) s = .next (s.finish s)) ∧
  (∀ (master : Master) (addr : BitVec 26) (s : State), s.masterOn master.val = true → 5 ≤ s.isl.started →
    let w := addr.toNat / 8 * 8
    (∀ (be : BitVec 8) (data : Option DWord) (found : Upset) (d : Deny), d ≠ .held →
      s.qDeny master.val (w + (beSpan be.toNat).1) (beSpan be.toNat).2 data.isSome = some d →
      ∃ x, exec (.quarryAccess master addr be data found) s = .next (s.finish x) ∧
        x.out = .quarry master.val w 2 0 :: s.out ∧ x.qry = s.qry ∧
        x.get F.RGN_FAULT_ADDR = w + (beSpan be.toNat).1 ∧ x.get F.RGN_FAULT_INFO_MASTER = master.val ∧
        x.get F.RGN_FAULT_INFO_KIND = d.code ∧ x.get F.RGN_FAULT_INFO_WRITE = data.isSome.toNat ∧
        x.get (F.RGN_FAULT_CNT (master.val % 2)) (master.val / 2) =
          min (s.get (F.RGN_FAULT_CNT (master.val % 2)) (master.val / 2) + 1) 65535 ∧
        bit (x.get F.PG_IRQ_RAW 0x21) 8 = true) ∧
    (∀ (be : BitVec 8) (syn : Nat), s.qDeny master.val (w + (beSpan be.toNat).1) (beSpan be.toNat).2 false = none →
      s.qry.ue.any (fun p => p.1 == s.qKey w / 8) = false →
      ∃ x, exec (.quarryAccess master addr be none (.single syn)) s = .next (s.finish x) ∧
        x.out = .quarry master.val w 0 (leVal (s.qBytes w 8)) :: s.out ∧ x.qry = s.qry ∧
        x.get F.QRY_ECC_CE = min (s.get F.QRY_ECC_CE + 1) (2 ^ F.QRY_ECC_CE.width - 1) ∧
        x.get F.QRY_ECC_ADDR = w / 8 ∧ x.get F.QRY_ECC_INFO_SYNDROME = syn % 256 ∧ x.get F.QRY_ECC_INFO_UE = 0 ∧
        bit (x.get F.PG_IRQ_RAW 0x20) 8 = true) ∧
    (∀ (be : BitVec 8) (syn : Nat), s.qDeny master.val (w + (beSpan be.toNat).1) (beSpan be.toNat).2 false = none →
      s.qry.ue.any (fun p => p.1 == s.qKey w / 8) = false →
      ∃ x, exec (.quarryAccess master addr be none (.multi syn)) s = .next (s.finish x) ∧
        x.qry = { s.qry with ue := x.qry.ue } ∧ x.out.head? = some (.quarry master.val w 1 (leVal (s.qBytes w 8))) ∧
        x.get F.QRY_ECC_UE = min (s.get F.QRY_ECC_UE + 1) (2 ^ F.QRY_ECC_UE.width - 1) ∧
        x.qry.ue.any (fun p => p.1 == s.qKey w / 8) = true) ∧
    (∀ (be : BitVec 8) (data : DWord) (syn : Nat), be ≠ 0xFF →
      s.qDeny master.val (w + (beSpan be.toNat).1) (beSpan be.toNat).2 true = none →
      s.qry.ue.any (fun p => p.1 == s.qKey w / 8) = false →
      ∃ x, exec (.quarryAccess master addr be (some data) (.multi syn)) s = .next (s.finish x) ∧
        x.qry.mem = s.qry.mem ∧ x.out.head? = some (.quarry master.val w 1 0) ∧
        x.get F.QRY_ECC_UE = min (s.get F.QRY_ECC_UE + 1) (2 ^ F.QRY_ECC_UE.width - 1) ∧
        x.get F.QRY_ECC_INFO_UE = 1 ∧ bit (x.get F.PG_IRQ_RAW 0x20) 9 = true ∧ bit (x.get F.IRQ_URG_RAW) 5 = true))

/-- R277: the patrol goes on to the next word of an ON bank; a word without error changes nothing but its place, and with no bank ON
nothing happens; a single-bit error is corrected and logged as found by the patrol, and where the cell is hard and AUTO_REPAIR set its
row is given a spare; an uncorrectable word is logged and stays as it is.
R271, R272, R274: with legal codes, a write to QRY_BANK_RUN in a state that uses it sets each of its sixteen banks: a BAD bank stays
BAD, a bank switched off is OFF and one that leaves OFF is CLEARING, a bank that clears, is out for a march or under repair stays
so, and any other takes its code; no other bank changes, and a bank neither switched off nor left OFF keeps its bytes. A bank that has
cleared is ON, or in RETAIN where its setting says so, and its event is raised when it was the last. -/
def Obligations.PatrolAndBankPower : Prop :=
  (∀ s : State, s.answers 9 5 = true → s.on F.QRY_CFG_SCRUB_EN = true →
    ((∀ b < 64, s.bank b ≠ 2) → ∀ (found : Upset) (hard : Bool), exec (.scrubPatrol found hard) s = .next (s.finish s)) ∧
    (∀ (k : Nat) (hard : Bool), s.scrubNext s.qry.scrub = some k → s.qry.ue.any (fun p => p.1 == k) = false →
      exec (.scrubPatrol .none hard) s = .next (s.finish { s with qry := { s.qry with scrub := (k + 1) % 8388608 } }) ∧
      ∀ syn : Nat, ∃ x, exec (.scrubPatrol (.single syn) false) s = .next (s.finish x) ∧ x.qry.mem = s.qry.mem ∧
        x.qry.scrub = (k + 1) % 8388608 ∧ x.get F.QRY_ECC_CE = min (s.get F.QRY_ECC_CE + 1) (2 ^ F.QRY_ECC_CE.width - 1) ∧
        x.get F.QRY_ECC_INFO_SCRUB = 1 ∧ x.get F.QRY_ECC_INFO_HARD = 0 ∧ x.get F.QRY_ECC_INFO_MASTER = 13) ∧
    (∀ (k e syn : Nat), s.scrubNext s.qry.scrub = some k → s.qry.ue.any (fun p => p.1 == k) = false →
      s.on F.QRY_CFG_AUTO_REPAIR = true → (List.range 8).find? (fun e => s.rprFree (12 * (k / 131072) + e)) = some e →
      ∃ x, exec (.scrubPatrol (.single syn) true) s = .next (s.finish x) ∧ x.get F.QRY_ECC_INFO_HARD = 1 ∧
        x.rprValid (12 * (k / 131072) + e) = true ∧ x.get F.RPR_ROW_ROW (12 * (k / 131072) + e) = k % 131072 / 64 ∧
        x.qry = { s.qry with scrub := (k + 1) % 8388608, copies := s.qry.copies ++ [12 * (k / 131072) + e] }) ∧
    (∀ (k syn : Nat) (hard : Bool), s.scrubNext s.qry.scrub = some k →
      ∃ x, exec (.scrubPatrol (.multi syn) hard) s = .next (s.finish x) ∧ x.qry.mem = s.qry.mem ∧ x.qry.scrub = (k + 1) % 8388608 ∧
        x.get F.QRY_ECC_UE = min (s.get F.QRY_ECC_UE + 1) (2 ^ F.QRY_ECC_UE.width - 1) ∧ x.get F.QRY_ECC_INFO_SCRUB = 1 ∧
        x.qry.ue.any (fun p => p.1 == k) = true)) ∧
  (∀ (ifc : Ifc) (index : Fin 4) (value : Reg) (facts : WFacts) (s : State), s.takes ifc (0x20110 + 4 * index.val) = true →
    s.power ≤ 1 → s.bankCodes index.val 2 value.toNat = (value.toNat, none) →
    ∃ y : State, exec (.bankPowerWrite ifc index value facts) s = .next (s.finish y.followMarkBanks) ∧
      y.get F.QRY_BANK_RUN index.val = value.toNat ∧
      ∀ b < 64,
        (b / 16 ≠ index.val → y.bank b = s.bank b) ∧
        (b / 16 = index.val →
          let c := bits value.toNat (2 * (b % 16)) 2
          let now := s.bank b
          y.bank b = (if now = 6 then 6 else if c = 0 then 0 else if now = 0 then 3
            else if now = 3 ∨ now = 4 ∨ now = 5 ∨ now = 7 then now else c)) ∧
        ((b / 16 ≠ index.val ∨ (bits value.toNat (2 * (b % 16)) 2 ≠ 0 ∧ s.bank b ≠ 0)) →
          ∀ k, k / 0x100000 = b → memGet 0 k y.qry.mem = memGet 0 k s.qry.mem)) ∧
  (∀ (bank : Bank) (s : State), s.answers 9 5 = true → s.bank bank.val = 3 →
    ∃ y : State, exec (.bankClearDone bank) s = .next (s.finish y.followMarkBanks) ∧
      y.bank bank.val = (if s.bankSet F.QRY_BANK_RUN bank.val = 1 then 1 else 2) ∧ y.qry = s.qry ∧
      (∀ b < 64, b ≠ bank.val → y.bank b = s.bank b) ∧
      ((∀ b < 64, b ≠ bank.val → s.bank b ≠ 3) → bit (y.get F.PG_IRQ_RAW 0x20) 10 = true))

/-- R280, R65: a 1 written to RGN_FENCE_SET fences that master and a 1 in RGN_FENCE_CLR, of another interface's or engine's bit,
lifts its fence; a change raises the fence's event and urgent source, and no region register changes.
R284 to R286: a free semaphore acquired is held by the writer with its tag, for its lease, of 1 ms at least; its holder may renew and
release it; one held by another is left as it is and the contention counted. A fenced master acquires and renews nothing, and who
does not hold a semaphore renews and releases nothing, cause DEPENDENT. A lease that runs out, or a break of a fenced master's holdings,
frees the semaphore with ENDED set; only the named masters lose theirs. -/
def Obligations.FencesAndSemaphores : Prop :=
  (∀ (ifc : Ifc) (mask : Word) (facts : WFacts) (s : State), s.takes ifc 0x21100 = true → s.takes ifc 0x21104 = true →
    (∃ x, exec (.fenceSet ifc mask facts) s = .next (s.finish x) ∧ x.get F.RGN_FENCED = (s.get F.RGN_FENCED).lor mask.toNat ∧
      (∀ i < 256, x.get F.RGN_MI_EN i = s.get F.RGN_MI_EN i ∧ x.get F.RGN_MI_BASE i = s.get F.RGN_MI_BASE i ∧
        x.get F.RGN_MI_LIMIT i = s.get F.RGN_MI_LIMIT i) ∧
      ((s.get F.RGN_FENCED).lor mask.toNat ≠ s.get F.RGN_FENCED →
        bit (x.get F.PG_IRQ_RAW 0x21) 9 = true ∧ bit (x.get F.IRQ_URG_RAW) 2 = true)) ∧
    (bit mask.toNat ifc.id = false →
      ∃ x, exec (.fenceClear ifc mask facts) s = .next (s.finish x) ∧
        ∀ m < 16, x.mFenced m = (s.mFenced m && !(bit mask.toNat m)))) ∧
  (∀ (ifc : Ifc) (index : Fin 64) (tag : Word) (lease : BitVec 8) (facts : WFacts) (s : State), let n := index.val
    s.takes ifc (0x20400 + 4 * n) = true →
    (s.mFenced ifc.id = false → s.semExpired n = true →
      ∃ x, exec (.semAcquire ifc index tag lease facts) s = .next (s.finish x) ∧ x.get F.QRY_SEMN_HELD n = 1 ∧
        x.get F.QRY_SEMN_OWNER n = ifc.id ∧ x.get F.QRY_SEMN_TAG n = tag.toNat ∧ x.get F.QRY_SEMN_ENDED n = 1 ∧
        look 0 n x.qry.leases = s.clk.q0Ns + max 1 lease.toNat * 1000000) ∧
    (s.mFenced ifc.id = true → s.semExpired n = false → lease ≠ 0 →
      ∃ x, exec (.semAcquire ifc index tag lease facts) s = .next (s.finish x) ∧ x.qry = s.qry ∧ x.get F.PG_CLAMP_CAUSE 0x20 = 8 ∧
        x.get F.QRY_SEMN_HELD n = s.get F.QRY_SEMN_HELD n ∧ x.get F.QRY_SEMN_OWNER n = s.get F.QRY_SEMN_OWNER n) ∧
    (s.semExpired n = false → s.semHolds n ifc.id tag.toNat = false → lease ≠ 0 →
      ∃ x y, exec (.semRenew ifc index tag lease facts) s = .next (s.finish x) ∧ x.qry = s.qry ∧ x.get F.PG_CLAMP_CAUSE 0x20 = 8 ∧
        exec (.semRelease ifc index tag lease facts) s = .next (s.finish y) ∧ y.qry = s.qry ∧ y.get F.PG_CLAMP_CAUSE 0x20 = 8 ∧
        x.get F.QRY_SEMN_HELD n = s.get F.QRY_SEMN_HELD n ∧ y.get F.QRY_SEMN_HELD n = s.get F.QRY_SEMN_HELD n) ∧
    (s.semExpired n = false → s.semHolds n ifc.id tag.toNat = true →
      ∃ x, exec (.semRelease ifc index tag lease facts) s = .next (s.finish x) ∧ x.get F.QRY_SEMN_HELD n = 0 ∧
        x.get F.QRY_SEMN_ENDED n = 0 ∧ x.get F.QRY_SEMN_OWNER n = 0 ∧ x.get F.QRY_SEMN_TAG n = 0) ∧
    (s.mFenced ifc.id = false → s.semExpired n = false →
    (s.on F.QRY_SEMN_HELD n = false →
      ∃ x, exec (.semAcquire ifc index tag lease facts) s = .next (s.finish x) ∧ x.get F.QRY_SEMN_HELD n = 1 ∧
        x.get F.QRY_SEMN_OWNER n = ifc.id ∧ x.get F.QRY_SEMN_TAG n = tag.toNat ∧ x.get F.QRY_SEMN_ENDED n = s.get F.QRY_SEMN_ENDED n ∧
        look 0 n x.qry.leases = s.clk.q0Ns + max 1 lease.toNat * 1000000 ∧ x.qry.mem = s.qry.mem) ∧
    (s.on F.QRY_SEMN_HELD n = true → s.semHolds n ifc.id tag.toNat = false →
      ∃ x, exec (.semAcquire ifc index tag lease facts) s = .next (s.finish x) ∧ x.qry = s.qry ∧
        x.get F.QRY_SEMN_OWNER n = s.get F.QRY_SEMN_OWNER n ∧ x.get F.QRY_SEMN_TAG n = s.get F.QRY_SEMN_TAG n ∧
        x.get F.QRY_SEM_CONTEND = min (s.get F.QRY_SEM_CONTEND + 1) (2 ^ F.QRY_SEM_CONTEND.width - 1)) ∧
    (s.semHolds n ifc.id tag.toNat = true →
      (∃ x, exec (.semRenew ifc index tag lease facts) s = .next (s.finish x) ∧ x.semHolds n ifc.id tag.toNat = true ∧
        look 0 n x.qry.leases = s.clk.q0Ns + max 1 lease.toNat * 1000000) ∧
      ∃ x, exec (.semAcquire ifc index tag lease facts) s = .next (s.finish x) ∧ x.semHolds n ifc.id tag.toNat = true ∧
        look 0 n x.qry.leases = s.clk.q0Ns + max 1 lease.toNat * 1000000))) ∧
  (∀ (index : Fin 64) (s : State), s.islandAsleep 9 = false → s.on F.QRY_SEMN_HELD index.val = true →
    s.isl.frozen.contains 9 = false →
    ∃ x, exec (.semLeaseExpiry index) s = .next (s.finish x) ∧ x.get F.QRY_SEMN_HELD index.val = 0 ∧
      x.get F.QRY_SEMN_ENDED index.val = 1 ∧ x.get F.QRY_SEMN_OWNER index.val = 0 ∧
      x.get F.QRY_SEM_ENDED = min (s.get F.QRY_SEM_ENDED + 1) (2 ^ F.QRY_SEM_ENDED.width - 1) ∧
      bit (x.get F.PG_IRQ_RAW 0x20) 11 = true) ∧
  (∀ (ifc : Ifc) (mask : Word) (facts : WFacts) (s : State), s.takes ifc 0x20170 = true →
    mask.toNat.land (s.get F.RGN_FENCED) = mask.toNat →
    ∃ x, exec (.semBreak ifc mask facts) s = .next (s.finish x) ∧
      ∀ n < 64, x.on F.QRY_SEMN_HELD n = (s.on F.QRY_SEMN_HELD n && !(bit mask.toNat (s.get F.QRY_SEMN_OWNER n))) ∧
        (s.on F.QRY_SEMN_HELD n = true → x.on F.QRY_SEMN_HELD n = false → x.on F.QRY_SEMN_ENDED n = true))

/-- R290 to R292: START on an ON bank takes the bank out for a destructive run, which loses its contents, or marches it in the map;
ABORT marks the run, and it ends with ABORTED at the segment's end; a transparent march goes from segment to segment, at least
64 µs apart; a run whose bank shows no fault ends with PASS and the bank ON, or in RETAIN where its setting says so, with its event and
count; a destructive one takes 1.645 ms a background and leaves the bank with zeros, aborted to be cleared;
one that fails and cannot be repaired ends with FAIL and its events.
R293, R295: an entry written with VALID that was free becomes VALID, is counted and raises its event, unless its spare is
SPARE_BAD; in an ON bank the copy begins, a column entry's with the bank under repair, until the copy is done, when the bank is ON
and the accesses held are taken up.
R296, R311, R424: a burn is accepted with VFUSE in 1.71 V to 1.89 V and Tj in 0 °C to 85 °C, both inclusive, with none in progress: the
entries VALID and not yet FUSED, or the lanes failed in soft state, are what it burns; outside those limits nothing burns. An
entry whose valid fuse verified reads FUSED, and the end is raised. -/
def Obligations.MarchAndRepair : Prop :=
  (∀ (ifc : Ifc) (bank : Bank) (mode full : Bool) (facts : WFacts) (s : State), s.takes ifc 0x22100 = true →
    s.on F.MRCH_STAT_BUSY = false → s.bank bank.val = 2 → (s.bankGuarded bank.val = false ∨ mode = true) →
    ∃ y : State, exec (.marchStart ifc bank mode full facts) s = .next (s.finish y.followMarkBanks) ∧
      y.get F.MRCH_STAT_BUSY = 1 ∧ y.get F.MRCH_STAT_BANK = bank.val ∧ y.bank bank.val = (if mode then 5 else 4) ∧
      (∀ b < 64, b ≠ bank.val → y.bank b = s.bank b) ∧
      y.qry.march = some ⟨bank.val, !mode, full, 0, 0, s.clk.now, false, false⟩ ∧
      (∀ k, (mode = true ∨ k / 0x100000 ≠ bank.val) → memGet 0 k y.qry.mem = memGet 0 k s.qry.mem) ∧
      (∀ k, mode = false → k / 0x100000 = bank.val → memGet 0 k y.qry.mem = 0)) ∧
  (∀ (ifc : Ifc) (facts : WFacts) (s : State) (r : MarchRun), s.takes ifc 0x22100 = true → s.on F.MRCH_STAT_BUSY = true →
    s.qry.march = some r →
    ∃ x, exec (.marchAbort ifc facts) s = .next (s.finish x) ∧ x.qry = { s.qry with march := some { r with aborting := true } }) ∧
  (∀ (s : State) (r : MarchRun), s.answers 9 5 = true → s.qry.march = some r → r.destructive = false → r.inSegment = false →
    r.aborting = false → r.segment < 256 → r.segEnd ≤ s.clk.now →
    ∃ x, exec .marchSegment s = .next (s.finish x) ∧ x.get F.MRCH_STAT_SEGMENT = r.segment ∧ r.segEnd + 64000 ≤ x.clk.now ∧
      x.qry = { s.qry with march := some { r with inSegment := true, segEnd := x.clk.now } }) ∧
  (∀ (s : State) (r : MarchRun), s.answers 9 5 = true → s.qry.march = some r →
    (r.destructive = true → exec .marchSegment s = .next (s.finish s)) ∧
    (r.destructive = false → r.aborting = true → r.inSegment = true → s.qry.held = [] →
      ∃ x, exec .marchSegment s = .next (s.finish x) ∧ x.get F.MRCH_STAT_RESULT = 4 ∧ x.get F.MRCH_STAT_BUSY = 0 ∧
        x.qry.march = none ∧ r.segEnd + 7040 ≤ x.clk.now) ∧
    (r.destructive = false → r.aborting = false → r.inSegment = true → r.segment + 1 < 256 → s.qry.held = [] →
      ∃ x, exec .marchSegment s = .next (s.finish x) ∧ x.get F.MRCH_STAT_SEGMENT = r.segment + 1 ∧ r.segEnd + 71040 ≤ x.clk.now ∧
        x.qry = { s.qry with march := some { r with segment := r.segment + 1, segEnd := x.clk.now } })) ∧
  (∀ (s : State), s.answers 9 5 = true → s.qry.march = none → exec .marchSegment s = .next (s.finish s)) ∧
  (∀ (found : MarchFacts) (s : State) (r : MarchRun), s.answers 9 5 = true → s.qry.march = some r → s.qry.held = [] →
    r.destructive = true → r.bank < 64 → s.bank r.bank = 4 →
    (r.aborting = true →
      ∃ y : State, exec (.marchDone found) s = .next (s.finish y.followMarkBanks) ∧ y.get F.MRCH_STAT_RESULT = 4 ∧ y.bank r.bank = 3) ∧
    (r.aborting = false → found.cells = [] → found.badSpares = [] →
      ∃ y : State, exec (.marchDone found) s = .next (s.finish y.followMarkBanks) ∧ y.get F.MRCH_STAT_RESULT = 1 ∧
        y.bank r.bank = (if s.bankSet F.QRY_BANK_RUN r.bank = 1 then 1 else 2) ∧
        r.segEnd + 1645000 * (if r.full then 4 else 1) ≤ y.clk.now ∧
        ∀ k, k / 0x100000 = r.bank → memGet 0 k y.qry.mem = 0)) ∧
  (∀ (found : MarchFacts) (s : State) (r : MarchRun), s.answers 9 5 = true → s.qry.march = some r → s.qry.held = [] →
    r.destructive = false → r.bank < 64 → s.bank r.bank = 5 →
    let back := if s.bankSet F.QRY_BANK_RUN r.bank = 1 then 1 else 2
    (r.aborting = false → found.cells ≠ [] → found.again = false →
      ∃ y : State, exec (.marchDone found) s = .next (s.finish y.followMarkBanks) ∧ y.get F.MRCH_STAT_RESULT = 3 ∧
        y.bank r.bank = back ∧ bit (y.get F.PG_IRQ_RAW 0x22) 9 = true ∧ bit (y.get F.PG_IRQ_RAW 0x20) 12 = true) ∧
    (r.aborting = true →
      ∃ y : State, exec (.marchDone found) s = .next (s.finish y.followMarkBanks) ∧ y.get F.MRCH_STAT_BUSY = 0 ∧
        y.get F.MRCH_STAT_RESULT = 4 ∧ y.bank r.bank = back ∧ y.qry = { s.qry with march := none } ∧ y.get F.MRCH_RUNS = s.get F.MRCH_RUNS) ∧
    (r.aborting = false → found.cells = [] → found.badSpares = [] →
      ∃ y : State, exec (.marchDone found) s = .next (s.finish y.followMarkBanks) ∧ y.get F.MRCH_STAT_BUSY = 0 ∧
        y.get F.MRCH_STAT_RESULT = 1 ∧ y.bank r.bank = back ∧ y.qry = { s.qry with march := none } ∧
        y.get F.MRCH_RUNS = min (s.get F.MRCH_RUNS + 1) (2 ^ F.MRCH_RUNS.width - 1) ∧ bit (y.get F.PG_IRQ_RAW 0x22) 8 = true)) ∧
  (∀ (ifc : Ifc) (entry : Fin 768) (facts : WFacts) (s : State), s.takes ifc (0x23200 + 4 * entry.val) = true →
    s.rprValid entry.val = false → s.rprFused entry.val = false → s.rprBad entry.val = false →
    (∀ row < 2048, entry.val % 12 < 8 →
      ∃ x, exec (.spareEntryEnable ifc entry (BitVec.ofNat 32 (2 ^ 28 + row)) facts) s = .next (s.finish x) ∧
        x.rprValid entry.val = true ∧ x.get F.RPR_ROW_ROW entry.val = row ∧
        ((s.bank (entry.val / 12) = 2 ∨ s.bank (entry.val / 12) = 5 ∨ s.bank (entry.val / 12) = 7) →
          x.qry = { s.qry with copies := s.qry.copies ++ [entry.val] }) ∧
        (s.bank (entry.val / 12) ≤ 1 → x.qry = s.qry) ∧
        x.get F.RPR_SOFT_ADDED = min (s.get F.RPR_SOFT_ADDED + 1) (2 ^ F.RPR_SOFT_ADDED.width - 1) ∧
        bit (x.get F.PG_IRQ_RAW 0x23) 8 = true) ∧
    (∀ col < 64, ∀ slice < 72, 8 ≤ entry.val % 12 → s.bank (entry.val / 12) = 2 →
      ∃ x, exec (.spareEntryEnable ifc entry (BitVec.ofNat 32 (2 ^ 28 + slice * 64 + col)) facts) s = .next (s.finish x) ∧
        x.rprValid entry.val = true ∧ x.get F.RPR_COL_COL entry.val = col ∧ x.get F.RPR_COL_SLICE entry.val = slice ∧
        x.bank (entry.val / 12) = 7 ∧ x.qry = { s.qry with copies := s.qry.copies ++ [entry.val] })) ∧
  (∀ (ifc : Ifc) (entry : Fin 768) (facts : WFacts) (s : State), s.takes ifc (0x23200 + 4 * entry.val) = true →
    s.rprValid entry.val = false → s.rprFused entry.val = false → s.rprBad entry.val = true →
    ∀ row < 2048, entry.val % 12 < 8 →
      ∃ x, exec (.spareEntryEnable ifc entry (BitVec.ofNat 32 (2 ^ 28 + row)) facts) s = .next (s.finish x) ∧
        x.rprValid entry.val = false ∧ x.get F.RPR_ROW_ROW entry.val = row ∧ x.qry = s.qry) ∧
  (∀ (entry : Fin 768) (s : State), s.answers 9 5 = true → s.qry.copies = [entry.val] →
    (s.bank (entry.val / 12) = 7 → exec (.spareCopyDone entry) s = .next (s.finish
      ((({ s with qry := { s.qry with copies := [] } } : State).setBank (entry.val / 12)
        (if s.bankSet F.QRY_BANK_RUN (entry.val / 12) = 1 then 1 else 2)).deliverHeld))) ∧
    (s.bank (entry.val / 12) = 2 → exec (.spareCopyDone entry) s = .next (s.finish
      ({ s with qry := { s.qry with copies := [] } } : State).deliverHeld))) ∧
  (∀ (ifc : Ifc) (vfuse : Nat) (tj : Int) (facts : WFacts) (s : State), s.takes ifc 0x23100 = true →
    (1710 ≤ vfuse → vfuse ≤ 1890 → 0 ≤ tj → tj ≤ 850 → s.burning = false →
      ∃ x, exec (.repairBurn ifc vfuse tj facts) s = .next (s.finish x) ∧ x.burning = true ∧ x.get F.RPR_STAT_BURNING = 1 ∧
        x.qry = { s.qry with burnRpr := (List.range 768).filter (fun k => s.rprValid k && !(s.rprFused k)), burnLn := [] }) ∧
    ((vfuse < 1710 ∨ 1890 < vfuse ∨ tj < 0 ∨ 850 < tj ∨ s.burning = true) →
      ∃ x, exec (.repairBurn ifc vfuse tj facts) s = .next (s.finish x) ∧ x.burning = s.burning ∧ x.qry = s.qry ∧
        x.get F.PG_CLAMP_CAUSE 0x23 = 8)) ∧
  (∀ (ifc : Ifc) (vfuse : Nat) (tj : Int) (facts : WFacts) (s : State), s.takes ifc 0x1A114 = true →
    1710 ≤ vfuse → vfuse ≤ 1890 → 0 ≤ tj → tj ≤ 850 → s.burning = false → s.softLanes ≠ [] →
    ∃ x, exec (.laneFuse ifc vfuse tj facts) s = .next (s.finish x) ∧ x.burning = true ∧
      x.qry = { s.qry with burnLn := s.softLanes, burnRpr := [] }) ∧
  (∀ (ifc : Ifc) (vfuse : Nat) (tj : Int) (facts : WFacts) (s : State), s.takes ifc 0x1A114 = true →
    (vfuse < 1710 ∨ 1890 < vfuse ∨ tj < 0 ∨ 850 < tj ∨ s.burning = true ∨ s.softLanes = []) →
    ∃ x, exec (.laneFuse ifc vfuse tj facts) s = .next (s.finish x) ∧ x.burning = s.burning ∧ x.qry = s.qry ∧
      x.get F.PG_CLAMP_CAUSE 0x1A = 8) ∧
  (∀ (s : State) (k : Nat), s.answers 31 6 = true → s.burning = true → s.on F.RPR_STAT_BURNING = true → s.qry.burnRpr = [k] →
    s.qry.burnLn = [] → look 0 (k / 12) s.fuse.spent < 16 → k < 768 →
    ∃ x, exec (.fuseBurnDone [true]) s = .next (s.finish x) ∧ x.rprFused k = true ∧ x.burning = false ∧
      x.qry = { s.qry with burnRpr := [], burnLn := [] } ∧ look 0 (k / 12) x.fuse.spent = look 0 (k / 12) s.fuse.spent + 1 ∧
      bit (x.get F.PG_IRQ_RAW 0x37) 8 = true ∧ bit (x.get F.PG_IRQ_RAW 0x23) 10 = true)

/-! ### Self-test in service (chapter 11) -/

/-- R299 to R306, R191, R194, R36: the rest lane's next slice starts after LANE_GAP, unless a rotation waits, and a mortar gap's slices start
6 µs before the boundary; a slice ends when its duration has passed, with its monitors shown: one outside its limits is invalid
and counted, one inside counts toward its run (unless that run was started again since), whose last slice passes the run, and
on the rest lane has the lanes rotate; a checkpoint missed fails it: the lane is FAILED_SOFT, the Lintel held where LINTEL_HOLD asks
for it; in the whole engine it fails the lane it names. What the engine's slice held goes on after it.
R299, R307, R308: PERIOD after a run the next one starts from slice 0, where the domain is enabled; RETEST starts a run of an enabled
domain now; RELEASE clears the hold of a Lintel whose retest has passed, which re-arms. Both are refused otherwise. -/
def Obligations.SlicesAndRuns : Prop :=
  (∀ s : State, s.hostLive = true →
    let d := s.get F.LANE_REST_REST
    let a := s.elapseTo (s.test.laneEnd + 1000 * s.get F.LBST_CFG_LANE_GAP)
    (s.testMode = 1 → s.power = 0 → s.on F.PWR_STAT_ENTERING = false → s.islandState 8 = 1 → d ≤ 8 → (∀ y ∈ s.test.slices, 9 ≤ y.1) →
      s.trw.rotate = false → s.test.running.contains d = true →
      ∃ x, exec .restLaneSliceStart s = .next (s.finish x) ∧ x.test.slices = s.test.slices ++ [(d, a.clk.now)] ∧
        x.on F.LBST_D_STAT_IN_SLICE d = true ∧ x.get (F.LANE_STATE_L d) = 2 ∧ x.clk = a.clk) ∧
    (s.testMode ≠ 1 ∨ 8 < d ∨ s.power ≠ 0 ∨ s.trw.rotate = true → exec .restLaneSliceStart s = .next (s.finish s))) ∧
  (∀ (tie : Bool) (s : State), s.hostLive = true →
    (s.power = 0 → s.clk.ltOn = true → s.on F.PWR_STAT_ENTERING = false → s.on F.PWR_STAT_WAKING = false →
      exec (.gapSliceStart tie) s = .next (s.finish (s.takeShadows
        (let a := s.elapseLt (s.base + s.courseNs - 6000)
         let ds := a.gapDomains tie
         let b := ds.foldl (fun t d => t.startSlice d) a
         match (ds.filter (· != 9)).getLast? with
         | some d => { b with test := { b.test with next := d - 10 + 1 } }
         | none => b)))) ∧
    (s.power ≠ 0 ∨ s.clk.ltOn = false → exec (.gapSliceStart tie) s = .next (s.finish s))) ∧
  (∀ (found : SliceFacts) (facts : WFacts) (s : State) (t : Nat), s.test.slices = [(9, t)] →
    ∃ y : State, y.test.slices = [] ∧ y.trw.crossing = s.trw.crossing ∧ y.loc = s.loc ∧ t + 5444 ≤ y.clk.now ∧
      exec (.sliceEnd 9 found facts) s = .next (s.finish (y.engineBack.stagedDone facts))) ∧
  (∀ (domain : Fin 33) (found : SliceFacts) (facts : WFacts) (s : State) (t : Nat), let d := domain.val
    s.test.slices = [(d, t)] → s.host.staged = [] → s.trw.crossing = [] → s.loc.ethRx = [] → s.loc.canRx = [] →
    (found.valid = false →
      ∃ x, exec (.sliceEnd domain found facts) s = .next (s.finish x) ∧ x.test.slices = [] ∧ x.get F.LBST_LAST_RESULT = 2 ∧
        x.get F.LBST_D_STAT_SLICE d = s.get F.LBST_D_STAT_SLICE d ∧ x.on F.LBST_D_STAT_IN_SLICE d = false ∧
        x.get F.LBST_LAST_DOMAIN = d ∧ t + sliceNs d ≤ x.clk.now ∧
        x.get F.LBST_INVALID = min (s.get F.LBST_INVALID + 1) (2 ^ F.LBST_INVALID.width - 1)) ∧
    (s.test.stale.contains d = true → found.valid = true →
      ∃ x, exec (.sliceEnd domain found facts) s = .next (s.finish x) ∧ x.test.slices = [] ∧ x.get F.LBST_LAST_RESULT = 1 ∧
        x.get F.LBST_D_STAT_SLICE d = s.get F.LBST_D_STAT_SLICE d ∧ x.test.running = s.test.running) ∧
    (s.test.stale = [] → found.valid = true → found.mismatch = false → s.get F.LBST_D_STAT_SLICE d + 1 < runSlices d →
      ∃ x, exec (.sliceEnd domain found facts) s = .next (s.finish x) ∧ x.test.slices = [] ∧ x.get F.LBST_LAST_RESULT = 1 ∧
        x.get F.LBST_D_STAT_SLICE d = s.get F.LBST_D_STAT_SLICE d + 1 ∧ x.get F.LBST_D_CKPT_INV_RUN d = 0) ∧
    (s.test.stale = [] → found.valid = true → found.mismatch = false → s.get F.LBST_D_STAT_SLICE d + 1 = runSlices d →
      ∃ x, exec (.sliceEnd domain found facts) s = .next (s.finish x) ∧ x.get F.LBST_D_STAT_STATE d = 2 ∧
        x.get F.LBST_D_STAT_SLICE d = 0 ∧ x.get F.LBST_PASSES = min (s.get F.LBST_PASSES + 1) (2 ^ F.LBST_PASSES.width - 1) ∧
        x.test.running = s.test.running.filter (· != d) ∧ bit (x.get F.PG_IRQ_RAW 0x24) 10 = true ∧
        (d < 9 → s.on F.LANE_CFG = false → x.trw.rotate = true)) ∧
    (s.test.stale = [] → found.valid = true → found.mismatch = true → (s.get F.LBST_D_STAT_SLICE d + 1) % 64 = 0 → d ≠ 9 →
      ∃ x, exec (.sliceEnd domain found facts) s = .next (s.finish x) ∧ x.get F.LBST_D_STAT_STATE d = 3 ∧
        x.get F.LBST_LAST_RESULT = 3 ∧ x.get F.LBST_D_CKPT_FAIL_AT d = (s.get F.LBST_D_STAT_SLICE d + 1) / 64 ∧
        bit (x.get F.PG_IRQ_RAW 0x24) 8 = true ∧ (9 < d → x.on F.LBST_STAT_FAIL_ANY = true) ∧
        (d < 9 → x.get (F.LANE_STATE_L d) = 3 ∧ bit (x.get F.PG_IRQ_RAW 0x1A) 9 = true) ∧
        (10 ≤ d → d ≤ 17 → s.on F.LBST_CFG_LINTEL_HOLD = true → s.lines.length = 8 →
          x.on F.LBST_D_STAT_HELD d = true ∧ (x.line (d - 10)).hold = true)) ∧
    (s.test.stale = [] → found.valid = true → found.mismatch = true → (s.get F.LBST_D_STAT_SLICE d + 1) % 64 = 0 → d = 9 →
      found.lane < 9 →
      ∃ x, exec (.sliceEnd domain found facts) s = .next (s.finish x) ∧ x.get (F.LANE_STATE_L found.lane) = 3 ∧
        x.get F.LBST_LAST_RESULT = 3 ∧ bit (x.get F.PG_IRQ_RAW 0x1A) 9 = true)) ∧
  (∀ (domain : Fin 33) (s : State), s.hostLive = true →
    (∀ t, s.test.due.find? (fun x => x.1 == domain.val) = some (domain.val, t) →
      exec (.lbistRunStart domain) s = .next (s.finish
        (if s.domainOn domain.val then (s.elapseTo t).startRun domain.val else s.elapseTo t))) ∧
    (s.test.due.find? (fun x => x.1 == domain.val) = none → exec (.lbistRunStart domain) s = .next (s.finish s))) ∧
  (∀ (ifc : Ifc) (domain : Fin 33) (facts : WFacts) (s : State), s.takes ifc 0x2410C = true →
    (s.domainOn domain.val = true →
      ∃ x, exec (.lbistRetest ifc domain facts) s = .next (s.finish x) ∧ x.get F.LBST_D_STAT_SLICE domain.val = 0 ∧
        x.test.running.contains domain.val = true ∧ ∀ e ∈ x.test.due, e.1 ≠ domain.val) ∧
    (s.domainOn domain.val = false →
      ∃ x, exec (.lbistRetest ifc domain facts) s = .next (s.finish x) ∧ x.test = s.test ∧ x.get F.PG_CLAMP_CAUSE 0x24 = 8) ∧
    (10 ≤ domain.val → domain.val ≤ 17 → s.get F.LBST_D_STAT_STATE domain.val = 2 → s.on F.LBST_D_STAT_HELD domain.val = true →
      s.lines.length = 8 →
      ∃ x, exec (.lbistRelease ifc domain facts) s = .next (s.finish x) ∧ x.on F.LBST_D_STAT_HELD domain.val = false ∧
        (x.line (domain.val - 10)).hold = false ∧
        ((s.line (domain.val - 10)).map.isSome = true → s.lintel (domain.val - 10) = 1 → x.lintel (domain.val - 10) = 3)) ∧
    (domain.val < 10 ∨ 17 < domain.val ∨ s.get F.LBST_D_STAT_STATE domain.val ≠ 2 ∨ s.on F.LBST_D_STAT_HELD domain.val = false →
      ∃ x, exec (.lbistRelease ifc domain facts) s = .next (s.finish x) ∧ x.lines = s.lines ∧ x.get F.PG_CLAMP_CAUSE 0x24 = 8))

/-! ### Load channels (chapter 12) -/

/-- R318, R320, R322: a result pair is shown with its codes; while the pair autozeroes it goes to no window and not to metering, and the
64th result sets the current's offset to the rounded mean; a window that is over gives the mean of its results as the last measurement, a
heater's the root of the mean square, and one that is too short or has fewer than two results gives nothing; one without a
given end ends after its kind's longest, and the next one follows it.
R326, R331, R337: between two PWM starts a lamp's gate instant sets the gate to what PWM and phase give, and a PWM start takes the command
latched before it; a heater's follows its cycle; a channel off, in NAP or without an instant does nothing. After CMD_TO courses without a command a channel times out once: it is counted
and raised, and OFF latches MODE OFF, SAFE holds the safe level. -/
def Obligations.LoadChannels : Prop :=
  (∀ (chan : Chan) (stamp : DWord) (len : Nat) (codeI codeV : Word) (held : Bool) (s : State), s.awake 27 = true →
    (∃ x, exec (.adcResult chan stamp len codeI codeV held) s = .next (s.finish x) ∧
      x.get F.ADC_IN_LAST (2 * chan.val) = codeI.toNat ∧ x.get F.ADC_IN_LAST (2 * chan.val + 1) = codeV.toNat) ∧
    (s.loads.length = 48 → 1 < (s.chan chan.val).azN →
      ∃ x, exec (.adcResult chan stamp len codeI codeV held) s = .next (s.finish x) ∧
        (x.chan chan.val).azN = (s.chan chan.val).azN - 1 ∧ x.mtr = s.mtr ∧
        x.get F.ADC_IN_OFS (2 * chan.val) = s.get F.ADC_IN_OFS (2 * chan.val)) ∧
    (s.loads.length = 48 → (s.chan chan.val).azN = 1 →
      ∃ x, exec (.adcResult chan stamp len codeI codeV held) s = .next (s.finish x) ∧ (x.chan chan.val).azN = 0 ∧ x.mtr = s.mtr ∧
        x.get F.ADC_IN_OFS (2 * chan.val) =
          satSigned 16 (roundDiv ((s.chan chan.val).azI + signed 16 codeI.toNat) 64) % 2 ^ F.ADC_IN_OFS.width ∧
        bit (x.get F.PG_IRQ_RAW 0x2D) 9 = true)) ∧
  (∀ (chan : Chan) (s : State) (w : LWin) (rest : List LWin) (t : Nat), let n := chan.val
    s.awake 27 = true → s.islandAsleep 27 = false → (s.chan n).windows = w :: rest → w.close = some t →
    let a := s.elapseLt t
    let b := a.setChan n { a.chan n with windows := rest }
    ((t < w.opened + 40000 ∨ w.n < 2 ∨ w.void = true) →
      exec (.measurementWindowClose chan) s = .next (s.finish b)) ∧
    (w.opened + 40000 ≤ t → 2 ≤ w.n → w.void = false → s.kind n ≠ 2 →
      ∃ x, exec (.measurementWindowClose chan) s = .next (s.finish x) ∧
        x.lds F.LDS_I_LAST n = satSigned 32 (roundDiv w.sumI (w.n * 1000000)) % 2 ^ 32 ∧
        x.lds F.LDS_V_LAST n = satSigned 32 (roundDiv w.sumV (w.n * 1000000)) % 2 ^ 32 ∧
        x.lds F.LDS_P_LAST n = satSigned 32 (roundDiv w.sumP (w.n * 10 ^ 18)) % 2 ^ 32 ∧
        x.lds F.LDS_STAT_DEFERRED n = w.deferred.toNat) ∧
    (w.opened + 40000 ≤ t → 2 ≤ w.n → w.void = false → s.kind n = 2 →
      ∃ x, exec (.measurementWindowClose chan) s = .next (s.finish x) ∧
        x.lds F.LDS_I_LAST n = satSigned 32 (rms w.sqI w.n 1000000) % 2 ^ 32 ∧
        x.lds F.LDS_V_LAST n = satSigned 32 (rms w.sqV w.n 1000000) % 2 ^ 32 ∧
        x.lds F.LDS_P_LAST n = satSigned 32 (roundDiv w.sumP (w.n * 10 ^ 18)) % 2 ^ 32)) ∧
  (∀ (chan : Chan) (s : State), let n := chan.val
    s.awake 27 = true →
    ((s.chan n).windows = [] → exec (.measurementWindowClose chan) s = .next (s.finish s)) ∧
    (∀ w rest len, (s.chan n).windows = w :: rest → w.close = none → s.windowNs n = some len → s.kind n ≠ 1 → w.n < 2 ∨ w.void = true →
      let a := s.elapseLt (w.opened + len)
      exec (.measurementWindowClose chan) s = .next (s.finish
        (a.setChan n { a.chan n with windows := rest ++ [LWin.mk0 w.kind (w.opened + len) none] }))) ∧
    (∀ w rest, (s.chan n).windows = w :: rest → w.close = none → s.windowNs n = none →
      exec (.measurementWindowClose chan) s = .next (s.finish s))) ∧
  (∀ (chan : Chan) (s : State), let n := chan.val
    s.awake 27 = true → s.islandAsleep 27 = false →
    (s.chanOff n = true ∨ s.power = 2 ∨ s.kind n = 0 ∨ s.kind n = 3 ∨ (s.kind n = 2 ∧ s.heaterNext n (s.chan n).edgeAt = none) ∨
        (s.kind n = 1 ∧ s.lampNext n (s.chan n).edgeAt = none) → exec (.gateEdge chan) s = .next (s.finish s)) ∧
    (∀ t, s.chanOff n = false → s.power ≠ 2 → s.kind n = 1 → s.lampNext n (s.chan n).edgeAt = some t → s.loads.length = 48 →
      t % (1000 * s.lds F.LDS_PWM_PWM_US n) = 0 → (s.chan n).latchLt < t →
      ∃ x, exec (.gateEdge chan) s = .next (s.finish x) ∧ (x.chan n).eff = s.lds F.LDS_CMD_NOW_CMD n ∧ (x.chan n).edgeAt = t ∧
        x.clk = (s.elapseLt t).clk) ∧
    (∀ t, s.chanOff n = false → s.power ≠ 2 → s.kind n = 1 → s.lampNext n (s.chan n).edgeAt = some t →
      t % (1000 * s.lds F.LDS_PWM_PWM_US n) ≠ 0 → (s.chan n).proofEnd = 0 →
      ∃ x, exec (.gateEdge chan) s = .next (s.finish x) ∧ x.ldsOn F.LDS_STAT_GATE n = s.lampGate n t ∧
        x.clk = (s.elapseLt t).clk ∧ x.qry = s.qry ∧ x.mtr = s.mtr) ∧
    (∀ t, s.chanOff n = false → s.power ≠ 2 → s.kind n = 2 → s.heaterNext n (s.chan n).edgeAt = some t →
      ∃ x, exec (.gateEdge chan) s = .next (s.finish x) ∧ x.ldsOn F.LDS_STAT_GATE n = s.heaterGate n t ∧
        x.clk = (s.elapseLt t).clk)) ∧
  (∀ (chan : Chan) (s : State), let n := chan.val
    s.awake 27 = true →
    ((s.chan n).misses < s.lds F.LDS_CFG_CMD_TO n ∨ s.ldsOn F.LDS_CFG_SRC n = false ∨ s.lds F.LDS_CFG_CMD_TO n = 0 ∨
        s.ldsOn F.LDS_STAT_TIMEOUT n = true → exec (.commandTimeout chan) s = .next (s.finish s)) ∧
    (s.ldsOn F.LDS_CFG_SRC n = true → s.lds F.LDS_CFG_CMD_TO n ≠ 0 →
      s.lds F.LDS_CFG_CMD_TO n ≤ (s.chan n).misses → s.ldsOn F.LDS_STAT_TIMEOUT n = false →
      ∃ x, exec (.commandTimeout chan) s = .next (s.finish x) ∧ x.lds F.LDS_STAT_TIMEOUT n = 1 ∧
        x.get F.LDC_CMD_TO = min (s.get F.LDC_CMD_TO + 1) (2 ^ F.LDC_CMD_TO.width - 1) ∧
        bit (x.get F.PG_IRQ_RAW (ldsPage n)) 11 = true ∧
        (s.lds F.LDS_CFG_TO_ACT n = 0 → x.lds F.LDS_CMD_NOW_CMD n = s.lds F.LDS_CMD_NOW_CMD n ∧
          x.lds F.LDS_STAT_GATE n = s.lds F.LDS_STAT_GATE n) ∧
        (s.lds F.LDS_CFG_TO_ACT n = 1 → x.lds F.LDS_CMD_NOW_CMD n = s.lds F.LDS_CMD_NOW_CMD n / 4 * 4) ∧
        (s.lds F.LDS_CFG_TO_ACT n = 2 → s.loads.length = 48 → (x.chan n).toSafe = true ∧
          x.ldsOn F.LDS_STAT_GATE n = (s.ldsOn F.LDS_CFG_SAFE n && s.kind n != 0))))

/-- R335, R338 to R342: PROVEN becomes UNPROVEN when PROOF_AGE has passed, unless a proof window that closed before awaits its verdict; 100 ms without a crossing set NO_MAINS; settling over, a feed's
windows begin; a slow trip drives the gate inactive, counts and gives TRIPPED, or LOCKED_OUT with every retry used; after
RETRY_MS the feed is on again, SETTLING, with one retry counted; CLR_S without a trip clears the count.
A timer's end on a channel that no longer waits for it does nothing.
R330, R336, R342, R320: LEARN of a channel commanded on takes the next 16 on-windows; one commanded off refuses it; CLR_LOCK of a
locked-out or held channel waits for its next latch, and any other refuses it; AUTOZERO averages the pair's next 64 results. -/
def Obligations.ChannelTimersAndCommands : Prop :=
  (∀ (chan : Chan) (s : State), let n := chan.val
    s.awake 27 = true → s.loads.length = 48 →
    (∀ t, (s.chan n).provenAt = some t →
      let due := t + 1000000 * s.lds F.LDS_TIME_PROOF_AGE n
      let a := s.elapseTo due
      ((s.chan n).status = 2 →
        (∀ w ∈ (s.chan n).windows, w.kind = 2 → ∀ c, w.close = some c → a.clk.lt - (a.clk.now - due) ≤ c) →
        ∃ x, exec (.proofAgeExpiry chan) s = .next (s.finish x) ∧ (x.chan n).status = 3 ∧ x.clk = a.clk) ∧
      ((s.chan n).status ≠ 2 ∨ (∃ w ∈ (s.chan n).windows, w.kind = 2 ∧ ∃ c, w.close = some c ∧ c < a.clk.lt - (a.clk.now - due)) →
        exec (.proofAgeExpiry chan) s = .next (s.finish a))) ∧
    ((s.chan n).provenAt = none → exec (.proofAgeExpiry chan) s = .next (s.finish s)) ∧
    ((s.chan n).settleTo = none → exec (.settleExpiry chan) s = .next (s.finish s)) ∧
    (∀ t, (s.chan n).settleTo = some t → s.kind n ≠ 3 → exec (.settleExpiry chan) s = .next (s.finish (s.elapseTo t))) ∧
    (s.kind n ≠ 2 ∨ s.ldsOn F.LDS_STAT_NO_MAINS n = true → exec (.noMainsTimeout chan) s = .next (s.finish s)) ∧
    ((s.chan n).overAt = none ∨ s.kind n ≠ 3 ∨ s.ldsOn F.LDS_STAT_GATE n = false → exec (.slowTrip chan) s = .next (s.finish s)) ∧
    ((s.chan n).retryAt = none ∨ (s.chan n).phase ≠ 2 → exec (.feedRetry chan) s = .next (s.finish s)) ∧
    (s.kind n ≠ 3 ∨ (s.chan n).phase ≠ 1 ∨ s.ldsOn F.LDS_STAT_GATE n = false → exec (.retryCountClear chan) s = .next (s.finish s)) ∧
    (∀ t, (s.chan n).settleTo = some t → s.kind n = 3 →
      ∃ x, exec (.settleExpiry chan) s = .next (s.finish x) ∧ x.regs = s.regs ∧
        x.chan n = { s.chan n with
          settleTo := none
          windows := (s.chan n).windows ++ [LWin.mk0 (s.lds F.LDS_STAT_GATE n) (s.elapseTo t).clk.lt none] }) ∧
    (s.kind n = 2 → s.ldsOn F.LDS_STAT_NO_MAINS n = false →
      ∃ x, exec (.noMainsTimeout chan) s = .next (s.finish x) ∧ x.lds F.LDS_STAT_NO_MAINS n = 1 ∧
        x.clk = (s.elapseTo ((s.chan n).validAt + 100000000)).clk) ∧
    (∀ t, (s.chan n).overAt = some t → s.kind n = 3 → s.ldsOn F.LDS_STAT_GATE n = true → (s.chan n).phase = 1 →
      ∃ x, exec (.slowTrip chan) s = .next (s.finish x) ∧ x.lds F.LDS_STAT_GATE n = 0 ∧
        x.lds F.LDS_EVENTS_COUNT n = min (s.lds F.LDS_EVENTS_COUNT n + 1) (2 ^ F.LDS_EVENTS_COUNT.width - 1) ∧
        (x.chan n).status = (if s.lds F.LDS_RETRY_RETRY_N n ≤ s.lds F.LDS_STAT_RETRIES n then 13 else 12) ∧
        (x.chan n).phase = (if s.lds F.LDS_RETRY_RETRY_N n ≤ s.lds F.LDS_STAT_RETRIES n then 3 else 2) ∧
        bit (x.get F.PG_IRQ_RAW (ldsPage n)) 9 = true) ∧
    (∀ t, (s.chan n).retryAt = some t → (s.chan n).phase = 2 → s.kind n = 3 →
      ∃ x, exec (.feedRetry chan) s = .next (s.finish x) ∧ x.lds F.LDS_STAT_GATE n = 1 ∧ (x.chan n).phase = 1 ∧
        (x.chan n).status = 14 ∧ x.lds F.LDS_STAT_RETRIES n = min 15 (s.lds F.LDS_STAT_RETRIES n + 1) % 2 ^ F.LDS_STAT_RETRIES.width) ∧
    (s.kind n = 3 → (s.chan n).phase = 1 → s.ldsOn F.LDS_STAT_GATE n = true →
      exec (.retryCountClear chan) s = .next (s.finish
        ((s.elapseTo ((s.chan n).clrFrom + 1000000000 * s.lds F.LDS_RETRY_CLR_S n)).setLds F.LDS_STAT_RETRIES n 0)))) ∧
  (∀ (ifc : Ifc) (chan : Chan) (facts : WFacts) (s : State), let n := chan.val
    (s.takes ifc (F.LDS_CTRL_LEARN.addr (ldsIx n)) = true →
      (s.cmdOn n = true → s.kind n ≠ 0 →
        exec (.loadLearn ifc chan facts) s = .next (s.finish ((s.counted (ldsPage n)).loadLearn n))) ∧
      (s.cmdOn n = false ∨ s.kind n = 0 →
        ∃ x, exec (.loadLearn ifc chan facts) s = .next (s.finish x) ∧ x.loads = s.loads ∧ x.get F.PG_CLAMP_CAUSE (ldsPage n) = 8) ∧
      (s.lds F.LDS_STAT_STATUS n = 13 ∨ s.view F.LDS_STAT_SAFE_HELD (ldsIx n) = 1 →
        exec (.clearLock ifc chan facts) s = .next (s.finish ((s.counted (ldsPage n)).clearLock n))) ∧
      (s.lds F.LDS_STAT_STATUS n ≠ 13 → s.view F.LDS_STAT_SAFE_HELD (ldsIx n) ≠ 1 →
        ∃ x, exec (.clearLock ifc chan facts) s = .next (s.finish x) ∧ x.loads = s.loads ∧ x.get F.PG_CLAMP_CAUSE (ldsPage n) = 8)) ∧
    (s.takes ifc 0x2D118 = true →
      exec (.autozero ifc chan facts) s = .next (s.finish ((s.counted 0x2D).autozero n))))

/-! ### Metering and the Tally (chapter 13) -/

/-- R353 to R358, R365: at a nominal boundary an edge is stamped and counted; at its horizon the period closes with one record for each
channel that belongs to it, all with the next sequence number, and the next period opens at the edge; without room for them
the period runs on, merged and counted. With no event to decide, a close does nothing. R359: a set inside the interval of the period leaves it open and flags it; one
into the next interval closes it at the old time and opens the next at the new. EN written 0 stops accumulation and queues a stop with that instant, where Q_FULL does not refuse it, and the
stop closes the period and opens none; EN written 1 opens one at the interval that holds the RTC, and written 1 again opens nothing.
R363, R364: the mover takes the next record, behind the erase of the sector it opens; with nothing to copy, with the Vault taking none, and while its last one is in work, it copies nothing. TALY_ACK takes an index from its own value to WR_IDX and
lets records leave the queue; an index beyond either end is taken to it and reported. -/
def Obligations.MeteringPeriods : Prop :=
  (∀ s : State,
    (s.awake 28 = true → s.metering = true →
      let at_ := s.nomOf s.clk.sec + s.pSec
      let e := s.elapse (s.untilRtc at_)
      exec .billingEdge s = .next (s.finish
        (({ e with mtr := { e.mtr with events := e.mtr.events ++ [.edge at_ e.clk.lt s.timeValid] } } : State).inc F.MTR_EDGES))) ∧
    (s.awake 28 = false ∨ s.metering = false → exec .billingEdge s = .next (s.finish s))) ∧
  (∀ (slice : Bool) (s : State), s.awake 28 = false ∨ s.mtr.events = [] → exec (.periodClose slice) s = .next (s.finish s)) ∧
  (∀ (slice valid : Bool) (s : State) (nom t : Nat), s.awake 28 = true → s.mtr.events = [.edge nom t valid] → s.mtr.late = [] → s.mtr.waiting = [] →
    s.standby = false → nom < 2 ^ 40 →
    (s.members.length ≤ s.talyRoom →
      ∃ x, exec (.periodClose slice) s = .next (s.finish x) ∧ x.mtr.events = [] ∧ x.mtr.isOpen = true ∧ x.nominal = nom ∧
        x.get F.TALY_WR_IDX = (s.get F.TALY_WR_IDX + s.members.length) % 2 ^ 32 ∧
        x.get F.TALY_SEQ = (s.get F.TALY_SEQ + (if s.members = [] then 0 else 1)) % 2 ^ 32 ∧
        bit (x.get F.PG_IRQ_RAW 0x30) 8 = true ∧ x.on F.MTR_STAT_RUNNING = true) ∧
    (s.talyRoom < s.members.length →
      ∃ x, exec (.periodClose slice) s = .next (s.finish x) ∧ x.mtr.events = [] ∧ x.nominal = s.nominal ∧
        x.get F.TALY_WR_IDX = s.get F.TALY_WR_IDX ∧ x.get F.TALY_SEQ = s.get F.TALY_SEQ ∧ x.on F.TALY_STAT_Q_FULL = true ∧
        x.get F.TALY_MERGED = min (s.get F.TALY_MERGED + 1) (2 ^ F.TALY_MERGED.width - 1) ∧
        x.mtr.span = min (s.mtr.span + 1) 0xFFFFFFFF ∧ bit (x.get F.PG_IRQ_RAW 0x31) 11 = true)) ∧
  (∀ (s : State) (os ou ns nu t : Nat), s.awake 28 = true → s.mtr.events = [.set os ou ns nu t true] → s.mtr.late = [] →
    s.actual.1 < ns →
    (s.nomOf ns = s.nomOf os →
      ∃ x, exec (.periodClose false) s = .next (s.finish x) ∧ x.mtr = { s.mtr with events := [] } ∧ x.nominal = s.nominal ∧
        x.actual = s.actual ∧ bit (x.get F.MTR_FLAGS) 5 = true ∧ x.get F.TALY_WR_IDX = s.get F.TALY_WR_IDX) ∧
    (s.nomOf ns = s.nomOf os + s.pSec → s.mtr.edgeAt ≠ some t → s.mtr.waiting = [] → s.standby = false →
      s.members.length ≤ s.talyRoom → s.on F.MTR_STAT_CHANGE_PENDING = false → ns < 2 ^ 40 → nu < 2 ^ 15 →
      ∃ x, exec (.periodClose false) s = .next (s.finish x) ∧ x.mtr.events = [] ∧ x.mtr.isOpen = true ∧ x.nominal = s.nomOf ns ∧
        x.actual = (ns, nu) ∧ x.get F.TALY_WR_IDX = (s.get F.TALY_WR_IDX + s.members.length) % 2 ^ 32 ∧
        bit (x.get F.PG_IRQ_RAW 0x30) 8 = true)) ∧
  (∀ (s : State) (sec sub t : Nat) (valid : Bool), s.awake 28 = true → s.mtr.events = [.stop sec sub t valid] → s.mtr.late = [] →
    s.mtr.waiting = [] → s.standby = false → s.members.length ≤ s.talyRoom →
    ∃ x, exec (.periodClose false) s = .next (s.finish x) ∧ x.mtr.events = [] ∧ x.mtr.isOpen = false ∧ x.mtr.lastEnd = some sec ∧
      x.get F.TALY_WR_IDX = (s.get F.TALY_WR_IDX + s.members.length) % 2 ^ 32 ∧ bit (x.get F.PG_IRQ_RAW 0x30) 8 = true) ∧
  (∀ (ifc : Ifc) (facts : WFacts) (s : State), s.takes ifc 0x30100 = true →
    (s.on F.MTR_CFG_EN = true → s.on F.MTR_STAT_RUNNING = true → s.on F.TALY_STAT_Q_FULL = false →
      ∃ x, exec (.meteringStop ifc facts) s = .next (s.finish x) ∧ x.on F.MTR_CFG_EN = false ∧ x.on F.MTR_STAT_RUNNING = false ∧
        x.mtr.events = s.mtr.events ++ [.stop s.clk.sec s.clk.sub s.clk.lt s.timeValid] ∧ x.mtr.chans = s.mtr.chans) ∧
    (s.on F.MTR_CFG_EN = true → s.on F.TALY_STAT_Q_FULL = true →
      ∃ x, exec (.meteringStop ifc facts) s = .next (s.finish x) ∧ x.on F.MTR_CFG_EN = true ∧ x.mtr = s.mtr ∧
        x.get F.PG_CLAMP_CAUSE 0x30 = 8) ∧
    (s.on F.MTR_CFG_EN = false ∨ (s.on F.MTR_STAT_RUNNING = false ∧ s.on F.TALY_STAT_Q_FULL = false) →
      ∃ x, exec (.meteringStop ifc facts) s = .next (s.finish x) ∧ x.on F.MTR_CFG_EN = false ∧ x.mtr = s.mtr) ∧
    (s.on F.MTR_CFG_EN = false → s.on F.MTR_STAT_RUNNING = false → s.islandServes 28 = true → s.mtr.events = [] →
      s.clk.sec < 2 ^ 40 → s.clk.sub < 2 ^ 15 →
      ∃ x, exec (.meteringStart ifc facts) s = .next (s.finish x) ∧ x.on F.MTR_CFG_EN = true ∧ x.on F.MTR_STAT_RUNNING = true ∧
        x.mtr.isOpen = true ∧ x.nominal = s.nomOf s.clk.sec ∧ x.actual = (s.clk.sec, s.clk.sub)) ∧
    (s.on F.MTR_CFG_EN = true →
      ∃ x, exec (.meteringStart ifc facts) s = .next (s.finish x) ∧ x.on F.MTR_CFG_EN = true ∧ x.mtr = s.mtr)) ∧
  (∀ s : State,
    (s.awake 31 = false ∨ s.awake 28 = false → exec .tallyVaultCopy s = .next (s.finish s)) ∧
    (s.awake 31 = true → s.awake 28 = true →
      let a := s.talyStat
      let i := s.get F.TALY_VLT_IDX
      let x0 := 0x0C0000 + i % 32640 * 64
      let q := s.get F.TALY_Q_BASE * 64 + i % s.get F.TALY_Q_SIZE * 64
      let busy := s.vault.ops.any (fun o => o.purpose.cls == 4)
      (s.get F.TALY_WR_IDX ≤ i ∨ a.talyHeld = true ∨ busy = true ∨ s.islandServes 31 = false →
        exec .tallyVaultCopy s = .next (s.finish a)) ∧
      (i < s.get F.TALY_WR_IDX → a.talyHeld = false → s.islandServes 31 = true → busy = false → s.qRefuse 14 q 64 false = none →
        s.ueIn q 64 = none →
        let b := if i % 64 = 0 then a.vPush ⟨.tallyErase, [], x0 / 4096, true, 0, false⟩ else a
        exec .tallyVaultCopy s = .next (s.finish (b.vPush ⟨.tally 1, vRows x0 (s.qBytes q 64), x0 / 4096, false, 0, false⟩))))) ∧
  (∀ (ifc : Ifc) (index : Reg) (facts : WFacts) (s : State), s.takes ifc 0x31110 = true →
    (s.get F.TALY_ACK ≤ index.toNat → index.toNat ≤ s.get F.TALY_WR_IDX →
      exec (.tallyAck ifc index facts) s = .next (s.finish (((s.set F.TALY_ACK index.toNat).counted 0x31).talyAcked))) ∧
    (index.toNat < s.get F.TALY_ACK →
      ∃ x, exec (.tallyAck ifc index facts) s = .next (s.finish x) ∧ x.get F.TALY_ACK = s.get F.TALY_ACK ∧
        x.get F.PG_CLAMP_CAUSE 0x31 = 8) ∧
    (s.get F.TALY_ACK ≤ index.toNat → s.get F.TALY_WR_IDX < index.toNat →
      ∃ x, exec (.tallyAck ifc index facts) s = .next (s.finish x) ∧ x.get F.TALY_ACK = s.get F.TALY_WR_IDX ∧
        x.get F.PG_CLAMP_CAUSE 0x31 = 8))

/-! ### The RTC and the backup cell (chapter 14) -/

/-- R375: the years 2000 to 2199 have 29 days in February where they are divisible by 4 and not 2100, and 28 otherwise; the other
months have their usual lengths; the weekday is (d + 5) mod 7 for the d whole days that have passed. Below the end of the
calendar a count's view is a date that exists, and the calendar form of that view gives the same count back. -/
def Obligations.CalendarRoundTrip : Prop :=
  (∀ y m : Nat, 2000 ≤ y → y ≤ 2199 → 1 ≤ m → m ≤ 12 →
    monthLen y m = (if m = 2 then (if y % 4 = 0 ∧ y ≠ 2100 then 29 else 28) else if [4, 6, 9, 11].contains m then 30 else 31)) ∧
  (∀ c < calEnd, let v := calOf c
    calSeconds v.yearOfs v.month v.day v.hour v.min v.sec = c ∧ 1 ≤ v.month ∧ v.month ≤ 12 ∧ 1 ≤ v.day ∧
      v.day ≤ monthLen (2000 + v.yearOfs) v.month ∧ v.weekday = (c / 86400 + 5) % 7 ∧ v.hour < 24 ∧ v.min < 60 ∧ v.sec < 60 ∧
      v.yearOfs < 200)

/-- R372, R373, R376: at the next seconds value that is a multiple of 32 the trim adds or owes its ticks, unless the count does not get there; at its maximum the RTC stops with
SEC_END; from the end of the calendar CAL_END is set, raised once, and before it clear.
R379 to R383: an accepted COMMIT loads the RTC from the staged form at once, or waits for its course; one that is refused leaves the
RTC alone, sets REFUSED and is reported. A pending commit takes effect at its course. DISCARD and CAPTURE set the staging
registers, CAPTURE to their reset values while TIME_VALID is 0, and a CAPTURE while a commit is pending is refused; an armed alarm whose value the count reaches fires and disarms, and one that is not armed,
without a valid time or with its value not reached, does not. -/
def Obligations.RtcCountsAndSets : Prop :=
  (∀ s : State,
    let d0 := (s.clk.sec + (if s.clk.sub = 0 then 0 else 1) + 31) / 32 * 32
    let due := if d0 = s.clk.trimmed then d0 + 32 else d0
    let a := s.elapse (s.untilRtc due)
    (due ≤ a.clk.sec →
      ∃ x, exec .rtcTrim s = .next (s.finish x) ∧ x.clk.trimmed = due ∧ x.clk.sec = a.clk.sec ∧ x.clk.sub = a.clk.sub ∧
        (0 ≤ signed 8 (s.get F.RTC_CAL) → x.clk.rtcExtra = a.clk.rtcExtra + (signed 8 (s.get F.RTC_CAL)).toNat ∧ x.clk.rtcOwed = a.clk.rtcOwed) ∧
        (signed 8 (s.get F.RTC_CAL) < 0 → x.clk.rtcOwed = a.clk.rtcOwed + (-(signed 8 (s.get F.RTC_CAL))).toNat ∧
          x.clk.rtcExtra = a.clk.rtcExtra) ∧ x.regs = s.regs) ∧
    (a.clk.sec < due → exec .rtcTrim s = .next (s.finish a))) ∧
  (∀ s : State, let a := s.elapse (s.untilRtc 0xFFFFFFFFFF + 1000000000)
    exec .rtcSecondsEnd s = .next (s.finish
      (if a.clk.sec = 0xFFFFFFFFFF ∧ a.clk.sub = 32767 then a.set F.RTC_STAT_SEC_END 1 else a))) ∧
  (∀ s : State, let a := s.elapse (s.untilRtc calEnd)
    (calEnd ≤ a.clk.sec → s.on F.RTC_STAT_CAL_END = false →
      ∃ x, exec .calendarEnd s = .next (s.finish x) ∧ x.get F.RTC_STAT_CAL_END = 1 ∧ bit (x.get F.PG_IRQ_RAW 0x32) 11 = true ∧ x.clk = a.clk) ∧
    (calEnd ≤ a.clk.sec → s.on F.RTC_STAT_CAL_END = true → exec .calendarEnd s = .next (s.finish a)) ∧
    (a.clk.sec < calEnd → exec .calendarEnd s = .next (s.finish (a.set F.RTC_STAT_CAL_END 0)))) ∧
  (∀ (ifc : Ifc) (force form atCourse : Bool) (facts : WFacts) (s : State), s.takes ifc 0x3212C = true →
    let refused := s.commitRefused force atCourse s.course
    (refused = false → atCourse = false →
      ∃ x, exec (.rtcCommit ifc force form atCourse facts) s = .next (s.finish x) ∧ x.clk.sec = s.stagedSec form % 2 ^ 40 ∧
        x.clk.sub = s.get F.RTC_STG_SUB ∧ x.get F.RTC_STAT_TIME_VALID = 1 ∧ x.get F.RTC_LAST_OLD_LO = s.clk.sec % 2 ^ 32 ∧
        x.get F.RTC_SETS = min (s.get F.RTC_SETS + 1) (2 ^ F.RTC_SETS.width - 1) ∧ bit (x.get F.PG_IRQ_RAW 0x32) 9 = true ∧
        x.on F.RTC_STAT_FORCED = (force && s.on F.RTC_STAT_STG_CLAMPED)) ∧
    (refused = false → atCourse = true →
      ∃ x, exec (.rtcCommit ifc force form atCourse facts) s = .next (s.finish x) ∧ x.get F.RTC_STAT_PENDING = 1 ∧ x.clk = s.clk ∧
        x.rtc.form = form) ∧
    (refused = true →
      ∃ x, exec (.rtcCommit ifc force form atCourse facts) s = .next (s.finish x) ∧ x.clk = s.clk ∧ x.get F.RTC_STAT_REFUSED = 1 ∧
        bit (x.get F.PG_IRQ_RAW 0x32) 10 = true ∧ x.get F.PG_CLAMP_CAUSE 0x32 = 8)) ∧
  (∀ s : State,
    (s.on F.RTC_STAT_PENDING = true → s.get F.RTC_SET_COURSE = s.course →
      exec .rtcPendingCommit s = .next (s.finish (s.commitNow s.rtc.form s.rtc.forced))) ∧
    (s.on F.RTC_STAT_PENDING = false ∨ s.get F.RTC_SET_COURSE ≠ s.course → exec .rtcPendingCommit s = .next (s.finish s))) ∧
  (∀ (ifc : Ifc) (facts : WFacts) (s : State), s.takes ifc 0x3212C = true →
    (∃ x, exec (.rtcDiscard ifc facts) s = .next (s.finish x) ∧ x.clk = s.clk ∧ x.get F.RTC_STAT_PENDING = 0 ∧
      x.get F.RTC_STAT_STG_CLAMPED = 0 ∧ x.get F.RTC_STG_SUB = 0) ∧
    (s.on F.RTC_STAT_PENDING = false → s.timeValid = true → s.clk.sub < 32768 → s.clk.sec < 2 ^ 40 →
      ∃ x, exec (.rtcCapture ifc facts) s = .next (s.finish x) ∧ x.clk = s.clk ∧ x.stagedSec true = s.clk.sec ∧
        (s.clk.sec < calEnd → x.stagedSec false = s.clk.sec) ∧ x.get F.RTC_STG_SUB = s.clk.sub ∧ x.get F.RTC_STAT_STG_CLAMPED = 0) ∧
    (s.on F.RTC_STAT_PENDING = false → s.timeValid = false →
      ∃ x, exec (.rtcCapture ifc facts) s = .next (s.finish x) ∧ x.clk = s.clk ∧ x.stagedSec true = 0 ∧ x.stagedSec false = 0 ∧
        x.get F.RTC_STG_SUB = 0 ∧ x.get F.RTC_STAT_STG_CLAMPED = 0) ∧
    (s.on F.RTC_STAT_PENDING = true →
      ∃ x, exec (.rtcCapture ifc facts) s = .next (s.finish x) ∧ x.clk = s.clk ∧ (∀ form, x.stagedSec form = s.stagedSec form) ∧
        x.get F.RTC_STAT_PENDING = 1 ∧ x.get F.PG_CLAMP_CAUSE 0x32 = 8)) ∧
  (∀ s : State, let a := s.elapse (s.untilRtc s.alarmAt)
    (s.on F.RTC_ALARM_HI_ARMED = true → s.timeValid = true → s.islandAsleep 29 = false →
      (s.alarmAt ≤ a.clk.sec →
        ∃ x, exec .alarm s = .next (s.finish x) ∧ x.get F.RTC_ALARM_HI_ARMED = 0 ∧ x.get F.RTC_STAT_ALARM_FIRED = 1 ∧
          bit (x.get F.PG_IRQ_RAW 0x32) 8 = true ∧ x.clk = a.clk) ∧
      (a.clk.sec < s.alarmAt → exec .alarm s = .next (s.finish a))) ∧
    (s.on F.RTC_ALARM_HI_ARMED = false ∨ s.timeValid = false ∨ s.islandAsleep 29 = true → exec .alarm s = .next (s.finish s)))

/-- R366, R385, R431: main failing is counted with its instant, and with no save in progress takes the node toward KEEP, at once where its start has not ended; one that fails again during a save
is counted and the save goes on. With main back
during a save the start waits for it; the save's end clears SAVING and, with main still away, the node is in KEEP; a node in KEEP whose main is
valid starts, as `startEnd` says. A dump held back by the save begins at its end where main is back (R480).
R387, R388: a measurement of VBAT, where MEAS_EN has it made, is shown and compared with both thresholds, below which a bit is set, above which it
is cleared, and at which it stands; the brown-out and crystal-stop detectors set their
latches, the latter after the 122 µs without an edge. -/
def Obligations.MainAndBackupPower : Prop :=
  (∀ s : State,
    (s.pins.main = false → exec .mainFailure s = .next (s.finish s)) ∧
    (s.pins.main = true →
      ∃ x, exec .mainFailure s = .next (s.finish x) ∧ x.pins.main = false ∧
        x.get F.BKP_MAIN_LOSS = min (s.get F.BKP_MAIN_LOSS + 1) (2 ^ F.BKP_MAIN_LOSS.width - 1) ∧
        x.get F.BKP_LOSS_AT_LO = (s.elapse 1000).clk.sec % 2 ^ 32 ∧ x.get F.PWR_STAT_ORIGIN = 2 ∧
        (s.on F.TALY_STAT_SAVING = true → x.power = s.power ∧ x.on F.TALY_STAT_SAVING = true ∧ x.mtr = s.mtr ∧ x.vault = s.vault) ∧
        (s.on F.TALY_STAT_SAVING = false → s.isl.started < 8 → x.power = 5) ∧
        (s.on F.TALY_STAT_SAVING = false → 8 ≤ s.isl.started → x.get F.PWR_STAT_ENTERING = 1 ∧ x.pwr.target = 5 ∧
          x.power = s.power))) ∧
  (∀ (facts : StartFacts) (canary : Reg) (s : State),
    (s.pins.main = true ∨ (s.on F.TALY_STAT_SAVING = false ∧ s.power ≠ 5) → exec (.mainValid facts canary) s = .next (s.finish s)) ∧
    (s.pins.main = false → s.on F.TALY_STAT_SAVING = true →
      exec (.mainValid facts canary) s = .next (s.finish { s with pins := { s.pins with main := true, back := true } })) ∧
    (s.pins.main = false → s.on F.TALY_STAT_SAVING = false → s.power = 5 →
      ∃ x, exec (.mainValid facts canary) s = .next (s.finish x) ∧ x.pins.main = true ∧ startEnd facts x) ∧
    (s.on F.TALY_STAT_SAVING = false → exec (.snapshotSaveDone facts canary) s = .next (s.finish s)) ∧
    (s.on F.TALY_STAT_SAVING = true → s.pins.main = false →
      ∃ x, exec (.snapshotSaveDone facts canary) s = .next (s.finish x) ∧ x.power = 5 ∧ x.on F.TALY_STAT_SAVING = false ∧
        x.vault.ops = []) ∧
    (s.on F.TALY_STAT_SAVING = true → s.dump.held = none → s.pins.main = true →
      ∃ x, exec (.snapshotSaveDone facts canary) s = .next (s.finish x) ∧ startEnd facts x) ∧
    (∀ auto, s.on F.TALY_STAT_SAVING = true → s.dump.held = some auto → s.pins.main = true →
      ∃ x, exec (.snapshotSaveDone facts canary) s = .next (s.finish x) ∧ x.on F.TALY_STAT_SAVING = false ∧
        x.on F.PWR_STAT_ENTERING = false ∧ x.on F.DUMP_STAT_AUTO = auto)) ∧
  (∀ (mv vao : BitVec 16) (s : State),
    (s.pins.main = false ∨ s.islandAsleep 29 = true → exec (.vbatMeasure mv vao) s = .next (s.finish s)) ∧
    (s.pins.main = true → s.islandAsleep 29 = false → s.on F.BKP_CFG_MEAS_EN = false →
      exec (.vbatMeasure mv vao) s = .next (s.finish { s with mon := { s.mon with vao := vao.toNat } })) ∧
    (s.pins.main = true → s.islandAsleep 29 = false → s.on F.BKP_CFG_MEAS_EN = true →
      let warn := 2000 + 100 * s.get F.BKP_CFG_WARN
      ∃ x, exec (.vbatMeasure mv vao) s = .next (s.finish x) ∧ x.get F.BKP_VBAT = mv.toNat % 2 ^ F.BKP_VBAT.width ∧
        x.mon.vao = vao.toNat ∧
        x.on F.BKP_STAT_VBAT_LOW = (decide (mv.toNat < warn) || (s.on F.BKP_STAT_VBAT_LOW && mv.toNat == warn)) ∧
        x.on F.BKP_STAT_VBAT_ABSENT = (decide (mv.toNat < 1000) || (s.on F.BKP_STAT_VBAT_ABSENT && mv.toNat == 1000)) ∧
        (mv.toNat < warn → s.on F.BKP_STAT_VBAT_LOW = false → bit (x.get F.PG_IRQ_RAW 0x33) 8 = true) ∧
        (mv.toNat < 1000 → s.on F.BKP_STAT_VBAT_ABSENT = false → bit (x.get F.PG_IRQ_RAW 0x33) 9 = true))) ∧
  (∀ s : State, exec .brownOutDetect s = .next (s.finish { s with rtc := { s.rtc with brown := true } })) ∧
  (∀ (resumes : Bool) (s : State),
    ∃ x, exec (.crystalStopDetect resumes) s = .next (s.finish x) ∧ x.rtc.oscStop = true ∧ x.clk.xtal = resumes ∧
      x.clk.now = s.clk.now + 122000 ∧ x.clk.sec = s.clk.sec ∧ x.regs = s.regs)

/-! ### The Mark Store (chapter 15) -/

/-- R398, R401, R403, R404: a mark raised with a token, or of a type never suppressed, joins the queue where it has a place and is counted as dropped where it has none; one without a token is counted as
suppressed. While the Vault island is not on, and during a main-failure save, eight marks are held and more are dropped. While the always-on island sleeps, or a dump freezes the Vault island, a mark is lost.
The recorder takes the oldest queued mark and gives it the next number; past the last number the mark is dropped, and with nothing to take it does nothing. HOST_MARK raises the type written with
the payload bytes written, taken to a legal type and length, which is reported.
R403, R405, R406: at the RTC's next second after a suppression one SUPPRESSED record is written and the counts start again; the mirror
takes the oldest record that waits for it, or first has the sector erased that the record opens; one it cannot read is lost, and with the mirror off or no record waiting nothing happens; a MIRROR_GAP
is recorded before it. A clear with the key clears the partitions named (both where it names none, which is reported) and
advances the generation. -/
def Obligations.MarksRecordedAndMirrored : Prop :=
  (∀ (code : BitVec 12) (bytes : List Byte) (deferred : Bool) (s : State),
    let m : Mark := ⟨code.toNat, deferred, !s.timeValid, rtcBytes s.clk.sec s.clk.sub ++ bytes.map BitVec.toNat⟩
    let always := markAlways code.toNat
    (s.islandAsleep 29 = true ∨ s.isl.frozen.contains 31 = true → exec (.markRaise code bytes deferred) s = .next (s.finish s)) ∧
    (s.islandAsleep 29 = false → s.isl.frozen.contains 31 = false → (s.vaultAsleep = true ∨ s.on F.TALY_STAT_SAVING = true) →
      (s.marks.held.length < 8 →
        exec (.markRaise code bytes deferred) s = .next (s.finish { s with marks := { s.marks with held := s.marks.held ++ [m] } })) ∧
      (8 ≤ s.marks.held.length → exec (.markRaise code bytes deferred) s = .next (s.finish s.markDropped))) ∧
    (s.islandAsleep 29 = false → s.isl.frozen.contains 31 = false → s.vaultAsleep = false → s.on F.TALY_STAT_SAVING = false →
      ((always = true ∨ 1000000000 ≤ s.refill.marks.tokens) → s.marks.queue.length < 64 →
        ∃ x, exec (.markRaise code bytes deferred) s = .next (s.finish x) ∧ x.regs = s.regs ∧ x.marks.queue = s.marks.queue ++ [m] ∧
          x.marks.tokens = s.refill.marks.tokens - (if always then 0 else 1000000000)) ∧
      ((always = true ∨ 1000000000 ≤ s.refill.marks.tokens) → 64 ≤ s.marks.queue.length →
        ∃ x, exec (.markRaise code bytes deferred) s = .next (s.finish x) ∧ x.marks.queue = s.marks.queue ∧
          x.get F.MARK_DROPPED = min (s.get F.MARK_DROPPED + 1) (2 ^ F.MARK_DROPPED.width - 1)) ∧
      (always = false → s.refill.marks.tokens < 1000000000 →
        ∃ x, exec (.markRaise code bytes deferred) s = .next (s.finish x) ∧ x.marks.queue = s.marks.queue ∧
          x.get F.MARK_SUPPRESSED = min (s.get F.MARK_SUPPRESSED + 1) (2 ^ F.MARK_SUPPRESSED.width - 1)))) ∧
  (∀ s : State,
    (s.answers 31 8 = false ∨ s.marks.live = false ∨ s.marks.queue = [] → exec .markRecord s = .next (s.finish s)) ∧
    (∀ (m : Mark) (t : List Mark), s.answers 31 8 = true → s.marks.live = true → s.marks.queue = m :: t →
      exec .markRecord s = .next (s.finish (({ s with marks := { s.marks with queue := t } } : State).record m)) ∧
      (s.on F.MARK_STAT_SEQ_END = false → s.ownSeq (s.get F.MARK_NEXT_SEQ) < 0xFFFFFFFE →
        ∃ x, exec .markRecord s = .next (s.finish x) ∧ t <+: x.marks.queue ∧
          x.get F.MARK_NEXT_SEQ = s.ownSeq (s.ownSeq (s.get F.MARK_NEXT_SEQ) + 1)) ∧
      (s.on F.MARK_STAT_SEQ_END = true ∨ 0xFFFFFFFF < s.ownSeq (s.get F.MARK_NEXT_SEQ) →
        ∃ x, exec .markRecord s = .next (s.finish x) ∧ x.marks.queue = t ∧ x.on F.MARK_STAT_SEQ_END = true ∧
          x.get F.MARK_NEXT_SEQ = s.get F.MARK_NEXT_SEQ ∧
          x.get F.MARK_DROPPED = min (s.get F.MARK_DROPPED + 1) (2 ^ F.MARK_DROPPED.width - 1)))) ∧
  (∀ (ifc : Ifc) (code : BitVec 12) (len : BitVec 5) (facts : WFacts) (s : State), s.takes ifc 0x34130 = true →
    let bytes (n : Nat) : List Nat := ((List.range 6).flatMap (fun k => le 4 (s.get F.MARK_HOST_D k))).take n
    (2048 ≤ code.toNat → len.toNat ≤ 24 → len.toNat % 2 = 0 →
      exec (.hostMark ifc code len facts) s = .next (s.finish ((s.counted 0x34).mark code.toNat (bytes len.toNat)))) ∧
    (code.toNat < 2048 ∨ 24 < len.toNat ∨ len.toNat % 2 = 1 →
      ∃ x, exec (.hostMark ifc code len facts) s = .next (s.finish x) ∧ x.get F.PG_CLAMP_CAUSE 0x34 = 0 ∧
        x.marks = (s.mark (max 2048 code.toNat) (bytes (min 24 (len.toNat / 2 * 2)))).marks)) ∧
  (∀ s : State, let a := s.elapse (s.untilRtc (s.clk.sec + 1))
    (s.answers 31 8 = false → exec .suppressedRecord s = .next (s.finish s)) ∧
    (s.answers 31 8 = true → s.marks.supN = 0 → s.marks.dropN = 0 → exec .suppressedRecord s = .next (s.finish a)) ∧
    (s.answers 31 8 = true → (s.marks.supN ≠ 0 ∨ s.marks.dropN ≠ 0) →
      exec .suppressedRecord s = .next (s.finish
        (({ a with marks := { a.marks with supN := 0, dropN := 0, supCode := 0 } } : State).record
          ⟨0x002, false, !a.timeValid, rtcBytes a.clk.sec a.clk.sub ++ le 4 a.marks.supN ++ le 4 a.marks.dropN ++ le 2 a.marks.supCode
            ++ [0, 0]⟩)))) ∧
  (∀ s : State,
    (s.answers 31 8 = false ∨ s.on F.MARK_CFG_MIRROR_EN = false → exec .markMirror s = .next (s.finish s)) ∧
    (s.answers 31 8 = true → s.on F.MARK_CFG_MIRROR_EN = true →
      (s.marks.gapFrom = 0 → s.marks.toMirror = [] → exec .markMirror s = .next (s.finish s)) ∧
      (let g := ({ s with marks := { s.marks with gapFrom := 0, gapTo := 0 } } : State).record
        ⟨0x003, false, !s.timeValid, rtcBytes s.clk.sec s.clk.sub ++ le 4 s.marks.gapFrom ++ le 4 s.marks.gapTo⟩
       s.marks.gapFrom ≠ 0 → g.marks.gapFrom = 0 → exec .markMirror s = .next (s.finish g.mirrorNext)) ∧
      (∀ (r : MarkRec) (t : List MarkRec), s.marks.gapFrom = 0 → s.marks.toMirror = r :: t →
        let q := s.qRead 14 (markBase + r.off) r.bytes.length
        let only := s.on F.MARK_STAT_FIRST_ONLY
        let fp := mirrorPlace s.marks.vFirstOff r.bytes.length
        let ring := s.ringWrap s.marks.vRecentOff
        let rp := mirrorPlace (if 0x400000 ≤ mirrorPlace ring r.bytes.length then 16 * s.marks.fInForce * 4096 else ring) r.bytes.length
        let firstStale := r.first = true ∧ fp % 4096 = 32 ∧ s.marksBlank (fp / 4096) = false
        let recentStale := only = false ∧ rp % 4096 = 32 ∧ s.marksBlank (rp / 4096) = false
        (r.off ≠ 0 → q.1 ≠ .ok →
          exec .markMirror s = .next (s.finish (({ q.2.2 with marks := { q.2.2.marks with toMirror := t } } : State).mirrorLost r.seq))) ∧
        ((r.off = 0 ∨ q.1 = .ok) → (firstStale → only = true) → ¬recentStale →
          ∃ x, exec .markMirror s = .next (s.finish x) ∧ x.marks.toMirror = t ∧ (∃ o ∈ x.vault.ops, o.purpose = .mirror r.seq)) ∧
        ((r.off = 0 ∨ q.1 = .ok) → firstStale → only = false →
          ∃ x, exec .markMirror s = .next (s.finish x) ∧ x.marks.toMirror = r :: t ∧
            (∃ o ∈ x.vault.ops, o.erase = true ∧ o.sector = 704 + fp / 4096)) ∧
        ((r.off = 0 ∨ q.1 = .ok) → ¬firstStale → recentStale →
          ∃ x, exec .markMirror s = .next (s.finish x) ∧ x.marks.toMirror = r :: t ∧
            (∃ o ∈ x.vault.ops, o.erase = true ∧ o.sector = 704 + rp / 4096))))) ∧
  (∀ (ifc : Ifc) (part : BitVec 2) (facts : WFacts) (s : State), s.takes ifc 0x34118 = true →
    let p := if part = 0 then 3 else part.toNat
    ∃ x, exec (.markClear ifc part facts) s = .next (s.finish x) ∧ x.get F.MARK_STAT_GEN = nextGen (s.get F.MARK_STAT_GEN) ∧
      bit (x.get F.PG_IRQ_RAW 0x34) 9 = true ∧ (part = 0 → x.get F.PG_CLAMP_CAUSE 0x34 = 1) ∧
      (bit p 0 = true → x.marks.firstOff ≤ 0x1020) ∧ (bit p 1 = true → x.marks.recs.length ≤ 1))

/-! ### The Vault (chapter 16) -/

/-- R419, R418: PROGRAM and ERASE start in CONFIG, or in BOOT within 1 ms of its key, with HOST_BUSY set: an erase joins the queue, a program
joins it with the bytes read from the Quarry as master 14, and one whose bytes cannot be read ends SRC_ERR; a read-only Vault ends them with READ_ONLY; any other start, and one while the host's
command runs, starts nothing and is reported. ABORT cuts the host's command to the row in progress, ends one that has not begun at once, and is refused where none runs. The key opens BOOT, and its
window ends.
R410, R411, R415, R416: the run of a host program whose target reads erased and which verifies is stored, and every other byte of the
Vault keeps its value; one whose target does not read erased programs nothing and ends NOT_ERASED (either ends ABORTED where
ABORT has cut it); a verify that is not clean brings a retirement, and with no spare left FAILED; an erase that verifies leaves its
sector reading 0xFF and no other sector changed, one that does not is pulsed again, and at the tenth brings a retirement, or FAILED; a retirement maps its logical sector to the spare chosen, with the bytes
it held, and lets end the program that waited for it; without a spare the sector has failed. While the island does not answer, and with no such operation in service, an end of an operation changes nothing. -/
def Obligations.VaultCommands : Prop :=
  (∀ (ifc : Ifc) (facts : WFacts) (s : State), s.takes ifc 0x35104 = true →
    let x0 := s.get F.VLT_ADDR * 8
    let l := x0 / 4096
    let y (op : Nat) : State := ((s.set F.VLT_CMD_OP op).counted 0x35).set F.VLT_STAT_HOST_BUSY 1
    let src := s.get F.VLT_SRC * 8
    let len := s.get F.VLT_LEN
    (s.on F.VLT_STAT_HOST_BUSY = true ∨ s.vaultTarget = false →
      (∃ x, exec (.vaultErase ifc facts) s = .next (s.finish x) ∧ x.vault = s.vault ∧ x.get F.PG_CLAMP_CAUSE 0x35 = 8) ∧
      (∃ x, exec (.vaultProgram ifc facts) s = .next (s.finish x) ∧ x.vault = s.vault ∧ x.get F.PG_CLAMP_CAUSE 0x35 = 8)) ∧
    (s.on F.VLT_STAT_HOST_BUSY = false → s.vaultTarget = true →
      (s.vaultRo = true →
        exec (.vaultErase ifc facts) s = .next (s.finish ((y 1).hostVaultEnd 3 l)) ∧
        exec (.vaultProgram ifc facts) s = .next (s.finish ((y 2).hostVaultEnd 3 l))) ∧
      (s.vaultRo = false →
        exec (.vaultErase ifc facts) s = .next (s.finish ((y 1).vPush ⟨.hostErase, [], l, true, 0, false⟩)) ∧
        (s.qRefuse 14 src len false = none → s.ueIn src len = none →
          exec (.vaultProgram ifc facts) s = .next (s.finish
            ((y 2).vPush ⟨.host, vRows x0 (s.qBytes src len), l, false, 0, false⟩))) ∧
        (∀ d, s.qRefuse 14 src len false = some d →
          exec (.vaultProgram ifc facts) s = .next (s.finish (((y 2).denied 14 src false d).hostVaultEnd 4 l)))))) ∧
  (∀ (ifc : Ifc) (facts : WFacts) (s : State), s.takes ifc 0x35104 = true →
    (s.on F.VLT_STAT_HOST_BUSY = false →
      ∃ x, exec (.vaultAbort ifc facts) s = .next (s.finish x) ∧ x.vault = s.vault ∧ x.get F.PG_CLAMP_CAUSE 0x35 = 8) ∧
    (∀ o : VOp, s.on F.VLT_STAT_HOST_BUSY = true → s.vault.ops = [o] → o.purpose.cls = 6 →
      ((o.erase = true ∨ o.rows ≠ []) →
        ∃ x, exec (.vaultAbort ifc facts) s = .next (s.finish x) ∧
          x.vault.ops = [{ o with purpose := .aborting, rows := o.rows.take 1 }] ∧ x.vault.mem = s.vault.mem ∧
          x.get F.VLT_STAT_HOST_BUSY = 1) ∧
      (o.erase = false → o.rows = [] →
        ∃ x, exec (.vaultAbort ifc facts) s = .next (s.finish x) ∧ x.vault.ops = [] ∧ x.vault.mem = s.vault.mem ∧
          x.get F.VLT_STAT_HOST_BUSY = 0 ∧ x.get F.VLT_RESULT = 5)) ∧
    (∀ o h : VOp, s.on F.VLT_STAT_HOST_BUSY = true → s.vault.ops = [o, h] → h.purpose.cls = 6 → 1 ≤ o.purpose.cls → o.purpose.cls < 6 →
      ∃ x, exec (.vaultAbort ifc facts) s = .next (s.finish x) ∧ x.vault.ops = [o] ∧ x.vault.mem = s.vault.mem ∧
        x.get F.VLT_STAT_HOST_BUSY = 0 ∧ x.get F.VLT_RESULT = 5)) ∧
  (∀ (ifc : Ifc) (facts : WFacts) (s : State), s.takes ifc 0x35114 = true →
    exec (.bootKey ifc facts) s = .next (s.finish
      { s.counted 0x35 with vault := { s.vault with bootKey := some s.clk.now } })) ∧
  (∀ s : State,
    (s.vault.bootKey = none → exec .bootKeyWindowExpiry s = .next (s.finish s)) ∧
    (∀ t, s.vault.bootKey = some t →
      ∃ x, exec .bootKeyWindowExpiry s = .next (s.finish x) ∧ x.vault = { s.vault with bootKey := none } ∧ x.bootOpen = false ∧
        x.clk = (s.elapseTo (t + 1000000)).clk)) ∧
  (∀ (pulses : Nat) (verify : Verify) (tj : Int) (erased : Bool) (bad ue : Nat) (s : State),
    let rest : State := { s with dump := { s.dump with vault := false } }
    (s.answers 31 6 = false →
      exec (.vaultProgramOpDone pulses verify) s = .next (s.finish s) ∧ exec (.vaultErasePulseDone tj erased) s = .next (s.finish s) ∧
      exec (.vaultRetirementDone bad ue) s = .next (s.finish s)) ∧
    (s.answers 31 6 = true →
      (vNext s.vault.ops = none ∨ (∃ o, vNext s.vault.ops = some o ∧ o.erase = true) →
        exec (.vaultProgramOpDone pulses verify) s = .next (s.finish rest)) ∧
      (vNext s.vault.ops = none ∨ (∃ o, vNext s.vault.ops = some o ∧ o.erase = false) →
        exec (.vaultErasePulseDone tj erased) s = .next (s.finish rest)) ∧
      (vNext s.vault.ops = none ∨ (∃ o, vNext s.vault.ops = some o ∧ o.purpose.cls ≠ 2) →
        exec (.vaultRetirementDone bad ue) s = .next (s.finish rest)))) ∧
  (∀ (pulses : Nat) (s : State) (o : VOp) (x0 : Nat) (bs : List Nat), s.answers 31 6 = true → s.vault.ops = [o] →
    (o.purpose = .host ∨ o.purpose = .aborting) → o.erase = false → o.rows = [(x0, bs)] → (s.physInfo (s.phys (x0 / 4096))).state ≠ .failed →
    x0 % 4096 + bs.length ≤ 4096 → (∀ b ∈ bs, b < 256) →
    let l := x0 / 4096
    (s.vErased x0 bs.length = true →
      (∃ x, exec (.vaultProgramOpDone pulses .clean) s = .next (s.finish x) ∧ x.vault.ops = [] ∧
        x.get F.VLT_RESULT = (if o.purpose = .aborting then 5 else if o.retired then 2 else 0) ∧ bit (x.get F.PG_IRQ_RAW 0x35) 8 = true ∧
        x.get F.VLT_STAT_HOST_BUSY = 0 ∧ x.vBytes x0 bs.length = bs ∧
        (∀ k, (∀ i < bs.length, k ≠ s.vKey (x0 + i)) → memGet 0xFF k x.vault.mem = memGet 0xFF k s.vault.mem)) ∧
      (∀ v, v ≠ .clean → s.spares ≠ 0 → s.vaultRo = false →
        ∃ x, exec (.vaultProgramOpDone pulses v) s = .next (s.finish x) ∧
          x.vault.ops = [{ o with rows := [], retired := true },
            ⟨.retire l (if v = .corrected then 0 else 1), [], l, false, 0, false⟩] ∧
          x.vBytes x0 bs.length = bs ∧ x.get F.VLT_STAT_HOST_BUSY = s.get F.VLT_STAT_HOST_BUSY) ∧
      (∀ v, v ≠ .clean → (s.spares = 0 ∨ s.vaultRo = true) →
        ∃ x, exec (.vaultProgramOpDone pulses v) s = .next (s.finish x) ∧ x.vault.ops = [] ∧ x.get F.VLT_RESULT = 6 ∧
          x.get F.VLT_STAT_HOST_BUSY = 0 ∧ (x.physInfo (s.phys l)).state = .failed)) ∧
    (s.vErased x0 bs.length = false → ∀ v,
      ∃ x, exec (.vaultProgramOpDone pulses v) s = .next (s.finish x) ∧ x.vault.mem = s.vault.mem ∧ x.vault.ops = [] ∧
        x.get F.VLT_RESULT = (if o.purpose = .aborting then 5 else 1) ∧ x.get F.VLT_STAT_HOST_BUSY = 0)) ∧
  (∀ (tj : Int) (s : State) (o : VOp), s.answers 31 6 = true → s.vault.ops = [o] → o.purpose = .hostErase → o.erase = true →
    (s.physInfo (s.phys o.sector)).state ≠ .failed →
    let p := s.phys o.sector
    (∃ x, exec (.vaultErasePulseDone tj true) s = .next (s.finish x) ∧ x.vault.ops = [] ∧ x.get F.VLT_RESULT = (if o.retired then 2 else 0) ∧
      (∀ k, k / 4096 = p → memGet 0xFF k x.vault.mem = 0xFF) ∧
      (∀ k, k / 4096 ≠ p → memGet 0xFF k x.vault.mem = memGet 0xFF k s.vault.mem) ∧
      (o.pulses = 0 → (x.physInfo p).count = min ((s.physInfo p).count + (if tj ≤ 1250 then 1 else 5)) 0xFFFFFF)) ∧
    (o.pulses < 9 →
      ∃ x, exec (.vaultErasePulseDone tj false) s = .next (s.finish x) ∧ x.vault.ops = [{ o with pulses := o.pulses + 1 }] ∧
        (∀ k, k / 4096 ≠ p → memGet 0xFF k x.vault.mem = memGet 0xFF k s.vault.mem)) ∧
    (9 ≤ o.pulses → s.spares ≠ 0 → s.vaultRo = false →
      ∃ x, exec (.vaultErasePulseDone tj false) s = .next (s.finish x) ∧
        x.vault.ops = [{ o with pulses := 0, retired := true }, ⟨.retire o.sector 2, [], o.sector, false, 0, false⟩]) ∧
    (9 ≤ o.pulses → (s.spares = 0 ∨ s.vaultRo = true) →
      ∃ x, exec (.vaultErasePulseDone tj false) s = .next (s.finish x) ∧ x.vault.ops = [] ∧ x.get F.VLT_RESULT = 6 ∧
        (x.physInfo p).state = .failed)) ∧
  (∀ (s : State) (l cause ue : Nat) (hs : List VOp), s.answers 31 6 = true →
    s.vault.ops = hs ++ [⟨.retire l cause, [], l, false, 0, false⟩] →
    (hs = [] ∨ ∃ x0 p, hs = [⟨.host, [], x0, false, p, true⟩]) →
    (∀ q, s.pickSpare = some q → s.phys l ≠ q →
      ∃ x, exec (.vaultRetirementDone 0 ue) s = .next (s.finish x) ∧ x.phys l = q ∧ (x.physInfo q).state = .inUse ∧
        (x.physInfo (s.phys l)).state = .retired ∧ x.vBytes (l * 4096) 4096 = s.vBytes (l * 4096) 4096 ∧
        x.spares = s.spares - 1 ∧ bit (x.get F.PG_IRQ_RAW 0x35) 9 = true ∧ x.vault.ops = [] ∧
        (hs ≠ [] → x.get F.VLT_RESULT = 2 ∧ x.get F.VLT_STAT_HOST_BUSY = 0)) ∧
    (s.pickSpare = none →
      ∃ x, exec (.vaultRetirementDone 0 ue) s = .next (s.finish x) ∧ (x.physInfo (s.phys l)).state = .failed ∧ x.vault.ops = [] ∧
        x.vault.mem = s.vault.mem ∧ (hs ≠ [] → x.get F.VLT_STAT_HOST_BUSY = 0)))

/-! ### The power ladder and network sleep (chapter 17) -/

/-- R427, R432: PWR_CMD with a target below RUN, on a node that is ALONE and in RUN, begins the entry with step 1, in which the Lintels of
the ports that run the composition go to sleep, and leaves STATE in
RUN; a target above VIGIL is taken to it and reported; refused on a node that is not ALONE; in a state below RUN, during an entry and during an exit it starts nothing. The entry's end puts the target in force, counted. -/
def Obligations.PowerEntry : Prop :=
  (∀ (ifc : Ifc) (target : BitVec 3) (facts : WFacts) (s : State), s.takes ifc 0x3100 = true → 1 ≤ target.toNat →
    (s.soState = 0 → s.power = 0 → s.on F.PWR_STAT_ENTERING = false → s.pwr.exiting = false →
      ∃ x, exec (.powerStateEnter ifc target facts) s = .next (s.finish x) ∧ x.get F.PWR_STAT_ENTERING = 1 ∧ x.power = 0 ∧
        x.get F.PWR_STAT_ORIGIN = 0 ∧ x.pwr.target = min target.toNat 4 ∧ x.pwr.entryAt = s.clk.now ∧ x.pwr.step = 1 ∧
        (4 < target.toNat → x.get F.PG_CLAMP_CAUSE 3 = 0) ∧
        ∀ n < 8, x.lintel n = if s.killed then 4 else if s.runsOn n then 5 else 0) ∧
    (s.soState = 0 → (s.power ≠ 0 ∨ s.on F.PWR_STAT_ENTERING = true ∨ s.pwr.exiting = true) →
      ∃ x, exec (.powerStateEnter ifc target facts) s = .next (s.finish x) ∧ x.pwr = s.pwr ∧ x.power = s.power ∧
        x.get F.PWR_STAT_ENTERING = s.get F.PWR_STAT_ENTERING) ∧
    (s.soState ≠ 0 →
      ∃ x, exec (.powerStateEnter ifc target facts) s = .next (s.finish x) ∧ x.pwr = s.pwr ∧ x.power = s.power ∧
        x.get F.PWR_STAT_ENTERING = s.get F.PWR_STAT_ENTERING ∧ x.get F.PG_CLAMP_CAUSE 3 = 8)) ∧
  (∀ (ifc : Ifc) (facts : WFacts) (s : State),
    exec (.powerStateEnter ifc 0 facts) s = exec (.hostWake ifc facts) s) ∧
  (∀ (took : Nat) (s : State),
    (s.on F.PWR_STAT_ENTERING = true → 1 ≤ s.pwr.target → s.pwr.target ≤ 4 → (s.pwr.target = 1 ∨ s.pwr.step < 8) →
      ∃ x, exec (.entryComplete took) s = .next (s.finish x) ∧ x.power = s.pwr.target ∧ x.get F.PWR_STAT_ENTERING = 0 ∧
        x.get F.PWR_ENTRIES = min (s.get F.PWR_ENTRIES + 1) (2 ^ F.PWR_ENTRIES.width - 1)) ∧
    (s.on F.PWR_STAT_ENTERING = false ∨ s.pwr.target = 5 → exec (.entryComplete took) s = .next (s.finish s)))

/-- R433, R440, R441: a wake of the host, by register or pin, of a wake switch at the level its mode names, or of a line with its watcher
enabled starts the exit and records its cause and detail; a switch at another level, and a watcher that is not enabled, do not, and during back-off a line wake is only counted. During an entry a wake turns the
entry back, which is counted. In RUN there is nothing to wake from, and a node in KEEP, without main, in a main-failure save or frozen by a dump is not woken by its host. -/
def Obligations.WakesThatStartTheExit : Prop :=
  (∀ s : State, s.power ≠ 0 → s.power ≠ 5 → s.pins.main = true → s.on F.TALY_STAT_SAVING = false → s.isl.frozen.contains 29 = false →
    s.on F.PWR_STAT_ENTERING = false → s.pwr.exiting = false → 8 ≤ s.isl.started →
    (∀ (ifc : Ifc) (facts : WFacts), s.takes ifc 0x3100 = true → s.power ≤ 2 →
      ∃ x, exec (.hostWake ifc facts) s = .next (s.finish x) ∧ x.pwr.exiting = true ∧ x.pwr.wakeAt = s.clk.now ∧
        x.get F.PWR_STAT_CAUSE = 3 ∧ x.power = s.power) ∧
    (∃ x, exec .hostWakePin s = .next (s.finish x) ∧ x.pwr.exiting = true ∧ x.pwr.wakeAt = s.clk.now + 1000 ∧
      x.get F.PWR_STAT_CAUSE = 3) ∧
    (∀ (switch : Fin 4) (level : Bool),
      (s.get (F.WAKE_SW_CFG_MODE switch.val) = (if level then 2 else 1) →
        ∃ x, exec (.wakeSwitch switch level) s = .next (s.finish x) ∧ x.pwr.exiting = true ∧ x.get F.PWR_STAT_CAUSE = 1 ∧
          x.get F.PWR_STAT_DETAIL = switch.val ∧ bit x.pwr.swLevel switch.val = level) ∧
      (s.get (F.WAKE_SW_CFG_MODE switch.val) ≠ (if level then 2 else 1) →
        ∃ x, exec (.wakeSwitch switch level) s = .next (s.finish x) ∧ x.pwr.exiting = false ∧ x.regs = s.regs ∧
          bit x.pwr.swLevel switch.val = level)) ∧
    (∀ port : Port, s.islandAsleep 29 = false → s.imageGet F.SPK_CFG_GEN port.val ≠ 0 →
      (bit (s.get F.WAKE_LINE_EN) port.val = true → s.pwr.backoff = none →
        ∃ x, exec (.lineWake port) s = .next (s.finish x) ∧ x.pwr.exiting = true ∧ x.get F.PWR_STAT_CAUSE = 2 ∧
          x.get F.PWR_STAT_DETAIL = port.val ∧ x.pwr.wokeBy = some port.val ∧
          x.pwr.confirm = some (s.clk.now + s.get F.WAKE_CFG_WAKE_CONFIRM * 1000000) ∧
          x.get F.WAKE_P_DETECT port.val = min (s.get F.WAKE_P_DETECT port.val + 1) (2 ^ F.WAKE_P_DETECT.width - 1)) ∧
      (bit (s.get F.WAKE_LINE_EN) port.val = true → s.pwr.backoff ≠ none →
        exec (.lineWake port) s = .next (s.finish ((s.inc F.WAKE_P_DETECT port.val).inc F.WAKE_IGNORED))))) ∧
  (∀ (port : Port) (s : State), (s.isl.started < 8 ∨ s.islandAsleep 29 = true ∨ (s.power = 0 ∧ s.on F.PWR_STAT_ENTERING = false) ∨
      s.imageGet F.SPK_CFG_GEN port.val = 0 ∨ bit (s.get F.WAKE_LINE_EN) port.val = false) →
    exec (.lineWake port) s = .next (s.finish s)) ∧
  (∀ (ifc : Ifc) (facts : WFacts) (s : State), s.on F.PWR_STAT_ENTERING = true → s.power = 0 → s.pins.main = true →
    s.on F.TALY_STAT_SAVING = false → s.isl.frozen.contains 29 = false →
    (s.takes ifc 0x3100 = true →
      ∃ x, exec (.hostWake ifc facts) s = .next (s.finish x) ∧ x.get F.PWR_STAT_ENTERING = 0 ∧ x.pwr.exiting = true ∧
        x.pwr.wakeAt = s.clk.now ∧ x.get F.PWR_STAT_CAUSE = 3 ∧
        x.get F.PWR_ABORTS = min (s.get F.PWR_ABORTS + 1) (2 ^ F.PWR_ABORTS.width - 1)) ∧
    (8 ≤ s.isl.started →
      ∃ x, exec .hostWakePin s = .next (s.finish x) ∧ x.get F.PWR_STAT_ENTERING = 0 ∧ x.pwr.exiting = true ∧
        x.pwr.wakeAt = s.clk.now + 1000 ∧ x.get F.PWR_STAT_CAUSE = 3 ∧
        x.get F.PWR_ABORTS = min (s.get F.PWR_ABORTS + 1) (2 ^ F.PWR_ABORTS.width - 1))) ∧
  (∀ s : State,
    (s.isl.started < 8 → exec .hostWakePin s = .next (s.finish s) ∧
      ∀ (switch : Fin 4) (level : Bool), exec (.wakeSwitch switch level) s = .next (s.finish s)) ∧
    (8 ≤ s.isl.started → ((s.power = 0 ∧ s.on F.PWR_STAT_ENTERING = false) ∨ s.power = 5 ∨ s.pins.main = false ∨
        s.on F.TALY_STAT_SAVING = true ∨ s.isl.frozen.contains 29 = true) →
      exec .hostWakePin s = .next (s.finish (s.elapse 1000))) ∧
    (∀ (ifc : Ifc) (facts : WFacts), s.takes ifc 0x3100 = true → s.power = 0 → s.on F.PWR_STAT_ENTERING = false →
      ∃ x, exec (.hostWake ifc facts) s = .next (s.finish x) ∧ x.pwr = s.pwr ∧ x.power = 0))

/-- R429, R434, R442, R443, R444: the exit's end is RUN again, with its event; the Lintels of the ports that run the composition re-arm, or, after network sleep, sleep through the WAKING phase;
after SLUMBER and VIGIL the register image has been restored. WAKING_MS later the node is alone at position 1 of 1; a wake that no frame confirms is counted as false and the node goes back, and as many false wakes
as FALSE_MAX begin back-off; a frame still coming in holds that decision back. Back-off and
the false-wake window end at their times. Where none of these is in progress nothing happens. -/
def Obligations.PowerExit : Prop :=
  (∀ (took : Nat) (s : State),
    (s.pwr.exiting = false → exec (.exitComplete took) s = .next (s.finish s)) ∧
    (s.pwr.exiting = true →
      ∃ x, exec (.exitComplete took) s = .next (s.finish x) ∧ x.power = 0 ∧ x.pwr.exiting = false ∧ x.pwr.step = 0 ∧
        bit (x.get F.PG_IRQ_RAW 3) 8 = true ∧
        (3 ≤ s.power → x.get F.PWR_IMAGE_RESTORED = 1 ∧ x.pwr.image = []) ∧
        (s.power ≤ 2 → x.get F.PWR_IMAGE_RESTORED = 0) ∧
        (s.pwr.network = true → x.get F.PWR_STAT_WAKING = 1 ∧ (∃ t, x.pwr.wakingEnd = some t ∧ x.clk.now ≤ t) ∧
          ∀ n < 8, x.lintel n = if x.killed then 4 else if x.runsOn n then 5 else 0) ∧
        (s.pwr.network = false → ∀ n < 8, x.lintel n = if x.killed then 4 else if x.runsOn n then 3 else 0))) ∧
  (∀ s : State,
    (s.islandAsleep 29 = true ∨ s.pwr.wakingEnd = none → exec .wakingEnd s = .next (s.finish s)) ∧
    (∀ t, s.islandAsleep 29 = false → s.pwr.wakingEnd = some t →
      ∃ x, exec .wakingEnd s = .next (s.finish x) ∧ x.get F.PWR_STAT_WAKING = 0 ∧ x.pwr.wakingEnd = none ∧ x.pos = 1 ∧ x.count = 1)) ∧
  (∀ s : State,
    (s.islandAsleep 29 = true ∨ s.pwr.confirm = none ∨ s.power ≠ 0 ∨ s.on F.PWR_STAT_ENTERING = true ∨ s.pwr.exiting = true ∨
        (∃ t, s.pwr.confirm = some t ∧ s.inFlight (s.asLine t) = true) →
      exec .wakeConfirmExpiry s = .next (s.finish s)) ∧
    (∀ t, s.islandAsleep 29 = false → s.pwr.confirm = some t → s.power = 0 → s.on F.PWR_STAT_ENTERING = false →
      s.pwr.exiting = false → s.inFlight (s.asLine t) = false →
      let n := min (s.get F.WAKE_FALSE_IN_WINDOW + 1) (2 ^ F.WAKE_FALSE_IN_WINDOW.width - 1)
      let full := decide (s.get F.WAKE_BACKOFF_FALSE_MAX ≤ n)
      ∃ x, exec .wakeConfirmExpiry s = .next (s.finish x) ∧ x.pwr.confirm = none ∧ x.get F.PWR_STAT_ENTERING = 1 ∧
        x.pwr.target = s.pwr.target ∧ bit (x.get F.PG_IRQ_RAW 4) 10 = true ∧
        x.get F.WAKE_FALSE_COUNT = min (s.get F.WAKE_FALSE_COUNT + 1) (2 ^ F.WAKE_FALSE_COUNT.width - 1) ∧
        x.get F.WAKE_FALSE_IN_WINDOW = (if full then 0 else n) ∧
        x.pwr.backoff = (if full then some ((s.elapseTo (t + horizonNs)).clk.sec + s.get F.WAKE_BACKOFF_BACKOFF_S) else s.pwr.backoff) ∧
        (full = true → bit (x.get F.PG_IRQ_RAW 4) 11 = true))) ∧
  (∀ s : State,
    (s.islandAsleep 29 = true ∨ s.pwr.backoff = none → exec .backoffEnd s = .next (s.finish s)) ∧
    (∀ sec, s.islandAsleep 29 = false → s.pwr.backoff = some sec →
      exec .backoffEnd s = .next (s.finish
        (let a := s.elapse (s.untilRtc sec)
         { a with pwr := { a.pwr with backoff := none } }))) ∧
    (s.islandAsleep 29 = true ∨ s.pwr.window = none → exec .falseWakeWindowClose s = .next (s.finish s)) ∧
    (∀ t, s.islandAsleep 29 = false → s.pwr.window = some t →
      exec .falseWakeWindowClose s = .next (s.finish
        (let a := (s.elapseTo (t + 3600000000000)).set F.WAKE_FALSE_IN_WINDOW 0
         { a with pwr := { a.pwr with window := none } }))))

/-- R437, R439, R442, R445: with 8 unanimous courses the datum announces; at the stop course a node that votes for sleep begins the
network's entry, and one that does not enters it and wakes at once; before the stop course, and in a state below RUN, an entry or WAKING, nothing begins. In WAKING a WAKE frame with the cause, its detail and the control sequence goes out on a serving port, and in no other phase, from no other port and from no twin that does not drive; a PHY's
watchdog takes its link down and is counted, where the Trowel has not acknowledged the wake its watcher began, or 2 s after the last frame passed. -/
def Obligations.NetworkSleep : Prop :=
  (∀ s : State,
    (s.running = true → s.actsDatum = true → s.get F.WAKE_STAT_UNANIMOUS = 8 → s.pwr.announce = none →
      exec .sleepUnanimityReached s = .next (s.finish
        { s with pwr := { s.pwr with announce := some (s.course - 1), withdrawn := false } })) ∧
    (s.running = false ∨ s.actsDatum = false ∨ s.get F.WAKE_STAT_UNANIMOUS ≠ 8 ∨ s.pwr.announce ≠ none →
      exec .sleepUnanimityReached s = .next (s.finish s))) ∧
  (∀ s : State,
    (s.awake 8 = false ∨ s.get F.WAKE_STOP = 0 ∨ s.power ≠ 0 ∨ s.on F.PWR_STAT_ENTERING = true ∨ s.on F.PWR_STAT_WAKING = true ∨
        (s.get F.WAKE_STOP ≠ s.course ∧ s.get F.WAKE_STOP ≠ s.course + 1) →
      exec .networkSleepStop s = .next (s.finish s)) ∧
    (s.awake 8 = true → s.get F.WAKE_STOP ≠ 0 → s.get F.WAKE_STOP = s.course → s.power = 0 → s.on F.PWR_STAT_ENTERING = false →
      s.on F.PWR_STAT_WAKING = false → s.pwr.exiting = false →
      (s.votesSleep = true →
        ∃ x, exec .networkSleepStop s = .next (s.finish x) ∧ x.get F.PWR_STAT_ENTERING = 1 ∧ x.get F.PWR_STAT_ORIGIN = 1 ∧
          x.pwr.target = s.pwr.stopState ∧ x.pwr.network = true ∧ x.get F.WAKE_STOP = 0 ∧ x.so.plan = none) ∧
      (s.votesSleep = false → s.pins.main = true → s.on F.TALY_STAT_SAVING = false → s.isl.frozen.contains 29 = false →
        ∃ x, exec .networkSleepStop s = .next (s.finish x) ∧ x.get F.PWR_STAT_ENTERING = 0 ∧ x.get F.PWR_STAT_ORIGIN = 1 ∧
          x.pwr.target = s.pwr.stopState ∧ x.pwr.network = true ∧ x.pwr.exiting = true ∧ x.get F.PWR_STAT_CAUSE = 3))) ∧
  (∀ (port : Port) (s : State),
    let serving := s.serving.contains port.val && (s.up port.val || s.get F.SPK_CFG_GEN port.val == 1)
    (s.awake port.val = false ∨ s.awake 8 = false ∨ s.on F.PWR_STAT_WAKING = false ∨ serving = false ∨
        (s.boot.twin = true ∧ s.twin.roleLevel ≠ 1) →
      exec (.wakeFrameTx port) s = .next (s.finish s)) ∧
    (s.awake port.val = true → s.awake 8 = true → s.on F.PWR_STAT_WAKING = true → serving = true →
      (s.boot.twin = false ∨ s.twin.roleLevel = 1) →
      let a := if (s.line port.val).wakeAt = 0 then s else s.elapseTo ((s.line port.val).wakeAt + 1000000)
      let c : State := { a with trw := { a.trw with ctl := (a.trw.ctl + 1) % 65536 } }
      exec (.wakeFrameTx port) s = .next (s.finish (c.originate port.val a.clk.lt
        (c.frame 7 0 0 0 s.pos 63 s.gen s.trw.ctl [s.get F.PWR_STAT_CAUSE + 16 * s.get F.PWR_STAT_DETAIL, 0]))))) ∧
  (∀ (port : Port) (s : State),
    (s.isl.started < 8 ∨ s.islandAsleep 29 = true → ∀ ack, exec (.phyFailsafe port ack) s = .next (s.finish s)) ∧
    (8 ≤ s.isl.started → s.islandAsleep 29 = false →
      (s.pwr.wokeBy = some port.val → (s.power = 0 ∨ s.pwr.exiting = true) →
        let a := s.elapseTo (s.pwr.wakeAt + 500000000)
        exec (.phyFailsafe port true) s = .next (s.finish
          (((({ a with pwr := { a.pwr with wokeBy := none } } : State).inc F.WAKE_P_FAILSAFE_ACK_TO port.val).irq 4 12).linkDown port.val))) ∧
      (s.pwr.wokeBy ≠ some port.val ∨ (s.power ≠ 0 ∧ s.pwr.exiting = false) →
        exec (.phyFailsafe port true) s = .next (s.finish s)) ∧
      (s.up port.val = true → s.islandAsleep port.val = false → s.power ≤ 1 →
        exec (.phyFailsafe port false) s = .next (s.finish
          ((((s.elapseTo ((s.line port.val).passedAt + 2000000000)).inc F.WAKE_P_FAILSAFE_TX_TO port.val).irq 4 12).linkDown port.val))) ∧
      (s.up port.val = false ∨ s.islandAsleep port.val = true ∨ 1 < s.power →
        exec (.phyFailsafe port false) s = .next (s.finish s))))

/-! ### The host attachment (chapter 18) -/

/-- R447 to R450: PERST_N released and trained, the endpoint's link is up with its speed and width; it is not trained while the host is off, in reset, without the strap, without PLL_HST or already up. A configuration write sets the
function's bits, over an endpoint whose link is up; a reset of the endpoint clears them, is shown and raised, and but for a function-level reset takes the link
down. A write to the BAR4 window is discarded and counted, and a read answers the four bytes stored: zeros for the spare sectors and while the Vault is off, with an uncorrectable word marked and
a corrected one counted. A read that gets no completion ends a channel's copy with the PCIe code, and a descriptor's fetch as a fetch without an answer does. -/
def Obligations.EndpointLinksAndResets : Prop :=
  (∀ s : State, exec .perstNRelease s = .next (s.finish { s with host := { s.host with perst := true } })) ∧
  (∀ (speed width : BitVec 2) (s : State),
    (s.hostUp = true → s.host.perst = true → s.on F.HOST_IF_PCIE = true →
      s.isl.pllLost.contains 11 = false → s.on F.HOST_STAT_LINK_UP = false →
      exec (.pcieLinkUp speed width) s = .next (s.finish
        ((((s.set F.HOST_STAT_LINK_UP 1).set F.HOST_STAT_SPEED (max 1 speed.toNat)).set F.HOST_STAT_WIDTH (min 2 (max 1 width.toNat))).irq 0x05 11))) ∧
    (s.hostUp = false ∨ s.host.perst = false ∨ s.on F.HOST_IF_PCIE = false ∨ s.isl.pllLost.contains 11 = true ∨
        s.on F.HOST_STAT_LINK_UP = true →
      exec (.pcieLinkUp speed width) s = .next (s.finish s))) ∧
  (∀ (bme msix fmask d3hot : Bool) (s : State),
    (s.hostUp = true → s.on F.HOST_STAT_LINK_UP = true →
      exec (.pcieConfigWrite bme msix fmask d3hot) s = .next (s.finish
        { s.setB F.HOST_STAT_D3HOT d3hot with host := { s.host with bme := bme, msix := msix, fmask := fmask } })) ∧
    (s.hostUp = false ∨ s.on F.HOST_STAT_LINK_UP = false →
      exec (.pcieConfigWrite bme msix fmask d3hot) s = .next (s.finish s))) ∧
  (∀ (kind : BitVec 2) (s : State),
    ∃ x, exec (.pcieReset kind) s = .next (s.finish x) ∧ x.host.bme = false ∧ x.host.msix = false ∧ x.host.fmask = false ∧
      x.host.perst = (s.host.perst && decide (kind ≠ 0)) ∧
      (s.hostUp = true → x.get F.HOST_STAT_PCIE_RESET = 1 ∧ x.get F.HOST_STAT_D3HOT = 0 ∧ bit (x.get F.PG_IRQ_RAW 5) 10 = true ∧
        (kind ≠ 3 → x.on F.HOST_STAT_LINK_UP = false) ∧ (kind = 3 → x.on F.HOST_STAT_LINK_UP = s.on F.HOST_STAT_LINK_UP)) ∧
      (s.hostUp = false → x.regs = s.regs)) ∧
  (∀ (addr : BitVec 23) (found : Upset) (s : State),
    let a := addr.toNat / 4 * 4
    let w := s.vKey (a / 8 * 8) / 8
    let ans (status v : Nat) : Emit := .quarry 0 (a + 0x04000000) status v
    (s.ifcOn .pcie = false → ∀ write, exec (.bar4WindowAccess write addr found) s = .next (s.finish s)) ∧
    (s.ifcOn .pcie = true → exec (.bar4WindowAccess true addr found) s = .next (s.finish (s.inc F.HOST_WIN_WR))) ∧
    (s.ifcOn .pcie = true → (s.vaultAsleep = true ∨ 0x700000 ≤ a) →
      exec (.bar4WindowAccess false addr found) s = .next (s.finish (s.emit (ans 0 0)))) ∧
    (s.ifcOn .pcie = true → s.vaultAsleep = false → a < 0x700000 →
      (s.vault.ue.contains w = false → found = .none →
        exec (.bar4WindowAccess false addr found) s = .next (s.finish (s.emit (ans 0 (leVal (s.vBytes a 4)))))) ∧
      (∀ b, s.vault.ue.contains w = false → found = .single b →
        exec (.bar4WindowAccess false addr found) s = .next (s.finish
          (((s.inc F.VLT_RD_CE).set F.VLT_ERR_ADDR (a / 8)).emit (ans 0 (leVal (s.vBytes a 4)))))) ∧
      ((s.vault.ue.contains w = true ∨ ∃ b, found = .multi b) →
        ∃ x, exec (.bar4WindowAccess false addr found) s = .next (s.finish x) ∧ x.out = ans 1 (leVal (s.vBytes a 4)) :: s.out ∧
          x.get F.VLT_RD_UE = min (s.get F.VLT_RD_UE + 1) (2 ^ F.VLT_RD_UE.width - 1) ∧ x.get F.VLT_ERR_ADDR = a / 8 ∧
          x.vault.ue.contains w = true ∧ x.vault.mem = s.vault.mem))) ∧
  (∀ (index : Fin 64) (s : State), let a := s.elapse (s.get F.HOST_CPL_TO * 1000000)
    let d := index.val % 4
    (s.hostLive = false → ∀ dma, exec (.pcieCompletionTimeout dma index) s = .next (s.finish s)) ∧
    (s.hostLive = true →
      (s.on F.DMA_STAT_BUSY d = false ∨ (s.dmaAddr d false).1 = false →
        exec (.pcieCompletionTimeout true index) s = .next (s.finish a)) ∧
      (s.on F.DMA_STAT_BUSY d = true → (s.dmaAddr d false).1 = true →
        s.bmOk ((s.dmaAddr d false).2 + look 0 d s.host.dmaDone) 8 = true →
        look 0 d s.host.dmaDone / 8 < s.get F.DMA_LEN d →
        ∃ x, exec (.pcieCompletionTimeout true index) s = .next (s.finish x) ∧ x.on F.DMA_STAT_BUSY d = false ∧
          x.get F.DMA_STAT_CODE d = 2 ∧
          x.get F.HOST_PCIE_ERR = min (s.get F.HOST_PCIE_ERR + 1) (2 ^ F.HOST_PCIE_ERR.width - 1)) ∧
      (s.on F.Q_BASE_HI_LOC index.val = false ∨ s.islandAsleep 8 = true →
        exec (.pcieCompletionTimeout false index) s = .next (s.finish a)) ∧
      (s.on F.Q_BASE_HI_LOC index.val = true → s.islandAsleep 8 = false →
        exec (.pcieCompletionTimeout false index) s = .next (s.finish (a.fetchDesc index.val [])))))

/-- R451: START makes an idle channel busy and is refused on a busy one; a copy of one unit stores the source's eight bytes
at the destination and ends OK with DONE_LEN 8, within the Quarry, from host memory and to it; a copy whose source or destination is denied ends REGION with nothing stored, and one whose source is uncorrectable ends UE; ABORT ends a busy
channel with ABORTED and what it had written, or with the code its last units stopped with, and is refused on an idle one. The end of a channel that is not busy, or that a dump has stopped, does nothing. -/
def Obligations.DmaCopiesAndEnds : Prop :=
  (∀ (ifc : Ifc) (channel : Fin 4) (facts : WFacts) (s : State), let d := channel.val
    s.takes ifc (0x5214 + 0x20 * d) = true →
    (s.on F.DMA_STAT_BUSY d = false →
      (∃ x, exec (.dmaStart ifc channel facts) s = .next (s.finish x) ∧ x.get F.DMA_STAT_BUSY d = 1 ∧ x.get F.DMA_STAT_CODE d = 0 ∧
        x.get F.DMA_DONE_LEN d = 0 ∧ look 1 d x.host.dmaDone = 0 ∧ x.qry = s.qry) ∧
      (∃ x, exec (.dmaAbort ifc channel facts) s = .next (s.finish x) ∧ x.get F.DMA_STAT_BUSY d = 0 ∧ x.host.dmaDone = s.host.dmaDone ∧
        x.get F.PG_CLAMP_CAUSE 5 = 8 ∧ x.qry = s.qry)) ∧
    (s.on F.DMA_STAT_BUSY d = true →
      (∃ x, exec (.dmaStart ifc channel facts) s = .next (s.finish x) ∧ x.get F.DMA_STAT_BUSY d = 1 ∧ x.host.dmaDone = s.host.dmaDone ∧
        x.get F.PG_CLAMP_CAUSE 5 = 8 ∧ x.qry = s.qry) ∧
      (∃ x, exec (.dmaAbort ifc channel facts) s = .next (s.finish x) ∧ x.get F.DMA_STAT_BUSY d = 0 ∧ x.get F.DMA_STAT_CODE d ≠ 0 ∧
        bit (x.get F.PG_IRQ_RAW 5) 9 = true ∧
        (facts.units = 0 → x.get F.DMA_STAT_CODE d = 4 ∧
          x.get F.DMA_DONE_LEN d = look 0 d s.host.dmaDone % 2 ^ F.DMA_DONE_LEN.width ∧ x.qry = s.qry)))) ∧
  (∀ (channel : Fin 4) (host : List Byte) (s : State), let d := channel.val
    let src := (s.dmaAddr d false).2
    let dst := (s.dmaAddr d true).2
    let fromHost := (s.dmaAddr d false).1
    let toHost := (s.dmaAddr d true).1
    let readable := if fromHost then s.bmOk src 8 = true ∧ 8 ≤ host.length else s.qRefuse (4 + d) src 8 false = none ∧ s.ueIn src 8 = none
    let bytes := if fromHost then (host.take 8).map BitVec.toNat else s.qBytes src 8
    (s.on F.DMA_STAT_BUSY d = false ∨ s.dumping = true ∨ s.islandAsleep 26 = true → exec (.dmaDone channel host) s = .next (s.finish s)) ∧
    (s.on F.DMA_STAT_BUSY d = true → s.dumping = false → s.islandAsleep 26 = false → s.get F.DMA_LEN d = 1 →
      look 0 d s.host.dmaDone = 0 →
      (readable → toHost = false → s.qRefuse (4 + d) dst 8 true = none →
        ∃ x, exec (.dmaDone channel host) s = .next (s.finish x) ∧ x.get F.DMA_STAT_BUSY d = 0 ∧ x.get F.DMA_STAT_CODE d = 0 ∧
          x.get F.DMA_DONE_LEN d = 8 ∧ x.qBytes dst 8 = bytes ∧
          (∀ k, (∀ i < 8, k ≠ s.qKey (dst + i)) → memGet 0 k x.qry.mem = memGet 0 k s.qry.mem)) ∧
      (readable → toHost = true → s.bmOk dst 8 = true →
        ∃ x, exec (.dmaDone channel host) s = .next (s.finish x) ∧ x.get F.DMA_STAT_BUSY d = 0 ∧ x.get F.DMA_STAT_CODE d = 0 ∧
          x.get F.DMA_DONE_LEN d = 8 ∧ x.out = .hostMem dst bytes :: s.out ∧ x.qry = s.qry) ∧
      (∀ deny, fromHost = false → s.qRefuse (4 + d) src 8 false = some deny →
        ∃ x, exec (.dmaDone channel host) s = .next (s.finish x) ∧ x.get F.DMA_STAT_BUSY d = 0 ∧ x.get F.DMA_STAT_CODE d = 1 ∧
          x.get F.DMA_DONE_LEN d = 0 ∧ x.qry.mem = s.qry.mem ∧ bit (x.get F.PG_IRQ_RAW 5) 9 = true) ∧
      (fromHost = false → s.qRefuse (4 + d) src 8 false = none → s.ueIn src 8 ≠ none →
        ∃ x, exec (.dmaDone channel host) s = .next (s.finish x) ∧ x.get F.DMA_STAT_BUSY d = 0 ∧ x.get F.DMA_STAT_CODE d = 3 ∧
          x.get F.DMA_DONE_LEN d = 0 ∧ x.qry.mem = s.qry.mem) ∧
      (∀ deny, readable → toHost = false → s.qRefuse (4 + d) dst 8 true = some deny →
        ∃ x, exec (.dmaDone channel host) s = .next (s.finish x) ∧ x.get F.DMA_STAT_BUSY d = 0 ∧ x.get F.DMA_STAT_CODE d = 1 ∧
          x.get F.DMA_DONE_LEN d = 0 ∧ x.qry.mem = s.qry.mem) ∧
      ((fromHost = true ∧ s.bmOk src 8 = false) ∨ (readable ∧ toHost = true ∧ s.bmOk dst 8 = false) →
        ∃ x, exec (.dmaDone channel host) s = .next (s.finish x) ∧ x.get F.DMA_STAT_BUSY d = 0 ∧ x.get F.DMA_STAT_CODE d = 2 ∧
          x.get F.DMA_DONE_LEN d = 0 ∧ x.qry.mem = s.qry.mem ∧
          x.get F.HOST_BM_DENY = min (s.get F.HOST_BM_DENY + 1) (2 ^ F.HOST_BM_DENY.width - 1))))

/-- R453: on the local bus a read of a register's low half answers it and latches the high half, which the next read of that half returns; a
write of the low half is held, and one of the high half of the same register applies both as one write, while any other access first applies the held half alone. The windows answer the Quarry's and the Vault's halfword at the place
the window registers name, a write to the Quarry's window is an access of master 1, and a write anywhere else is
discarded and counted; elsewhere a read gives 0.
R455, R456: an SPI READ gives out 0x5A and the four bytes of each unit from the aligned address on; STATUS gives the signature with READY,
both interrupt pins and the discard bit, which it clears; a frame cut before its address, or of an unknown command, is discarded and
counted; a WRITE of bytes in one unit is one access: a write of the register page, an access of master 2 to the Quarry, and anywhere else counted as an error. An interface that does not answer does nothing. -/
def Obligations.LocalBusAndSpi : Prop :=
  (∀ (addr : BitVec 21) (found : Upset) (facts : WFacts) (s : State),
    (s.ifcOn .lb = false → exec (.localBusRead addr found facts) s = .next (s.finish s)) ∧
    (s.ifcOn .lb = true →
      let b := s.lbFlush facts
      let x := addr.toNat / 2 * 2
      let r := addr.toNat / 4 * 4
      (x < 0x40000 →
        (x % 4 = 0 → ∀ v t, b.hostRead 1 r = (v, t) →
          exec (.localBusRead addr found facts) s = .next (s.finish
            (({ t with host := { t.host with lbHigh := put r (v / 65536) t.host.lbHigh } } : State).emit (.hostRead 1 x (v % 65536))))) ∧
        (x % 4 = 2 → ∀ p, b.host.lbHigh.find? (fun p => p.1 == r) = some p →
          exec (.localBusRead addr found facts) s = .next (s.finish
            (({ b with host := { b.host with lbHigh := del r b.host.lbHigh } } : State).emit (.hostRead 1 x p.2)))) ∧
        (x % 4 = 2 → b.host.lbHigh.find? (fun p => p.1 == r) = none → ∀ v t, b.hostRead 1 r = (v, t) →
          exec (.localBusRead addr found facts) s = .next (s.finish (t.emit (.hostRead 1 x (v / 65536)))))) ∧
      (0x80000 ≤ x → x < 0x100000 →
        let q := b.get F.HOST_LB_QWIN * 0x80000 + (x - 0x80000)
        let t := b.winAccess 1 (q / 8 * 8) (3 * 2 ^ (q % 8)) none found
        (∀ d, t.lastAnswer 1 = some d →
          exec (.localBusRead addr found facts) s = .next (s.finish (t.emit (.hostRead 1 x (d / 2 ^ (8 * (q % 8)) % 65536))))) ∧
        (t.lastAnswer 1 = none → exec (.localBusRead addr found facts) s = .next (s.finish t))) ∧
      (0x100000 ≤ x → x < 0x180000 →
        let v := b.get F.HOST_LB_VWIN * 0x80000 + (x - 0x100000)
        let t := b.vaultRead (v / 4 * 4) found
        exec (.localBusRead addr found facts) s = .next (s.finish
          (t.2.2.emit (.hostRead 1 x (leVal t.2.1 / 2 ^ (8 * (v % 4)) % 65536))))) ∧
      ((0x40000 ≤ x ∧ x < 0x80000) ∨ 0x180000 ≤ x →
        exec (.localBusRead addr found facts) s = .next (s.finish (b.emit (.hostRead 1 x 0)))))) ∧
  (∀ (addr : BitVec 21) (data : Word) (be : BitVec 2) (found : Upset) (facts : WFacts) (s : State),
    (s.ifcOn .lb = false → exec (.localBusWrite addr data be found facts) s = .next (s.finish s)) ∧
    (s.ifcOn .lb = true →
      let b := s.lbFlush facts
      let x := addr.toNat / 2 * 2
      let r := addr.toNat / 4 * 4
      (x < 0x40000 → x % 4 = 0 →
        exec (.localBusWrite addr data be found facts) s = .next (s.finish
          { b with host := { b.host with lbLow := some (r, data.toNat, be.toNat) } })) ∧
      (x < 0x40000 → x % 4 = 2 →
        (∀ lo lbe : Nat, s.host.lbLow = some (r, lo, lbe) →
          exec (.localBusWrite addr data be found facts) s = .next (s.finish
            (({ s with host := { s.host with lbLow := none } } : State).hostWrite 1 r (lo + data.toNat * 65536)
              (lbe + be.toNat * 4) facts))) ∧
        ((∀ lo lbe : Nat, s.host.lbLow ≠ some (r, lo, lbe)) →
          exec (.localBusWrite addr data be found facts) s = .next (s.finish
            (b.hostWrite 1 r (data.toNat * 65536) (be.toNat * 4) facts)))) ∧
      (0x80000 ≤ x → x < 0x100000 →
        let q := b.get F.HOST_LB_QWIN * 0x80000 + (x - 0x80000)
        exec (.localBusWrite addr data be found facts) s = .next (s.finish
          (b.winAccess 1 (q / 8 * 8) (be.toNat * 2 ^ (q % 8)) (some (data.toNat * 2 ^ (8 * (q % 8)))) found))) ∧
      ((0x40000 ≤ x ∧ x < 0x80000) ∨ 0x100000 ≤ x →
        exec (.localBusWrite addr data be found facts) s = .next (s.finish (b.inc F.HOST_LB_ERR))))) ∧
  (∀ (command : Byte) (frame : List Byte) (us : List Upset) (found : Upset) (facts : WFacts) (s : State), s.ifcOn .spi = false →
    exec .spiStatus s = .next (s.finish s) ∧ exec (.spiRead frame us) s = .next (s.finish s) ∧
      exec (.spiWrite command frame found facts) s = .next (s.finish s)) ∧
  (∀ s : State, s.ifcOn .spi = true →
    let g : State := { s with host := { s.host with spiBad := false } }
    let bad : State := { s.inc F.HOST_SPI_ERR with host := { s.host with spiBad := true } }
    (exec .spiStatus s = .next (s.finish
      { s.emit (.spi [0x50 + s.get F.TOP_READY_READY + 2 * s.irqN0.toNat + 4 * s.irqN1.toNat + 8 * s.host.spiBad.toNat]) with
        host := { s.host with spiBad := false } })) ∧
    (∀ (frame : List Byte) (us : List Upset), frame.length < 4 → exec (.spiRead frame us) s = .next (s.finish bad)) ∧
    (∀ (command : Byte) (frame : List Byte) (found : Upset) (facts : WFacts), command ≠ 2 ∨ frame.length < 4 →
      exec (.spiWrite command frame found facts) s = .next (s.finish bad)) ∧
    (∀ b0 b1 b2 b3 : Byte,
      let a := ((b0.toNat * 256 + b1.toNat) * 256 + b2.toNat) * 256 + b3.toNat
      exec (.spiRead [b0, b1, b2, b3] []) s = .next (s.finish g) ∧
      (∀ (u : Upset) (us : List Upset) (v : Nat) (t : State), a < 0x40000 → s.reaches (a / 0x1000) = true → g.hostRead 2 (a / 4 * 4) = (v, t) →
        exec (.spiRead [b0, b1, b2, b3] (u :: us)) s =
          .next (s.finish (State.spiUnits (t.emit (.spi (0x5A :: le 4 v))) (a / 4 * 4 + 4) us))) ∧
      (∀ (u : Upset) (us : List Upset), 0x10000000 ≤ a → a < 0x14000000 →
        let q := a / 4 * 4 - 0x10000000
        let t := g.winAccess 2 (q / 8 * 8) (15 * 2 ^ (q % 8)) none u
        exec (.spiRead [b0, b1, b2, b3] (u :: us)) s = .next (s.finish
          (State.spiUnits (t.emit (.spi (0x5A :: le 4 ((t.lastAnswer 2).getD 0 / 2 ^ (8 * (q % 8)))))) (a / 4 * 4 + 4) us))) ∧
      (∀ (u : Upset) (us : List Upset), 0x20000000 ≤ a → a < 0x20800000 →
        let t := g.vaultRead (a / 4 * 4 - 0x20000000) u
        exec (.spiRead [b0, b1, b2, b3] (u :: us)) s =
          .next (s.finish (State.spiUnits (t.2.2.emit (.spi (0x5A :: t.2.1))) (a / 4 * 4 + 4) us))) ∧
      (∀ (u : Upset) (us : List Upset),
        ((a < 0x40000 ∧ s.reaches (a / 0x1000) = false) ∨ (0x40000 ≤ a ∧ a < 0x10000000) ∨ (0x14000000 ≤ a ∧ a < 0x20000000) ∨ 0x20800000 ≤ a) →
        exec (.spiRead [b0, b1, b2, b3] (u :: us)) s =
          .next (s.finish (State.spiUnits (g.emit (.spi [0x5A, 0, 0, 0, 0])) (a / 4 * 4 + 4) us))) ∧
      (∀ (ds : List Byte) (found : Upset) (facts : WFacts), 0 < ds.length → a % 4 + ds.length ≤ 4 →
        let v := leVal (ds.map BitVec.toNat) * 2 ^ (8 * (a % 4))
        let be := (2 ^ ds.length - 1) * 2 ^ (a % 4)
        let q := a / 4 * 4 - 0x10000000
        exec (.spiWrite 2 ([b0, b1, b2, b3] ++ ds) found facts) s = .next (s.finish
          (if a < 0x40000 then (if s.reaches (a / 0x1000) then g.hostWrite 2 (a / 4 * 4) v be facts else g)
           else if 0x10000000 ≤ a ∧ a < 0x14000000 then
             g.winAccess 2 (q / 8 * 8) (be * 2 ^ (q % 8)) (some (v * 2 ^ (8 * (q % 8)))) found
           else g.inc F.HOST_SPI_ERR)))))

/-- R457, R460: IRQ_EOI sends the message of each vector named that is pending and enabled again, or lets it wait in the PBA where it may not be sent, and of no other; a kick clears FIRST and
starts the time anew, but not during a dump; the first expiry sets FIRST and the urgent source, and a second one starts a dump with DUMP_AUTO, resets the node with RESET_EN while main is valid, and with neither only
counts. Disabled, asleep, before the end of a start and during a dump it does not expire. -/
def Obligations.InterruptsAndWatchdog : Prop :=
  (∀ (ifc : Ifc) (mask : Reg) (facts : WFacts) (s : State), s.takes ifc 0x6118 = true →
    let y := s.counted 6
    exec (.irqEoi ifc mask facts) s = .next (s.finish (y.irqEoi mask.toNat)) ∧
      (∀ v < 32, mask.toNat = 2 ^ v → bit s.vecLive v = true → s.host.msix = true →
        (s.msixOpen v = true → (y.irqEoi mask.toNat).out =
          .msix v (s.get F.MSIX_ADDR_LO v * 4 + s.get F.MSIX_ADDR_HI v * 2 ^ 32) (s.get F.MSIX_DATA v) :: s.out) ∧
        (s.msixOpen v = false → y.irqEoi mask.toNat = y.orBit F.PBA v)) ∧
      (mask.toNat.land s.vecLive = 0 ∨ s.host.msix = false → y.irqEoi mask.toNat = y)) ∧
  (∀ (ifc : Ifc) (facts : WFacts) (s : State), s.takes ifc 0x512C = true →
    let y := s.counted 5
    exec (.watchdogKick ifc facts) s = .next (s.finish
      (if s.dumping then y else { y.set F.WDOG_STAT_FIRST 0 with host := { y.host with wdogAt := s.clk.now } }))) ∧
  (∀ (facts : StartFacts) (s : State),
    (s.on F.HOST_WDOG_CFG_EN = false ∨ s.dumping = true ∨ s.islandAsleep 26 = true ∨ s.isl.started < 8 →
      exec (.watchdogExpiry facts) s = .next (s.finish s)) ∧
    (s.on F.HOST_WDOG_CFG_EN = true → s.dumping = false → s.islandAsleep 26 = false → 8 ≤ s.isl.started →
      let due := s.host.wdogAt + s.get F.HOST_WDOG_CFG_TIMEOUT_MS * 1000000
      (s.on F.WDOG_STAT_FIRST = false →
        ∃ x, exec (.watchdogExpiry facts) s = .next (s.finish x) ∧ x.get F.WDOG_STAT_FIRST = 1 ∧ bit (x.get F.IRQ_URG_RAW) 3 = true ∧
          x.get F.WDOG_STAT_COUNT = min (s.get F.WDOG_STAT_COUNT + 1) (2 ^ F.WDOG_STAT_COUNT.width - 1) ∧
          bit (x.get F.PG_IRQ_RAW 5) 12 = true ∧ x.host.wdogAt = due ∧ x.clk = (s.elapseTo due).clk) ∧
      (s.on F.WDOG_STAT_FIRST = true → s.on F.DUMP_CFG_DUMP_AUTO = false →
        (s.on F.HOST_WDOG_CFG_RESET_EN = false ∨ s.pins.main = false) →
        ∃ x, exec (.watchdogExpiry facts) s = .next (s.finish x) ∧ x.get F.WDOG_STAT_FIRST = 1 ∧ x.isl = s.isl ∧
          x.get F.WDOG_STAT_COUNT = min (s.get F.WDOG_STAT_COUNT + 1) (2 ^ F.WDOG_STAT_COUNT.width - 1)) ∧
      (s.on F.WDOG_STAT_FIRST = true → s.on F.DUMP_CFG_DUMP_AUTO = false → s.on F.HOST_WDOG_CFG_RESET_EN = true → s.pins.main = true →
        ∃ x, exec (.watchdogExpiry facts) s = .next (s.finish x) ∧ startEnd facts x) ∧
      (s.on F.WDOG_STAT_FIRST = true → s.on F.DUMP_CFG_DUMP_AUTO = true → s.get F.DUMP_STAT_STATE = 0 →
        s.on F.TALY_STAT_SAVING = false → s.power ≤ 1 →
        ∃ x, exec (.watchdogExpiry facts) s = .next (s.finish x) ∧ x.get F.DUMP_STAT_STATE = 2 ∧ x.get F.DUMP_STAT_AUTO = 1 ∧
          x.get F.WDOG_STAT_COUNT = min (s.get F.WDOG_STAT_COUNT + 1) (2 ^ F.WDOG_STAT_COUNT.width - 1))))

/-! ### The Rubble dump (chapter 20) -/

/-- R478 to R481: the key in DUMP_GO starts a dump in RUN and HOLD: STATE FREEZING, the trigger and the instant recorded, the urgent source
and event raised, and the Trowel frozen; a dump in progress refuses another; during a save the request is held, in NAP it is held and wakes the node, and a held
request starts in RUN. After 100 µs the islands named are stopped where they stand and recorded as forced, and with the Vault frozen too the image is written.
R486, R488 to R490, R492, R493: the image's end stores it in the dump area of the Quarry, its sequence number shown and VALID, where
bank 63 is not bad and master 12 is not fenced, and keeps it for the Vault alone where not; the node waits for the subset or is DONE, or is reset where TOP_SWRST has asked for it; the subset's end has programmed it into its slot, shown with its
event; CLEAR empties the area and VALID, and VLT_CLEAR erases the slots named, each where the state allows it. -/
def Obligations.DumpStartsAndEnds : Prop :=
  (∀ (ifc : Ifc) (facts : WFacts) (s : State), s.takes ifc 0x36100 = true →
    (s.get F.DUMP_STAT_STATE = 0 → s.on F.TALY_STAT_SAVING = false → s.power ≤ 1 →
      ∃ x, exec (.dumpGo ifc facts) s = .next (s.finish x) ∧ x.get F.DUMP_STAT_STATE = 2 ∧ x.get F.DUMP_STAT_AUTO = 0 ∧
        x.dump.at_ = s.clk.now ∧ x.dump.course = s.isl.token ∧ bit (x.get F.IRQ_URG_RAW) 7 = true ∧
        bit (x.get F.PG_IRQ_RAW 2) 9 = true ∧ (s.test.slices = [] → x.isl.frozen.contains 8 = true ∧ x.clk.ltOn = false)) ∧
    (s.get F.DUMP_STAT_STATE ≠ 0 →
      ∃ x, exec (.dumpGo ifc facts) s = .next (s.finish x) ∧ x.dump = s.dump ∧ x.isl = s.isl ∧
        x.get F.DUMP_STAT_STATE = s.get F.DUMP_STAT_STATE ∧ x.get F.PG_CLAMP_CAUSE 0x36 = 8) ∧
    (s.get F.DUMP_STAT_STATE = 0 → s.on F.TALY_STAT_SAVING = true →
      ∃ x, exec (.dumpGo ifc facts) s = .next (s.finish x) ∧ x.get F.DUMP_STAT_STATE = 1 ∧ x.dump.held = some false ∧ x.isl = s.isl)) ∧
  (∀ (ifc : Ifc) (facts : WFacts) (s : State), s.ifcTakes ifc 0x36 = true → s.islandAsleep (regIsland 0x36 0x100) = true → s.power = 2 →
    s.get F.DUMP_STAT_STATE = 0 → s.on F.TALY_STAT_SAVING = false → s.pins.main = true → s.isl.frozen.contains 29 = false →
    s.on F.PWR_STAT_ENTERING = false → s.pwr.exiting = false →
    ∃ x, exec (.dumpGo ifc facts) s = .next (s.finish x) ∧ x.get F.DUMP_STAT_STATE = 1 ∧ x.dump.held = some false ∧
      x.pwr.exiting = true ∧ x.get F.PWR_STAT_CAUSE = 3) ∧
  (∀ s : State,
    (∀ auto : Bool, s.dump.held = some auto → s.power = 0 → s.pwr.exiting = false → s.on F.PWR_STAT_ENTERING = false →
      s.on F.TALY_STAT_SAVING = false →
      ∃ x, exec .heldDumpStart s = .next (s.finish x) ∧ x.get F.DUMP_STAT_STATE = 2 ∧ x.on F.DUMP_STAT_AUTO = auto ∧ x.dump.held = none) ∧
    (s.dump.held = none ∨ s.power ≠ 0 ∨ s.pwr.exiting = true ∨ s.on F.PWR_STAT_ENTERING = true ∨ s.on F.TALY_STAT_SAVING = true →
      exec .heldDumpStart s = .next (s.finish s))) ∧
  (∀ (islands : Reg) (s : State),
    (s.get F.DUMP_STAT_STATE ≠ 2 → exec (.dumpForceStop islands) s = .next (s.finish s)) ∧
    (s.get F.DUMP_STAT_STATE = 2 →
      ∃ x, exec (.dumpForceStop islands) s = .next (s.finish x) ∧
        x.dump.forced = (oneBits 31 islands.toNat).filter (fun i => i != 24 && i != 26 && i != 30) ∧
        x.on F.DUMP_STAT_FORCED = !x.dump.forced.isEmpty ∧
        x.get F.DUMP_STAT_STATE = (if x.isl.frozen.contains 31 then 3 else 2) ∧
        x.clk.now = max s.clk.now (s.dump.at_ + 100000))) ∧
  (∀ (latencies : List Word) (took : Nat) (facts : StartFacts) (s : State),
    (s.get F.DUMP_STAT_STATE < 2 → exec (.dumpImageDone latencies took facts) s = .next (s.finish s)) ∧
    (4 ≤ s.get F.DUMP_STAT_STATE →
      ∃ x, exec (.dumpImageDone latencies took facts) s = .next (s.finish x) ∧ x.qry = s.qry ∧ x.dump = s.dump ∧
        x.get F.DUMP_STAT_STATE = s.get F.DUMP_STAT_STATE) ∧
    ((s.get F.DUMP_STAT_STATE = 2 ∨ s.get F.DUMP_STAT_STATE = 3) → s.isl.frozen.contains 31 = true →
      (s.mFenced 12 = false → s.bank 63 ≠ 6 → s.dump.swrst = false →
        ∃ x, exec (.dumpImageDone latencies took facts) s = .next (s.finish x) ∧ x.get F.DUMP_STAT_VALID = 1 ∧
          x.get F.DUMP_STAT_DIRECT = 0 ∧ x.get F.DUMP_SEQ = min (s.dump.high + 1) 0xFFFFFFFF ∧ bit (x.get F.PG_IRQ_RAW 0x36) 8 = true ∧
          x.get F.DUMP_STAT_STATE = (if s.on F.DUMP_CFG_VLT_EN then 4 else 5) ∧
          x.get F.DUMP_COUNT = min (s.get F.DUMP_COUNT + 1) (2 ^ F.DUMP_COUNT.width - 1) ∧
          (x.qBytes 0x03FC0000 3 = [0xB5, 0xD0, 0x01]) ∧
          ∀ k, k / 0x100000 ≠ 63 → memGet 0 k x.qry.mem = memGet 0 k s.qry.mem) ∧
      ((s.mFenced 12 = true ∨ s.bank 63 = 6) → s.dump.swrst = false →
        ∃ x, exec (.dumpImageDone latencies took facts) s = .next (s.finish x) ∧ x.get F.DUMP_STAT_VALID = 0 ∧
          x.get F.DUMP_STAT_DIRECT = 1 ∧ x.get F.DUMP_SEQ = min (s.dump.high + 1) 0xFFFFFFFF ∧ x.get F.DUMP_STAT_STATE = 4 ∧
          x.qry.mem = s.qry.mem ∧ x.dump.subset.take 3 = [0xB5, 0xD0, 0x01]) ∧
      (s.dump.swrst = true → s.pins.main = true →
        ∃ x, exec (.dumpImageDone latencies took facts) s = .next (s.finish x) ∧ startEnd facts x))) ∧
  (∀ (good : Nat) (hot : Bool) (took : Nat) (s : State),
    (s.get F.DUMP_STAT_STATE ≠ 4 → exec (.dumpSubsetDone good hot took) s = .next (s.finish s)) ∧
    (s.get F.DUMP_STAT_STATE = 4 →
      let short := good < (s.dump.subset.length + 4095) / 4096
      let base := 0x6C0000 + s.get F.DUMP_STAT_SLOT * 0x10000
      ∃ x, exec (.dumpSubsetDone good hot took) s = .next (s.finish x) ∧ x.get F.DUMP_STAT_STATE = 5 ∧ x.dump.subset = [] ∧
        (short → (s.spares = 0 ∨ s.vaultRo = true) → x.get F.DUMP_STAT_VLT_FAIL = 1 ∧ bit (x.get F.PG_IRQ_RAW 0x36) 10 = true) ∧
        (¬short ∨ (s.spares ≠ 0 ∧ s.vaultRo = false) → x.get F.DUMP_STAT_VLT_DONE = 1 ∧ bit (x.get F.PG_IRQ_RAW 0x36) 9 = true) ∧
        (¬short → s.dump.subset.length ≤ 0x10000 →
          (∀ i < 16, ∀ j < 16, s.phys (base / 4096 + i) = s.phys (base / 4096 + j) → i = j) →
          x.vBytes base s.dump.subset.length = s.dump.subset))) ∧
  (∀ (ifc : Ifc) (facts : WFacts) (s : State), s.takes ifc 0x36118 = true →
    (s.get F.DUMP_STAT_STATE = 0 ∨ s.get F.DUMP_STAT_STATE = 5 →
      ∃ x, exec (.dumpClear ifc facts) s = .next (s.finish x) ∧ x.get F.DUMP_STAT_VALID = 0 ∧
        (∀ k, s.qKey 0x03FC0000 ≤ k → k < s.qKey 0x03FC0000 + 0x40000 → memGet 0 k x.qry.mem = 0) ∧
        (∀ k, k < s.qKey 0x03FC0000 ∨ s.qKey 0x03FC0000 + 0x40000 ≤ k → memGet 0 k x.qry.mem = memGet 0 k s.qry.mem)) ∧
    (s.get F.DUMP_STAT_STATE ≠ 0 → s.get F.DUMP_STAT_STATE ≠ 5 →
      ∃ x, exec (.dumpClear ifc facts) s = .next (s.finish x) ∧ x.qry = s.qry ∧ x.get F.DUMP_STAT_VALID = s.get F.DUMP_STAT_VALID ∧
        x.get F.PG_CLAMP_CAUSE 0x36 = 8) ∧
    (∀ mask : BitVec 4,
      (s.get F.DUMP_STAT_STATE = 0 →
        ∃ x, exec (.dumpVaultClear ifc mask facts) s = .next (s.finish x) ∧ (∃ new, x.vault.ops = s.vault.ops ++ new ∧
          (∀ k < 4, ∀ j < 16, mask.getLsbD k = true → ⟨.dumpErase k, [], 0x6C0 + k * 16 + j, true, 0, false⟩ ∈ new) ∧
          ∀ o ∈ new, ∃ k < 4, mask.getLsbD k = true ∧ o.purpose = .dumpErase k)) ∧
      (s.get F.DUMP_STAT_STATE ≠ 0 → mask ≠ 0 →
        ∃ x, exec (.dumpVaultClear ifc mask facts) s = .next (s.finish x) ∧ x.vault = s.vault ∧ x.get F.PG_CLAMP_CAUSE 0x36 = 8)))

/-! ### Pins and the test access port (chapter 21) -/

/-- R506: THERM_N is low from a reading of 150.0 °C or above until one below 145.0 °C; between the two it stays as it is, and without main the sensor reads nothing.
R521: TRST_N and IDCODE select the identification 0x1814_05D3; BYPASS, EXTEST, CLAMP and HIGHZ come into force and leave the boundary
register, which a SAMPLE leaves and a PRELOAD loads; no register and no memory of the node changes: the node keeps running. -/
def Obligations.ThermalAndTestPins : Prop :=
  (∀ (tj : Int) (s : State),
    (s.pins.main = false → exec (.thermalAlert tj) s = .next (s.finish s)) ∧
    (s.pins.main = true →
      exec (.thermalAlert tj) s = .next (s.finish { s with
        mon := { s.mon with tj := tj }
        pins := { s.pins with therm := decide (1500 ≤ tj) || (s.pins.therm && decide (1450 ≤ tj)) } }))) ∧
  (∀ s : State,
    exec .tapReset s = .next (s.finish (({ s with tap := { s.tap with ir := 1 } } : State).emit (.tap 1 0x181405D3))) ∧
    exec .tapIdcode s = .next (s.finish (({ s with tap := { s.tap with ir := 1 } } : State).emit (.tap 1 0x181405D3))) ∧
    exec .tapBypass s = .next (s.finish (({ s with tap := { s.tap with ir := 0 } } : State).emit (.tap 0 0))) ∧
    exec .tapExtest s = .next (s.finish (({ s with tap := { s.tap with ir := 3 } } : State).emit (.tap 3 s.tap.boundary))) ∧
    exec .tapClamp s = .next (s.finish (({ s with tap := { s.tap with ir := 4 } } : State).emit (.tap 4 0))) ∧
    exec .tapHighz s = .next (s.finish (({ s with tap := { s.tap with ir := 5 } } : State).emit (.tap 5 0))) ∧
    (∀ pins : Nat, exec (.tapSamplePreload pins none) s =
      .next (s.finish (({ s with tap := { s.tap with ir := 2 } } : State).emit (.tap 2 pins)))) ∧
    (∀ pins v : Nat, ∃ x, exec (.tapSamplePreload pins (some v)) s = .next (s.finish x) ∧ x.tap.boundary = v ∧ x.tap.ir = 2 ∧
      x.regs = s.regs ∧ x.qry = s.qry ∧ x.vault = s.vault))
end

