-- ==== Sys2Proof/Laws/State.lean ====
section
/-! SUPPORT. What the elementary updates of State leave as it was, one lemma a field and update; the file written by a
register update reads back what was written, and nothing else. -/

namespace Sys2Proof.Machine

@[simp] theorem State.set_pending (s : State) (f : Fld) (v i : Nat) : (s.set f v i).pending = s.pending := rfl
@[simp] theorem State.set_out (s : State) (f : Fld) (v i : Nat) : (s.set f v i).out = s.out := rfl
@[simp] theorem State.set_boot (s : State) (f : Fld) (v i : Nat) : (s.set f v i).boot = s.boot := rfl
@[simp] theorem State.set_fuses (s : State) (f : Fld) (v i : Nat) : (s.set f v i).fuses = s.fuses := rfl
@[simp] theorem State.set_clk (s : State) (f : Fld) (v i : Nat) : (s.set f v i).clk = s.clk := rfl
@[simp] theorem State.set_marks (s : State) (f : Fld) (v i : Nat) : (s.set f v i).marks = s.marks := rfl
@[simp] theorem State.set_vault (s : State) (f : Fld) (v i : Nat) : (s.set f v i).vault = s.vault := rfl
@[simp] theorem State.set_qry (s : State) (f : Fld) (v i : Nat) : (s.set f v i).qry = s.qry := rfl
@[simp] theorem State.set_pwr (s : State) (f : Fld) (v i : Nat) : (s.set f v i).pwr = s.pwr := rfl
@[simp] theorem State.set_rtc (s : State) (f : Fld) (v i : Nat) : (s.set f v i).rtc = s.rtc := rfl
@[simp] theorem State.set_mtr (s : State) (f : Fld) (v i : Nat) : (s.set f v i).mtr = s.mtr := rfl
@[simp] theorem State.set_loads (s : State) (f : Fld) (v i : Nat) : (s.set f v i).loads = s.loads := rfl
@[simp] theorem State.set_course (s : State) (f : Fld) (v i : Nat) : (s.set f v i).course = s.course := rfl
@[simp] theorem State.set_base (s : State) (f : Fld) (v i : Nat) : (s.set f v i).base = s.base := rfl
@[simp] theorem State.set_sched (s : State) (f : Fld) (v i : Nat) : (s.set f v i).sched = s.sched := rfl
@[simp] theorem State.set_pendSched (s : State) (f : Fld) (v i : Nat) : (s.set f v i).pendSched = s.pendSched := rfl
@[simp] theorem State.set_loading (s : State) (f : Fld) (v i : Nat) : (s.set f v i).loading = s.loading := rfl
@[simp] theorem State.set_so (s : State) (f : Fld) (v i : Nat) : (s.set f v i).so = s.so := rfl
@[simp] theorem State.set_pace (s : State) (f : Fld) (v i : Nat) : (s.set f v i).pace = s.pace := rfl
@[simp] theorem State.set_lines (s : State) (f : Fld) (v i : Nat) : (s.set f v i).lines = s.lines := rfl
@[simp] theorem State.set_keys (s : State) (f : Fld) (v i : Nat) : (s.set f v i).keys = s.keys := rfl
@[simp] theorem State.set_trw (s : State) (f : Fld) (v i : Nat) : (s.set f v i).trw = s.trw := rfl
@[simp] theorem State.set_loc (s : State) (f : Fld) (v i : Nat) : (s.set f v i).loc = s.loc := rfl
@[simp] theorem State.set_twin (s : State) (f : Fld) (v i : Nat) : (s.set f v i).twin = s.twin := rfl
@[simp] theorem State.set_host (s : State) (f : Fld) (v i : Nat) : (s.set f v i).host = s.host := rfl
@[simp] theorem State.set_isl (s : State) (f : Fld) (v i : Nat) : (s.set f v i).isl = s.isl := rfl
@[simp] theorem State.set_test (s : State) (f : Fld) (v i : Nat) : (s.set f v i).test = s.test := rfl
@[simp] theorem State.set_mon (s : State) (f : Fld) (v i : Nat) : (s.set f v i).mon = s.mon := rfl
@[simp] theorem State.set_dump (s : State) (f : Fld) (v i : Nat) : (s.set f v i).dump = s.dump := rfl
@[simp] theorem State.set_tap (s : State) (f : Fld) (v i : Nat) : (s.set f v i).tap = s.tap := rfl
@[simp] theorem State.set_pins (s : State) (f : Fld) (v i : Nat) : (s.set f v i).pins = s.pins := rfl

@[simp] theorem State.setB_pending (s : State) (f : Fld) (b : Bool) (i : Nat) : (s.setB f b i).pending = s.pending := rfl
@[simp] theorem State.setB_out (s : State) (f : Fld) (b : Bool) (i : Nat) : (s.setB f b i).out = s.out := rfl
@[simp] theorem State.setB_boot (s : State) (f : Fld) (b : Bool) (i : Nat) : (s.setB f b i).boot = s.boot := rfl
@[simp] theorem State.setB_fuses (s : State) (f : Fld) (b : Bool) (i : Nat) : (s.setB f b i).fuses = s.fuses := rfl
@[simp] theorem State.setB_clk (s : State) (f : Fld) (b : Bool) (i : Nat) : (s.setB f b i).clk = s.clk := rfl
@[simp] theorem State.setB_marks (s : State) (f : Fld) (b : Bool) (i : Nat) : (s.setB f b i).marks = s.marks := rfl
@[simp] theorem State.setB_vault (s : State) (f : Fld) (b : Bool) (i : Nat) : (s.setB f b i).vault = s.vault := rfl
@[simp] theorem State.setB_qry (s : State) (f : Fld) (b : Bool) (i : Nat) : (s.setB f b i).qry = s.qry := rfl
@[simp] theorem State.setB_pwr (s : State) (f : Fld) (b : Bool) (i : Nat) : (s.setB f b i).pwr = s.pwr := rfl
@[simp] theorem State.setB_rtc (s : State) (f : Fld) (b : Bool) (i : Nat) : (s.setB f b i).rtc = s.rtc := rfl
@[simp] theorem State.setB_mtr (s : State) (f : Fld) (b : Bool) (i : Nat) : (s.setB f b i).mtr = s.mtr := rfl
@[simp] theorem State.setB_loads (s : State) (f : Fld) (b : Bool) (i : Nat) : (s.setB f b i).loads = s.loads := rfl
@[simp] theorem State.setB_course (s : State) (f : Fld) (b : Bool) (i : Nat) : (s.setB f b i).course = s.course := rfl
@[simp] theorem State.setB_base (s : State) (f : Fld) (b : Bool) (i : Nat) : (s.setB f b i).base = s.base := rfl
@[simp] theorem State.setB_sched (s : State) (f : Fld) (b : Bool) (i : Nat) : (s.setB f b i).sched = s.sched := rfl
@[simp] theorem State.setB_pendSched (s : State) (f : Fld) (b : Bool) (i : Nat) : (s.setB f b i).pendSched = s.pendSched := rfl
@[simp] theorem State.setB_loading (s : State) (f : Fld) (b : Bool) (i : Nat) : (s.setB f b i).loading = s.loading := rfl
@[simp] theorem State.setB_so (s : State) (f : Fld) (b : Bool) (i : Nat) : (s.setB f b i).so = s.so := rfl
@[simp] theorem State.setB_pace (s : State) (f : Fld) (b : Bool) (i : Nat) : (s.setB f b i).pace = s.pace := rfl
@[simp] theorem State.setB_lines (s : State) (f : Fld) (b : Bool) (i : Nat) : (s.setB f b i).lines = s.lines := rfl
@[simp] theorem State.setB_keys (s : State) (f : Fld) (b : Bool) (i : Nat) : (s.setB f b i).keys = s.keys := rfl
@[simp] theorem State.setB_trw (s : State) (f : Fld) (b : Bool) (i : Nat) : (s.setB f b i).trw = s.trw := rfl
@[simp] theorem State.setB_loc (s : State) (f : Fld) (b : Bool) (i : Nat) : (s.setB f b i).loc = s.loc := rfl
@[simp] theorem State.setB_twin (s : State) (f : Fld) (b : Bool) (i : Nat) : (s.setB f b i).twin = s.twin := rfl
@[simp] theorem State.setB_host (s : State) (f : Fld) (b : Bool) (i : Nat) : (s.setB f b i).host = s.host := rfl
@[simp] theorem State.setB_isl (s : State) (f : Fld) (b : Bool) (i : Nat) : (s.setB f b i).isl = s.isl := rfl
@[simp] theorem State.setB_test (s : State) (f : Fld) (b : Bool) (i : Nat) : (s.setB f b i).test = s.test := rfl
@[simp] theorem State.setB_mon (s : State) (f : Fld) (b : Bool) (i : Nat) : (s.setB f b i).mon = s.mon := rfl
@[simp] theorem State.setB_dump (s : State) (f : Fld) (b : Bool) (i : Nat) : (s.setB f b i).dump = s.dump := rfl
@[simp] theorem State.setB_tap (s : State) (f : Fld) (b : Bool) (i : Nat) : (s.setB f b i).tap = s.tap := rfl
@[simp] theorem State.setB_pins (s : State) (f : Fld) (b : Bool) (i : Nat) : (s.setB f b i).pins = s.pins := rfl

@[simp] theorem State.add_pending (s : State) (f : Fld) (n i : Nat) : (s.add f n i).pending = s.pending := rfl
@[simp] theorem State.add_out (s : State) (f : Fld) (n i : Nat) : (s.add f n i).out = s.out := rfl
@[simp] theorem State.add_boot (s : State) (f : Fld) (n i : Nat) : (s.add f n i).boot = s.boot := rfl
@[simp] theorem State.add_fuses (s : State) (f : Fld) (n i : Nat) : (s.add f n i).fuses = s.fuses := rfl
@[simp] theorem State.add_clk (s : State) (f : Fld) (n i : Nat) : (s.add f n i).clk = s.clk := rfl
@[simp] theorem State.add_marks (s : State) (f : Fld) (n i : Nat) : (s.add f n i).marks = s.marks := rfl
@[simp] theorem State.add_vault (s : State) (f : Fld) (n i : Nat) : (s.add f n i).vault = s.vault := rfl
@[simp] theorem State.add_qry (s : State) (f : Fld) (n i : Nat) : (s.add f n i).qry = s.qry := rfl
@[simp] theorem State.add_pwr (s : State) (f : Fld) (n i : Nat) : (s.add f n i).pwr = s.pwr := rfl
@[simp] theorem State.add_rtc (s : State) (f : Fld) (n i : Nat) : (s.add f n i).rtc = s.rtc := rfl
@[simp] theorem State.add_mtr (s : State) (f : Fld) (n i : Nat) : (s.add f n i).mtr = s.mtr := rfl
@[simp] theorem State.add_loads (s : State) (f : Fld) (n i : Nat) : (s.add f n i).loads = s.loads := rfl
@[simp] theorem State.add_course (s : State) (f : Fld) (n i : Nat) : (s.add f n i).course = s.course := rfl
@[simp] theorem State.add_base (s : State) (f : Fld) (n i : Nat) : (s.add f n i).base = s.base := rfl
@[simp] theorem State.add_sched (s : State) (f : Fld) (n i : Nat) : (s.add f n i).sched = s.sched := rfl
@[simp] theorem State.add_pendSched (s : State) (f : Fld) (n i : Nat) : (s.add f n i).pendSched = s.pendSched := rfl
@[simp] theorem State.add_loading (s : State) (f : Fld) (n i : Nat) : (s.add f n i).loading = s.loading := rfl
@[simp] theorem State.add_so (s : State) (f : Fld) (n i : Nat) : (s.add f n i).so = s.so := rfl
@[simp] theorem State.add_pace (s : State) (f : Fld) (n i : Nat) : (s.add f n i).pace = s.pace := rfl
@[simp] theorem State.add_lines (s : State) (f : Fld) (n i : Nat) : (s.add f n i).lines = s.lines := rfl
@[simp] theorem State.add_keys (s : State) (f : Fld) (n i : Nat) : (s.add f n i).keys = s.keys := rfl
@[simp] theorem State.add_trw (s : State) (f : Fld) (n i : Nat) : (s.add f n i).trw = s.trw := rfl
@[simp] theorem State.add_loc (s : State) (f : Fld) (n i : Nat) : (s.add f n i).loc = s.loc := rfl
@[simp] theorem State.add_twin (s : State) (f : Fld) (n i : Nat) : (s.add f n i).twin = s.twin := rfl
@[simp] theorem State.add_host (s : State) (f : Fld) (n i : Nat) : (s.add f n i).host = s.host := rfl
@[simp] theorem State.add_isl (s : State) (f : Fld) (n i : Nat) : (s.add f n i).isl = s.isl := rfl
@[simp] theorem State.add_test (s : State) (f : Fld) (n i : Nat) : (s.add f n i).test = s.test := rfl
@[simp] theorem State.add_mon (s : State) (f : Fld) (n i : Nat) : (s.add f n i).mon = s.mon := rfl
@[simp] theorem State.add_dump (s : State) (f : Fld) (n i : Nat) : (s.add f n i).dump = s.dump := rfl
@[simp] theorem State.add_tap (s : State) (f : Fld) (n i : Nat) : (s.add f n i).tap = s.tap := rfl
@[simp] theorem State.add_pins (s : State) (f : Fld) (n i : Nat) : (s.add f n i).pins = s.pins := rfl

@[simp] theorem State.inc_pending (s : State) (f : Fld) (i : Nat) : (s.inc f i).pending = s.pending := rfl
@[simp] theorem State.inc_out (s : State) (f : Fld) (i : Nat) : (s.inc f i).out = s.out := rfl
@[simp] theorem State.inc_boot (s : State) (f : Fld) (i : Nat) : (s.inc f i).boot = s.boot := rfl
@[simp] theorem State.inc_fuses (s : State) (f : Fld) (i : Nat) : (s.inc f i).fuses = s.fuses := rfl
@[simp] theorem State.inc_clk (s : State) (f : Fld) (i : Nat) : (s.inc f i).clk = s.clk := rfl
@[simp] theorem State.inc_marks (s : State) (f : Fld) (i : Nat) : (s.inc f i).marks = s.marks := rfl
@[simp] theorem State.inc_vault (s : State) (f : Fld) (i : Nat) : (s.inc f i).vault = s.vault := rfl
@[simp] theorem State.inc_qry (s : State) (f : Fld) (i : Nat) : (s.inc f i).qry = s.qry := rfl
@[simp] theorem State.inc_pwr (s : State) (f : Fld) (i : Nat) : (s.inc f i).pwr = s.pwr := rfl
@[simp] theorem State.inc_rtc (s : State) (f : Fld) (i : Nat) : (s.inc f i).rtc = s.rtc := rfl
@[simp] theorem State.inc_mtr (s : State) (f : Fld) (i : Nat) : (s.inc f i).mtr = s.mtr := rfl
@[simp] theorem State.inc_loads (s : State) (f : Fld) (i : Nat) : (s.inc f i).loads = s.loads := rfl
@[simp] theorem State.inc_course (s : State) (f : Fld) (i : Nat) : (s.inc f i).course = s.course := rfl
@[simp] theorem State.inc_base (s : State) (f : Fld) (i : Nat) : (s.inc f i).base = s.base := rfl
@[simp] theorem State.inc_sched (s : State) (f : Fld) (i : Nat) : (s.inc f i).sched = s.sched := rfl
@[simp] theorem State.inc_pendSched (s : State) (f : Fld) (i : Nat) : (s.inc f i).pendSched = s.pendSched := rfl
@[simp] theorem State.inc_loading (s : State) (f : Fld) (i : Nat) : (s.inc f i).loading = s.loading := rfl
@[simp] theorem State.inc_so (s : State) (f : Fld) (i : Nat) : (s.inc f i).so = s.so := rfl
@[simp] theorem State.inc_pace (s : State) (f : Fld) (i : Nat) : (s.inc f i).pace = s.pace := rfl
@[simp] theorem State.inc_lines (s : State) (f : Fld) (i : Nat) : (s.inc f i).lines = s.lines := rfl
@[simp] theorem State.inc_keys (s : State) (f : Fld) (i : Nat) : (s.inc f i).keys = s.keys := rfl
@[simp] theorem State.inc_trw (s : State) (f : Fld) (i : Nat) : (s.inc f i).trw = s.trw := rfl
@[simp] theorem State.inc_loc (s : State) (f : Fld) (i : Nat) : (s.inc f i).loc = s.loc := rfl
@[simp] theorem State.inc_twin (s : State) (f : Fld) (i : Nat) : (s.inc f i).twin = s.twin := rfl
@[simp] theorem State.inc_host (s : State) (f : Fld) (i : Nat) : (s.inc f i).host = s.host := rfl
@[simp] theorem State.inc_isl (s : State) (f : Fld) (i : Nat) : (s.inc f i).isl = s.isl := rfl
@[simp] theorem State.inc_test (s : State) (f : Fld) (i : Nat) : (s.inc f i).test = s.test := rfl
@[simp] theorem State.inc_mon (s : State) (f : Fld) (i : Nat) : (s.inc f i).mon = s.mon := rfl
@[simp] theorem State.inc_dump (s : State) (f : Fld) (i : Nat) : (s.inc f i).dump = s.dump := rfl
@[simp] theorem State.inc_tap (s : State) (f : Fld) (i : Nat) : (s.inc f i).tap = s.tap := rfl
@[simp] theorem State.inc_pins (s : State) (f : Fld) (i : Nat) : (s.inc f i).pins = s.pins := rfl

@[simp] theorem State.orBit_pending (s : State) (f : Fld) (b i : Nat) : (s.orBit f b i).pending = s.pending := rfl
@[simp] theorem State.orBit_out (s : State) (f : Fld) (b i : Nat) : (s.orBit f b i).out = s.out := rfl
@[simp] theorem State.orBit_boot (s : State) (f : Fld) (b i : Nat) : (s.orBit f b i).boot = s.boot := rfl
@[simp] theorem State.orBit_fuses (s : State) (f : Fld) (b i : Nat) : (s.orBit f b i).fuses = s.fuses := rfl
@[simp] theorem State.orBit_clk (s : State) (f : Fld) (b i : Nat) : (s.orBit f b i).clk = s.clk := rfl
@[simp] theorem State.orBit_marks (s : State) (f : Fld) (b i : Nat) : (s.orBit f b i).marks = s.marks := rfl
@[simp] theorem State.orBit_vault (s : State) (f : Fld) (b i : Nat) : (s.orBit f b i).vault = s.vault := rfl
@[simp] theorem State.orBit_qry (s : State) (f : Fld) (b i : Nat) : (s.orBit f b i).qry = s.qry := rfl
@[simp] theorem State.orBit_pwr (s : State) (f : Fld) (b i : Nat) : (s.orBit f b i).pwr = s.pwr := rfl
@[simp] theorem State.orBit_rtc (s : State) (f : Fld) (b i : Nat) : (s.orBit f b i).rtc = s.rtc := rfl
@[simp] theorem State.orBit_mtr (s : State) (f : Fld) (b i : Nat) : (s.orBit f b i).mtr = s.mtr := rfl
@[simp] theorem State.orBit_loads (s : State) (f : Fld) (b i : Nat) : (s.orBit f b i).loads = s.loads := rfl
@[simp] theorem State.orBit_course (s : State) (f : Fld) (b i : Nat) : (s.orBit f b i).course = s.course := rfl
@[simp] theorem State.orBit_base (s : State) (f : Fld) (b i : Nat) : (s.orBit f b i).base = s.base := rfl
@[simp] theorem State.orBit_sched (s : State) (f : Fld) (b i : Nat) : (s.orBit f b i).sched = s.sched := rfl
@[simp] theorem State.orBit_pendSched (s : State) (f : Fld) (b i : Nat) : (s.orBit f b i).pendSched = s.pendSched := rfl
@[simp] theorem State.orBit_loading (s : State) (f : Fld) (b i : Nat) : (s.orBit f b i).loading = s.loading := rfl
@[simp] theorem State.orBit_so (s : State) (f : Fld) (b i : Nat) : (s.orBit f b i).so = s.so := rfl
@[simp] theorem State.orBit_pace (s : State) (f : Fld) (b i : Nat) : (s.orBit f b i).pace = s.pace := rfl
@[simp] theorem State.orBit_lines (s : State) (f : Fld) (b i : Nat) : (s.orBit f b i).lines = s.lines := rfl
@[simp] theorem State.orBit_keys (s : State) (f : Fld) (b i : Nat) : (s.orBit f b i).keys = s.keys := rfl
@[simp] theorem State.orBit_trw (s : State) (f : Fld) (b i : Nat) : (s.orBit f b i).trw = s.trw := rfl
@[simp] theorem State.orBit_loc (s : State) (f : Fld) (b i : Nat) : (s.orBit f b i).loc = s.loc := rfl
@[simp] theorem State.orBit_twin (s : State) (f : Fld) (b i : Nat) : (s.orBit f b i).twin = s.twin := rfl
@[simp] theorem State.orBit_host (s : State) (f : Fld) (b i : Nat) : (s.orBit f b i).host = s.host := rfl
@[simp] theorem State.orBit_isl (s : State) (f : Fld) (b i : Nat) : (s.orBit f b i).isl = s.isl := rfl
@[simp] theorem State.orBit_test (s : State) (f : Fld) (b i : Nat) : (s.orBit f b i).test = s.test := rfl
@[simp] theorem State.orBit_mon (s : State) (f : Fld) (b i : Nat) : (s.orBit f b i).mon = s.mon := rfl
@[simp] theorem State.orBit_dump (s : State) (f : Fld) (b i : Nat) : (s.orBit f b i).dump = s.dump := rfl
@[simp] theorem State.orBit_tap (s : State) (f : Fld) (b i : Nat) : (s.orBit f b i).tap = s.tap := rfl
@[simp] theorem State.orBit_pins (s : State) (f : Fld) (b i : Nat) : (s.orBit f b i).pins = s.pins := rfl

@[simp] theorem State.clrBit_pending (s : State) (f : Fld) (b i : Nat) : (s.clrBit f b i).pending = s.pending := rfl
@[simp] theorem State.clrBit_out (s : State) (f : Fld) (b i : Nat) : (s.clrBit f b i).out = s.out := rfl
@[simp] theorem State.clrBit_boot (s : State) (f : Fld) (b i : Nat) : (s.clrBit f b i).boot = s.boot := rfl
@[simp] theorem State.clrBit_fuses (s : State) (f : Fld) (b i : Nat) : (s.clrBit f b i).fuses = s.fuses := rfl
@[simp] theorem State.clrBit_clk (s : State) (f : Fld) (b i : Nat) : (s.clrBit f b i).clk = s.clk := rfl
@[simp] theorem State.clrBit_marks (s : State) (f : Fld) (b i : Nat) : (s.clrBit f b i).marks = s.marks := rfl
@[simp] theorem State.clrBit_vault (s : State) (f : Fld) (b i : Nat) : (s.clrBit f b i).vault = s.vault := rfl
@[simp] theorem State.clrBit_qry (s : State) (f : Fld) (b i : Nat) : (s.clrBit f b i).qry = s.qry := rfl
@[simp] theorem State.clrBit_pwr (s : State) (f : Fld) (b i : Nat) : (s.clrBit f b i).pwr = s.pwr := rfl
@[simp] theorem State.clrBit_rtc (s : State) (f : Fld) (b i : Nat) : (s.clrBit f b i).rtc = s.rtc := rfl
@[simp] theorem State.clrBit_mtr (s : State) (f : Fld) (b i : Nat) : (s.clrBit f b i).mtr = s.mtr := rfl
@[simp] theorem State.clrBit_loads (s : State) (f : Fld) (b i : Nat) : (s.clrBit f b i).loads = s.loads := rfl
@[simp] theorem State.clrBit_course (s : State) (f : Fld) (b i : Nat) : (s.clrBit f b i).course = s.course := rfl
@[simp] theorem State.clrBit_base (s : State) (f : Fld) (b i : Nat) : (s.clrBit f b i).base = s.base := rfl
@[simp] theorem State.clrBit_sched (s : State) (f : Fld) (b i : Nat) : (s.clrBit f b i).sched = s.sched := rfl
@[simp] theorem State.clrBit_pendSched (s : State) (f : Fld) (b i : Nat) : (s.clrBit f b i).pendSched = s.pendSched := rfl
@[simp] theorem State.clrBit_loading (s : State) (f : Fld) (b i : Nat) : (s.clrBit f b i).loading = s.loading := rfl
@[simp] theorem State.clrBit_so (s : State) (f : Fld) (b i : Nat) : (s.clrBit f b i).so = s.so := rfl
@[simp] theorem State.clrBit_pace (s : State) (f : Fld) (b i : Nat) : (s.clrBit f b i).pace = s.pace := rfl
@[simp] theorem State.clrBit_lines (s : State) (f : Fld) (b i : Nat) : (s.clrBit f b i).lines = s.lines := rfl
@[simp] theorem State.clrBit_keys (s : State) (f : Fld) (b i : Nat) : (s.clrBit f b i).keys = s.keys := rfl
@[simp] theorem State.clrBit_trw (s : State) (f : Fld) (b i : Nat) : (s.clrBit f b i).trw = s.trw := rfl
@[simp] theorem State.clrBit_loc (s : State) (f : Fld) (b i : Nat) : (s.clrBit f b i).loc = s.loc := rfl
@[simp] theorem State.clrBit_twin (s : State) (f : Fld) (b i : Nat) : (s.clrBit f b i).twin = s.twin := rfl
@[simp] theorem State.clrBit_host (s : State) (f : Fld) (b i : Nat) : (s.clrBit f b i).host = s.host := rfl
@[simp] theorem State.clrBit_isl (s : State) (f : Fld) (b i : Nat) : (s.clrBit f b i).isl = s.isl := rfl
@[simp] theorem State.clrBit_test (s : State) (f : Fld) (b i : Nat) : (s.clrBit f b i).test = s.test := rfl
@[simp] theorem State.clrBit_mon (s : State) (f : Fld) (b i : Nat) : (s.clrBit f b i).mon = s.mon := rfl
@[simp] theorem State.clrBit_dump (s : State) (f : Fld) (b i : Nat) : (s.clrBit f b i).dump = s.dump := rfl
@[simp] theorem State.clrBit_tap (s : State) (f : Fld) (b i : Nat) : (s.clrBit f b i).tap = s.tap := rfl
@[simp] theorem State.clrBit_pins (s : State) (f : Fld) (b i : Nat) : (s.clrBit f b i).pins = s.pins := rfl

@[simp] theorem State.irq_pending (s : State) (p b : Nat) : (s.irq p b).pending = s.pending := rfl
@[simp] theorem State.irq_out (s : State) (p b : Nat) : (s.irq p b).out = s.out := rfl
@[simp] theorem State.irq_boot (s : State) (p b : Nat) : (s.irq p b).boot = s.boot := rfl
@[simp] theorem State.irq_fuses (s : State) (p b : Nat) : (s.irq p b).fuses = s.fuses := rfl
@[simp] theorem State.irq_clk (s : State) (p b : Nat) : (s.irq p b).clk = s.clk := rfl
@[simp] theorem State.irq_marks (s : State) (p b : Nat) : (s.irq p b).marks = s.marks := rfl
@[simp] theorem State.irq_vault (s : State) (p b : Nat) : (s.irq p b).vault = s.vault := rfl
@[simp] theorem State.irq_qry (s : State) (p b : Nat) : (s.irq p b).qry = s.qry := rfl
@[simp] theorem State.irq_pwr (s : State) (p b : Nat) : (s.irq p b).pwr = s.pwr := rfl
@[simp] theorem State.irq_rtc (s : State) (p b : Nat) : (s.irq p b).rtc = s.rtc := rfl
@[simp] theorem State.irq_mtr (s : State) (p b : Nat) : (s.irq p b).mtr = s.mtr := rfl
@[simp] theorem State.irq_loads (s : State) (p b : Nat) : (s.irq p b).loads = s.loads := rfl
@[simp] theorem State.irq_course (s : State) (p b : Nat) : (s.irq p b).course = s.course := rfl
@[simp] theorem State.irq_base (s : State) (p b : Nat) : (s.irq p b).base = s.base := rfl
@[simp] theorem State.irq_sched (s : State) (p b : Nat) : (s.irq p b).sched = s.sched := rfl
@[simp] theorem State.irq_pendSched (s : State) (p b : Nat) : (s.irq p b).pendSched = s.pendSched := rfl
@[simp] theorem State.irq_loading (s : State) (p b : Nat) : (s.irq p b).loading = s.loading := rfl
@[simp] theorem State.irq_so (s : State) (p b : Nat) : (s.irq p b).so = s.so := rfl
@[simp] theorem State.irq_pace (s : State) (p b : Nat) : (s.irq p b).pace = s.pace := rfl
@[simp] theorem State.irq_lines (s : State) (p b : Nat) : (s.irq p b).lines = s.lines := rfl
@[simp] theorem State.irq_keys (s : State) (p b : Nat) : (s.irq p b).keys = s.keys := rfl
@[simp] theorem State.irq_trw (s : State) (p b : Nat) : (s.irq p b).trw = s.trw := rfl
@[simp] theorem State.irq_loc (s : State) (p b : Nat) : (s.irq p b).loc = s.loc := rfl
@[simp] theorem State.irq_twin (s : State) (p b : Nat) : (s.irq p b).twin = s.twin := rfl
@[simp] theorem State.irq_host (s : State) (p b : Nat) : (s.irq p b).host = s.host := rfl
@[simp] theorem State.irq_isl (s : State) (p b : Nat) : (s.irq p b).isl = s.isl := rfl
@[simp] theorem State.irq_test (s : State) (p b : Nat) : (s.irq p b).test = s.test := rfl
@[simp] theorem State.irq_mon (s : State) (p b : Nat) : (s.irq p b).mon = s.mon := rfl
@[simp] theorem State.irq_dump (s : State) (p b : Nat) : (s.irq p b).dump = s.dump := rfl
@[simp] theorem State.irq_tap (s : State) (p b : Nat) : (s.irq p b).tap = s.tap := rfl
@[simp] theorem State.irq_pins (s : State) (p b : Nat) : (s.irq p b).pins = s.pins := rfl

@[simp] theorem State.urgent_pending (s : State) (b : Nat) : (s.urgent b).pending = s.pending := rfl
@[simp] theorem State.urgent_out (s : State) (b : Nat) : (s.urgent b).out = s.out := rfl
@[simp] theorem State.urgent_boot (s : State) (b : Nat) : (s.urgent b).boot = s.boot := rfl
@[simp] theorem State.urgent_fuses (s : State) (b : Nat) : (s.urgent b).fuses = s.fuses := rfl
@[simp] theorem State.urgent_clk (s : State) (b : Nat) : (s.urgent b).clk = s.clk := rfl
@[simp] theorem State.urgent_marks (s : State) (b : Nat) : (s.urgent b).marks = s.marks := rfl
@[simp] theorem State.urgent_vault (s : State) (b : Nat) : (s.urgent b).vault = s.vault := rfl
@[simp] theorem State.urgent_qry (s : State) (b : Nat) : (s.urgent b).qry = s.qry := rfl
@[simp] theorem State.urgent_pwr (s : State) (b : Nat) : (s.urgent b).pwr = s.pwr := rfl
@[simp] theorem State.urgent_rtc (s : State) (b : Nat) : (s.urgent b).rtc = s.rtc := rfl
@[simp] theorem State.urgent_mtr (s : State) (b : Nat) : (s.urgent b).mtr = s.mtr := rfl
@[simp] theorem State.urgent_loads (s : State) (b : Nat) : (s.urgent b).loads = s.loads := rfl
@[simp] theorem State.urgent_course (s : State) (b : Nat) : (s.urgent b).course = s.course := rfl
@[simp] theorem State.urgent_base (s : State) (b : Nat) : (s.urgent b).base = s.base := rfl
@[simp] theorem State.urgent_sched (s : State) (b : Nat) : (s.urgent b).sched = s.sched := rfl
@[simp] theorem State.urgent_pendSched (s : State) (b : Nat) : (s.urgent b).pendSched = s.pendSched := rfl
@[simp] theorem State.urgent_loading (s : State) (b : Nat) : (s.urgent b).loading = s.loading := rfl
@[simp] theorem State.urgent_so (s : State) (b : Nat) : (s.urgent b).so = s.so := rfl
@[simp] theorem State.urgent_pace (s : State) (b : Nat) : (s.urgent b).pace = s.pace := rfl
@[simp] theorem State.urgent_lines (s : State) (b : Nat) : (s.urgent b).lines = s.lines := rfl
@[simp] theorem State.urgent_keys (s : State) (b : Nat) : (s.urgent b).keys = s.keys := rfl
@[simp] theorem State.urgent_trw (s : State) (b : Nat) : (s.urgent b).trw = s.trw := rfl
@[simp] theorem State.urgent_loc (s : State) (b : Nat) : (s.urgent b).loc = s.loc := rfl
@[simp] theorem State.urgent_twin (s : State) (b : Nat) : (s.urgent b).twin = s.twin := rfl
@[simp] theorem State.urgent_host (s : State) (b : Nat) : (s.urgent b).host = s.host := rfl
@[simp] theorem State.urgent_isl (s : State) (b : Nat) : (s.urgent b).isl = s.isl := rfl
@[simp] theorem State.urgent_test (s : State) (b : Nat) : (s.urgent b).test = s.test := rfl
@[simp] theorem State.urgent_mon (s : State) (b : Nat) : (s.urgent b).mon = s.mon := rfl
@[simp] theorem State.urgent_dump (s : State) (b : Nat) : (s.urgent b).dump = s.dump := rfl
@[simp] theorem State.urgent_tap (s : State) (b : Nat) : (s.urgent b).tap = s.tap := rfl
@[simp] theorem State.urgent_pins (s : State) (b : Nat) : (s.urgent b).pins = s.pins := rfl

@[simp] theorem State.counted_pending (s : State) (p : Nat) : (s.counted p).pending = s.pending := rfl
@[simp] theorem State.counted_out (s : State) (p : Nat) : (s.counted p).out = s.out := rfl
@[simp] theorem State.counted_boot (s : State) (p : Nat) : (s.counted p).boot = s.boot := rfl
@[simp] theorem State.counted_fuses (s : State) (p : Nat) : (s.counted p).fuses = s.fuses := rfl
@[simp] theorem State.counted_clk (s : State) (p : Nat) : (s.counted p).clk = s.clk := rfl
@[simp] theorem State.counted_marks (s : State) (p : Nat) : (s.counted p).marks = s.marks := rfl
@[simp] theorem State.counted_vault (s : State) (p : Nat) : (s.counted p).vault = s.vault := rfl
@[simp] theorem State.counted_qry (s : State) (p : Nat) : (s.counted p).qry = s.qry := rfl
@[simp] theorem State.counted_pwr (s : State) (p : Nat) : (s.counted p).pwr = s.pwr := rfl
@[simp] theorem State.counted_rtc (s : State) (p : Nat) : (s.counted p).rtc = s.rtc := rfl
@[simp] theorem State.counted_mtr (s : State) (p : Nat) : (s.counted p).mtr = s.mtr := rfl
@[simp] theorem State.counted_loads (s : State) (p : Nat) : (s.counted p).loads = s.loads := rfl
@[simp] theorem State.counted_course (s : State) (p : Nat) : (s.counted p).course = s.course := rfl
@[simp] theorem State.counted_base (s : State) (p : Nat) : (s.counted p).base = s.base := rfl
@[simp] theorem State.counted_sched (s : State) (p : Nat) : (s.counted p).sched = s.sched := rfl
@[simp] theorem State.counted_pendSched (s : State) (p : Nat) : (s.counted p).pendSched = s.pendSched := rfl
@[simp] theorem State.counted_loading (s : State) (p : Nat) : (s.counted p).loading = s.loading := rfl
@[simp] theorem State.counted_so (s : State) (p : Nat) : (s.counted p).so = s.so := rfl
@[simp] theorem State.counted_pace (s : State) (p : Nat) : (s.counted p).pace = s.pace := rfl
@[simp] theorem State.counted_lines (s : State) (p : Nat) : (s.counted p).lines = s.lines := rfl
@[simp] theorem State.counted_keys (s : State) (p : Nat) : (s.counted p).keys = s.keys := rfl
@[simp] theorem State.counted_trw (s : State) (p : Nat) : (s.counted p).trw = s.trw := rfl
@[simp] theorem State.counted_loc (s : State) (p : Nat) : (s.counted p).loc = s.loc := rfl
@[simp] theorem State.counted_twin (s : State) (p : Nat) : (s.counted p).twin = s.twin := rfl
@[simp] theorem State.counted_host (s : State) (p : Nat) : (s.counted p).host = s.host := rfl
@[simp] theorem State.counted_isl (s : State) (p : Nat) : (s.counted p).isl = s.isl := rfl
@[simp] theorem State.counted_test (s : State) (p : Nat) : (s.counted p).test = s.test := rfl
@[simp] theorem State.counted_mon (s : State) (p : Nat) : (s.counted p).mon = s.mon := rfl
@[simp] theorem State.counted_dump (s : State) (p : Nat) : (s.counted p).dump = s.dump := rfl
@[simp] theorem State.counted_tap (s : State) (p : Nat) : (s.counted p).tap = s.tap := rfl
@[simp] theorem State.counted_pins (s : State) (p : Nat) : (s.counted p).pins = s.pins := rfl

@[simp] theorem State.emit_regs (s : State) (e : Emit) : (s.emit e).regs = s.regs := rfl
@[simp] theorem State.emit_pending (s : State) (e : Emit) : (s.emit e).pending = s.pending := rfl
@[simp] theorem State.emit_boot (s : State) (e : Emit) : (s.emit e).boot = s.boot := rfl
@[simp] theorem State.emit_fuses (s : State) (e : Emit) : (s.emit e).fuses = s.fuses := rfl
@[simp] theorem State.emit_clk (s : State) (e : Emit) : (s.emit e).clk = s.clk := rfl
@[simp] theorem State.emit_marks (s : State) (e : Emit) : (s.emit e).marks = s.marks := rfl
@[simp] theorem State.emit_vault (s : State) (e : Emit) : (s.emit e).vault = s.vault := rfl
@[simp] theorem State.emit_qry (s : State) (e : Emit) : (s.emit e).qry = s.qry := rfl
@[simp] theorem State.emit_pwr (s : State) (e : Emit) : (s.emit e).pwr = s.pwr := rfl
@[simp] theorem State.emit_rtc (s : State) (e : Emit) : (s.emit e).rtc = s.rtc := rfl
@[simp] theorem State.emit_mtr (s : State) (e : Emit) : (s.emit e).mtr = s.mtr := rfl
@[simp] theorem State.emit_loads (s : State) (e : Emit) : (s.emit e).loads = s.loads := rfl
@[simp] theorem State.emit_course (s : State) (e : Emit) : (s.emit e).course = s.course := rfl
@[simp] theorem State.emit_base (s : State) (e : Emit) : (s.emit e).base = s.base := rfl
@[simp] theorem State.emit_sched (s : State) (e : Emit) : (s.emit e).sched = s.sched := rfl
@[simp] theorem State.emit_pendSched (s : State) (e : Emit) : (s.emit e).pendSched = s.pendSched := rfl
@[simp] theorem State.emit_loading (s : State) (e : Emit) : (s.emit e).loading = s.loading := rfl
@[simp] theorem State.emit_so (s : State) (e : Emit) : (s.emit e).so = s.so := rfl
@[simp] theorem State.emit_pace (s : State) (e : Emit) : (s.emit e).pace = s.pace := rfl
@[simp] theorem State.emit_lines (s : State) (e : Emit) : (s.emit e).lines = s.lines := rfl
@[simp] theorem State.emit_keys (s : State) (e : Emit) : (s.emit e).keys = s.keys := rfl
@[simp] theorem State.emit_trw (s : State) (e : Emit) : (s.emit e).trw = s.trw := rfl
@[simp] theorem State.emit_loc (s : State) (e : Emit) : (s.emit e).loc = s.loc := rfl
@[simp] theorem State.emit_twin (s : State) (e : Emit) : (s.emit e).twin = s.twin := rfl
@[simp] theorem State.emit_host (s : State) (e : Emit) : (s.emit e).host = s.host := rfl
@[simp] theorem State.emit_isl (s : State) (e : Emit) : (s.emit e).isl = s.isl := rfl
@[simp] theorem State.emit_test (s : State) (e : Emit) : (s.emit e).test = s.test := rfl
@[simp] theorem State.emit_mon (s : State) (e : Emit) : (s.emit e).mon = s.mon := rfl
@[simp] theorem State.emit_dump (s : State) (e : Emit) : (s.emit e).dump = s.dump := rfl
@[simp] theorem State.emit_tap (s : State) (e : Emit) : (s.emit e).tap = s.tap := rfl
@[simp] theorem State.emit_pins (s : State) (e : Emit) : (s.emit e).pins = s.pins := rfl

/-! ### The register file -/

/-- A key reads what was put there. -/
theorem rfFind_rfPut_same (k v : Nat) (l : List (Nat × Nat)) : rfFind k (rfPut k v l) = some v := by
  induction l with
  | nil => simp [rfPut, rfFind]
  | cons h t ih =>
    obtain ⟨k', v'⟩ := h
    unfold rfPut
    split
    · simp [rfFind]
    · split
      · simp [rfFind]
      · simp [rfFind, *]

/-- Every other key reads as before. -/
theorem rfFind_rfPut_ne {j k : Nat} (v : Nat) (l : List (Nat × Nat)) (h : j ≠ k) : rfFind j (rfPut k v l) = rfFind j l := by
  induction l with
  | nil => simp [rfPut, rfFind, Ne.symm h]
  | cons x t ih =>
    obtain ⟨k', v'⟩ := x
    unfold rfPut
    split
    · subst_vars; simp [rfFind, Ne.symm h]
    · split
      · simp [rfFind, Ne.symm h]
      · simp only [rfFind, ih]

/-- The head of a file after a put: the key put, or the old head. -/
theorem rfPut_head (k v : Nat) (l : List (Nat × Nat)) :
    ∃ x t, rfPut k v l = x :: t ∧ (x.1 = k ∨ ∃ y u, l = y :: u ∧ x.1 = y.1) := by
  cases l with
  | nil => exact ⟨(k, v), [], rfl, .inl rfl⟩
  | cons y u =>
    unfold rfPut
    split
    · exact ⟨_, _, rfl, .inl rfl⟩
    · split
      · exact ⟨_, _, rfl, .inl rfl⟩
      · exact ⟨_, _, rfl, .inr ⟨_, _, rfl, rfl⟩⟩

/-- A put keeps the keys rising. -/
theorem rfPut_wf (k v : Nat) : ∀ l, rfWf l = true → rfWf (rfPut k v l) = true
  | [], _ => rfl
  | (k', v') :: t, h => by
    unfold rfPut
    split
    · subst_vars
      cases t with
      | nil => rfl
      | cons y u => simpa [rfWf] using h
    · split
      · simp [rfWf, *]
      · have ht : rfWf t = true := by
          cases t with
          | nil => rfl
          | cons y u => simp [rfWf] at h; exact h.2
        have ih := rfPut_wf k v t ht
        obtain ⟨x, u, hx, hk⟩ := rfPut_head k v t
        rw [hx] at ih ⊢
        obtain ⟨a, b⟩ := x
        have : k' < a := by
          rcases hk with hk | ⟨y, w, rfl, hy⟩
          · simp only at hk; omega
          · simp [rfWf] at h; simp only at hy; rw [hy]; exact h.1
        simp [rfWf, this, ih]

/-- A field reads what was written to it, in its width. -/
@[simp] theorem State.get_set_same (s : State) (f : Fld) (v i : Nat) : (s.set f v i).get f i = v % 2 ^ f.width := by
  simp [State.get, State.set, rfFind_rfPut_same]

/-- A field of another key reads as before. -/
theorem State.get_set_ne (s : State) {f g : Fld} (v : Nat) {i j : Nat} (h : f.key i ≠ g.key j) :
    (s.set g v j).get f i = s.get f i := by
  simp [State.get, State.set, rfFind_rfPut_ne _ _ h]

/-- What is given out is no register. -/
@[simp] theorem State.get_emit (s : State) (e : Emit) (f : Fld) (i : Nat) : (s.emit e).get f i = s.get f i := rfl

/-- A register reads by the register file and what the start took alone. -/
theorem State.get_congr {s t : State} (hr : s.regs = t.regs) (hb : s.boot = t.boot) (f : Fld) (i : Nat) :
    s.get f i = t.get f i := by simp [State.get, hr, hb]

end Sys2Proof.Machine
end

