-- ==== Sys2Proof/Laws/Finish.lean ====
section
/-! SUPPORT. What follows a command (`State.finish`): messages touch the PBA and what is given out, and nothing else. -/

namespace Sys2Proof.Machine

/-- `t` is `s` but for the PBA and for messages given out. -/
def OnlyPba (s t : State) : Prop :=
  t = { s with regs := t.regs, out := t.out } ∧ (∀ (f : Fld) (i : Nat), f.key i ≠ F.PBA.key 0 → t.get f i = s.get f i) ∧
    ∃ sent : List Emit, t.out = sent ++ s.out ∧ ∀ e ∈ sent, ∃ v a d, e = .msix v a d

theorem OnlyPba.refl (s : State) : OnlyPba s s := ⟨rfl, fun _ _ _ => rfl, [], rfl, by simp⟩

theorem OnlyPba.trans {a b c : State} (h : OnlyPba a b) (h' : OnlyPba b c) : OnlyPba a c := by
  obtain ⟨h1, h2, s1, h3, h4⟩ := h
  obtain ⟨k1, k2, s2, k3, k4⟩ := h'
  refine ⟨by rw [k1, h1], fun f i hk => (k2 f i hk).trans (h2 f i hk), s2 ++ s1, by rw [k3, h3, List.append_assoc], ?_⟩
  intro e he
  rcases List.mem_append.1 he with he | he
  · exact k4 e he
  · exact h4 e he

theorem OnlyPba.foldl {α : Type} (f : State → α → State) (h : ∀ s a, OnlyPba s (f s a)) : ∀ l s, OnlyPba s (List.foldl f s l)
  | [], s => .refl s
  | a :: t, s => (h s a).trans (OnlyPba.foldl f h t _)

/-- Every instance of the PBA is the one register. -/
theorem pba_key (i : Nat) : F.PBA.key i = F.PBA.key 0 := by simp [Fld.key, Fld.addr, F.PBA]

theorem OnlyPba.set (s : State) (v i : Nat) : OnlyPba s (s.set F.PBA v i) :=
  ⟨rfl, fun _ _ hk => State.get_set_ne _ _ (by rwa [pba_key i]), [], rfl, by simp⟩

theorem OnlyPba.send (s : State) (v : Nat) : OnlyPba s (s.msixSend v) := by
  unfold State.msixSend
  split
  · exact .refl s
  · split
    · exact (OnlyPba.set s _ 0).trans (b := s.clrBit F.PBA v) ⟨rfl, fun _ _ _ => rfl, [_], rfl, by simp⟩
    · exact OnlyPba.set s _ 0

theorem OnlyPba.flush (s : State) : OnlyPba s s.msixFlush := by
  unfold State.msixFlush
  refine OnlyPba.foldl _ (fun s v => ?_) _ _
  split
  · exact OnlyPba.set s _ 0
  · split
    · exact OnlyPba.send _ _
    · exact .refl _

/-- The messages that follow a command change nothing but the PBA, and give out nothing else. -/
theorem OnlyPba.messages (b s : State) : OnlyPba s (State.messages b s) := by
  unfold State.messages
  split
  · exact .refl _
  · exact (OnlyPba.foldl _ (fun s v => OnlyPba.send s v) _ _).trans (OnlyPba.flush _)

/-- Every command ends in a next state, with what follows every command. -/
theorem exec_form (c : Instr) (s : State) : ∃ x, exec c s = .next (s.finish x) := by
  cases c <;> exact ⟨_, rfl⟩

/-- Where no entry is in progress a wake settles nothing. -/
theorem settleWake_steady {s : State} (h : s.steady = true) (x : State) : State.settleWake s x = x := by
  simp only [State.steady, Bool.not_eq_true'] at h
  simp [State.settleWake, h]

/-- Where nothing is frozen and the pins are free, only messages and the queue follow. -/
theorem finish_unheld {s x : State} (hs : s.steady = true) (hx : x.unheld = true) :
    s.finish x = State.messages s (State.keepQueue s x) := by
  simp only [State.unheld, Bool.and_eq_true, Bool.not_eq_true', decide_eq_true_eq] at hx
  have h2 : x.freezeMore = x := by simp [State.freezeMore, hx.1]
  have h3 : State.tapHolds s x = x := by simp [State.tapHolds, hx.2]
  simp only [State.finish, settleWake_steady hs, h2, h3]

end Sys2Proof.Machine
end

