-- ==== Sys2Proof/Laws/Memory.lean ====
section
/-! SUPPORT. Byte memories: every operation keeps the canonical form, a read gives what was last written, and other bytes
stay. -/

namespace Sys2Proof.Machine

/-- Every address of the list lies above `lo`. -/
def Above (lo : Nat) (m : List Host.Cell) : Prop := ∀ c ∈ m, lo < c.1

/-- The canonical form, cell by cell. -/
theorem Memory.wf_cons (d a : Nat) (v : Byte) (m : List Host.Cell) :
    Memory.wf d ((a, v) :: m) = true ↔ v.toNat ≠ d ∧ Above a m ∧ Memory.wf d m = true := by
  induction m generalizing a v with
  | nil => simp [Memory.wf, Above]
  | cons c t ih =>
    obtain ⟨b, w⟩ := c
    simp only [Memory.wf, Bool.and_eq_true, decide_eq_true_eq, bne_iff_ne, ne_eq]
    constructor
    · rintro ⟨⟨h1, h2⟩, h3⟩
      refine ⟨h2, ?_, h3⟩
      obtain ⟨_, h4, _⟩ := (ih b w).1 h3
      intro c hc
      rcases List.mem_cons.1 hc with rfl | hc
      · exact h1
      · exact Nat.lt_trans h1 (h4 c hc)
    · rintro ⟨h1, h2, h3⟩
      exact ⟨⟨h2 (b, w) (by simp), h1⟩, h3⟩

/-- What lies above a list's addresses is not in it. -/
theorem memGet_above {d lo a : Nat} {m : List Host.Cell} (h : Above lo m) (ha : a ≤ lo) : memGet d a m = d := by
  cases m with
  | nil => rfl
  | cons c t =>
    have := h c (by simp)
    unfold memGet
    rw [if_neg (by omega), if_pos (by omega)]

/-- A write lies above what its address and the others do. -/
theorem memPut_above {d lo a v : Nat} {m : List Host.Cell} (h : Above lo m) (ha : lo < a) : Above lo (memPut d a v m) := by
  induction m with
  | nil =>
    unfold memPut
    split <;> simp_all [Above]
  | cons c t ih =>
    obtain ⟨b, w⟩ := c
    have ht : Above lo t := fun c hc => h c (by simp [hc])
    have hb : lo < b := h (b, w) (by simp)
    have key : ∀ x : Byte, ∀ l, Above lo l → ∀ y, lo < y → Above lo ((y, x) :: l) := by
      intro x l hl y hy c hc
      rcases List.mem_cons.1 hc with rfl | hc
      · exact hy
      · exact hl c hc
    unfold memPut
    split
    · split
      · exact ht
      · exact key _ _ ht _ ha
    · split
      · split
        · exact h
        · exact key _ _ h _ ha
      · exact key _ _ (ih ht) _ hb

/-- A written byte is its value. -/
theorem byte_toNat (v : Nat) : (BitVec.ofNat 8 v).toNat = v % 256 := by simp

/-- A write keeps the canonical form. -/
theorem memPut_wf {d a v : Nat} {m : List Host.Cell} (h : Memory.wf d m = true) : Memory.wf d (memPut d a v m) = true := by
  induction m with
  | nil =>
    unfold memPut
    split
    · rfl
    · simpa [Memory.wf, byte_toNat] using ‹_›
  | cons c t ih =>
    obtain ⟨b, w⟩ := c
    obtain ⟨h1, h2, h3⟩ := (Memory.wf_cons d b w t).1 h
    unfold memPut
    split
    · rename_i e
      subst e
      split
      · exact h3
      · exact (Memory.wf_cons ..).2 ⟨by rwa [byte_toNat], h2, h3⟩
    · split
      · split
        · exact h
        · refine (Memory.wf_cons ..).2 ⟨by rwa [byte_toNat], fun c hc => ?_, h⟩
          rcases List.mem_cons.1 hc with rfl | hc
          · assumption
          · exact Nat.lt_trans ‹a < b› (h2 c hc)
      · exact (Memory.wf_cons ..).2 ⟨h1, memPut_above h2 (by omega), ih h3⟩

/-- A byte read after it was written. -/
theorem memGet_memPut_same {d a v : Nat} {m : List Host.Cell} (h : Memory.wf d m = true) :
    memGet d a (memPut d a v m) = v % 256 := by
  induction m with
  | nil =>
    unfold memPut
    split
    · simp [memGet, *]
    · simp [memGet]
  | cons c t ih =>
    obtain ⟨b, w⟩ := c
    obtain ⟨_, h2, h3⟩ := (Memory.wf_cons d b w t).1 h
    unfold memPut
    split
    · rename_i e
      subst e
      split
      · rw [memGet_above h2 (Nat.le_refl _)]; exact Eq.symm ‹_›
      · simp [memGet]
    · split
      · split
        · unfold memGet
          rw [if_neg (by omega), if_pos ‹_›]; exact Eq.symm ‹_›
        · simp [memGet]
      · unfold memGet
        rw [if_neg (by omega), if_neg (by omega)]
        exact ih h3

/-- A byte read after another was written. -/
theorem memGet_memPut_ne {d a k v : Nat} {m : List Host.Cell} (h : Memory.wf d m = true) (hk : k ≠ a) :
    memGet d k (memPut d a v m) = memGet d k m := by
  induction m with
  | nil =>
    unfold memPut
    split
    · rfl
    · unfold memGet
      rw [if_neg (by omega)]
      split <;> rfl
  | cons c t ih =>
    obtain ⟨b, w⟩ := c
    obtain ⟨_, h2, h3⟩ := (Memory.wf_cons d b w t).1 h
    unfold memPut
    split
    · rename_i e
      subst e
      have e1 : memGet d k ((b, w) :: t) = if k < b then d else memGet d k t := by
        rw [memGet, if_neg (by omega)]
      split
      · rw [e1]
        split
        · exact memGet_above h2 (by omega)
        · rfl
      · rw [e1, memGet, if_neg (by omega)]
    · split
      · split
        · rfl
        · rw [memGet, if_neg (by omega)]
          split
          · rw [memGet, if_neg (by omega), if_pos (by omega)]
          · rfl
      · rw [memGet, memGet]
        split
        · rfl
        · split
          · rfl
          · exact ih h3

/-- Bytes written keep the canonical form. -/
theorem memWrite_wf {d : Nat} : ∀ {bs : List Nat} {a : Nat} {m : List Host.Cell}, Memory.wf d m = true →
    Memory.wf d (memWrite d a bs m) = true
  | [], _, _, h => h
  | _ :: bs, _, _, h => memWrite_wf (bs := bs) (memPut_wf h)

/-- A byte outside those written stays. -/
theorem memGet_memWrite_ne {d k : Nat} : ∀ {bs : List Nat} {a : Nat} {m : List Host.Cell}, Memory.wf d m = true →
    (k < a ∨ a + bs.length ≤ k) → memGet d k (memWrite d a bs m) = memGet d k m
  | [], _, _, _, _ => rfl
  | _ :: bs, a, _, h, hk => by
    simp only [List.length_cons] at hk
    rw [memWrite, memGet_memWrite_ne (bs := bs) (memPut_wf h) (by omega), memGet_memPut_ne h (by omega)]

/-- Each byte written reads as written. -/
theorem memGet_memWrite {d : Nat} : ∀ {bs : List Nat} {a i : Nat} {m : List Host.Cell}, Memory.wf d m = true →
    (h : i < bs.length) → memGet d (a + i) (memWrite d a bs m) = bs[i] % 256
  | b :: bs, a, 0, _, h, _ => by
    rw [memWrite, memGet_memWrite_ne (bs := bs) (memPut_wf h) (by omega)]
    exact memGet_memPut_same h
  | b :: bs, a, i + 1, m, h, hi => by
    have := memGet_memWrite (bs := bs) (a := a + 1) (i := i) (memPut_wf (a := a) (v := b) h) (by simpa using hi)
    rw [memWrite, show a + (i + 1) = a + 1 + i by omega, this]
    simp

/-- Cells left out keep the canonical form of the rest. -/
theorem filter_wf {d : Nat} (p : Host.Cell → Bool) : ∀ {m : List Host.Cell}, Memory.wf d m = true → Memory.wf d (m.filter p) = true
  | [], h => h
  | (a, v) :: t, h => by
    obtain ⟨h1, h2, h3⟩ := (Memory.wf_cons d a v t).1 h
    rw [List.filter_cons]
    split
    · exact (Memory.wf_cons ..).2 ⟨h1, fun c hc => h2 c (List.mem_filter.1 hc).1, filter_wf p h3⟩
    · exact filter_wf p h3

/-- Clearing keeps the canonical form. -/
theorem memClear_wf {d lo hi : Nat} {m : List Host.Cell} (h : Memory.wf d m = true) : Memory.wf d (memClear lo hi m) = true :=
  filter_wf _ h

/-- A cleared range reads the default, and every other byte stays. -/
theorem memGet_memClear {d lo hi k : Nat} : ∀ {m : List Host.Cell}, Memory.wf d m = true →
    memGet d k (memClear lo hi m) = if lo ≤ k ∧ k < hi then d else memGet d k m
  | [], _ => by simp [memClear, memGet]
  | (a, v) :: t, h => by
    obtain ⟨_, h2, h3⟩ := (Memory.wf_cons d a v t).1 h
    have ih := memGet_memClear (lo := lo) (hi := hi) (k := k) h3
    have hab : Above a (memClear lo hi t) := fun c hc => h2 c (List.mem_filter.1 hc).1
    unfold memClear at ih hab ⊢
    rw [List.filter_cons]
    by_cases hin : (decide (a < lo) || decide (hi ≤ a)) = true
    · rw [if_pos hin]
      simp only [Bool.or_eq_true, decide_eq_true_eq] at hin
      rw [memGet, memGet, ih]
      by_cases e : a = k
      · rw [if_pos e, if_pos e, if_neg (by omega)]
      · rw [if_neg e, if_neg e]
        by_cases hk : k < a
        · rw [if_pos hk, if_pos hk]; split <;> rfl
        · rw [if_neg hk, if_neg hk]
    · rw [if_neg hin]
      simp only [Bool.or_eq_true, decide_eq_true_eq, not_or] at hin
      rw [ih]
      split
      · rfl
      · rw [memGet, if_neg (by omega)]
        split
        · exact memGet_above h2 (by omega)
        · rfl

/-- The memories at reset are in canonical form. -/
theorem reset_memOk : State.reset.memOk = true := by decide

end Sys2Proof.Machine
end

