-- ==== Sys2Proof/WellFormed.lean ====
section
/-! DEFINITION. Well-formed commands: operands that their types leave too wide, checked. The meaning of a command is defined
for every operand; a command that is not well-formed describes nothing that can happen to the node. -/

namespace Sys2Proof.Machine

/-- A byte. -/
def isByte (b : Nat) : Bool := b < 256

/-- Bits a memory word turns out to hold: the syndrome is one byte. -/
def Upset.ok : Upset → Bool
  | .none => true
  | .single s | .multi s => isByte s

/-- March facts: a bank, its own entries, cells inside a bank (2,048 rows of 64 columns of 72 slices) and one of six elements. -/
def MarchFacts.ok (f : MarchFacts) : Bool :=
  f.bank < 64 && f.badSpares.all (· < 12) && f.cells.all (fun c => c.row < 2048 && c.col < 64 && c.slice < 72) && f.element < 8

/-- LBIST at a start: one of the 33 domains, checkpoint 1 or 2 where it fails. -/
def BootTest.ok (t : BootTest) : Bool := t.domain < 33 && t.ckpt ≤ 2

/-- What a start meets: eight strap pins, four TEST_MODE pins, five fuse blocks, thirteen PLLs. -/
def StartFacts.ok (f : StartFacts) : Bool :=
  f.straps < 256 && f.testMode < 16 && f.loadErr < 32 && f.plls < 8192 && f.march.all (fun m => m.ok) && f.lbist.all (fun t => t.ok)

/-- What a register write meets: a start, and bytes of host memory. -/
def WFacts.ok (f : WFacts) : Bool := f.start.ok && f.host.all isByte

/-- Fuses: a UID of 48 bits, nine lanes, 768 repair entries. -/
def Fuses.ok (f : Fuses) : Bool :=
  f.uid < 2 ^ 48 && f.lanes < 512 && f.spent.all (fun p => p.1 < 64) && f.repairs.all (fun p => p.1 < 768 && p.2 < 2 ^ 32)

/-- A slice's facts: a lane of the nine. -/
def SliceFacts.ok (f : SliceFacts) : Bool := f.lane < 9

/-- A CAN frame: 11 or 29 bits of identifier, a DLC of four bits, at most 64 bytes. -/
def CanFrame.ok (c : CanFrame) : Bool :=
  c.id < (if c.ide then 2 ^ 29 else 2 ^ 11) && c.dlc < 16 && c.data.length ≤ 64 && c.data.all isByte

/-- Evidence: heartbeats of eight bytes. -/
def Evidence.ok : Evidence → Bool
  | .window a b _ _ => (a.map (fun x => x.length == 8 && x.all isByte)).getD true && (b.map (fun x => x.length == 8 && x.all isByte)).getD true
  | .silent slot _ => slot < 1024

end Sys2Proof.Machine

namespace Sys2Proof

/-- The command is well-formed. -/
def Instr.wellFormed : Instr → Bool
  | .registerWrite _ addr _ _ facts => addr.toNat % 4 == 0 && facts.ok
  | .heldPartWrite _ addr _ _ facts => addr.toNat % 4 == 0 && facts.ok
  | .loPartReadLatch _ addr facts => addr.toNat % 4 == 0 && facts.ok
  | .rtcNowSubRead _ facts => facts.ok
  | .softReset _ _ facts => facts.ok
  | .softResetDone _ _ facts => facts.ok
  | .pageEnable _ _ _ facts => facts.ok
  | .pageFreeze _ _ _ facts => facts.ok
  | .pageLock _ _ facts => facts.ok
  | .clampReportClear _ _ facts => facts.ok
  | .softwareReset _ facts => facts.ok
  | .resetPin _ facts => facts.ok
  | .powerOn facts fuses _ => facts.ok && fuses.ok
  | .heldTransferDelivery => true
  | .pllLockLoss _ => true
  | .pllRelock _ => true
  | .courseBoundary => true
  | .slotTransmit _ _ _ => true
  | .txContextBind _ _ => true
  | .frameReceive _ _ _ _ _ _ => true
  | .msgReassemblyTimeout => true
  | .linkAttempt _ => true
  | .linkUp _ _ _ => true
  | .linkDown _ => true
  | .spakaALinkExpiry _ => true
  | .spkCfgWrite _ _ _ facts => facts.ok
  | .pmaTestMode _ _ _ facts => facts.ok
  | .scheduleLoad _ facts => facts.ok
  | .scheduleValidationDone => true
  | .scheduleDiscard _ facts => facts.ok
  | .claimStart _ facts => facts.ok
  | .claimRelease _ facts => facts.ok
  | .couplingChange _ _ => true
  | .cabActiveChange _ => true
  | .setoutStart _ facts => facts.ok
  | .syncLoss _ => true
  | .reportRepeatTimeout => true
  | .orphanTimeout => true
  | .joinerAdoption => true
  | .keyInstall _ _ facts => facts.ok
  | .keySelect _ _ facts => facts.ok
  | .keyRoll _ facts => facts.ok
  | .keyClear _ facts => facts.ok
  | .strangerTableClear _ facts => facts.ok
  | .timingExchangeStart _ _ _ => true
  | .lineTimeSet _ facts => facts.ok
  | .lineTimeSnap _ facts => facts.ok
  | .ptpSyncTx _ => true
  | .ptpAnnounceTx _ => true
  | .ppsPulse => true
  | .lintelMapLoad _ _ => true
  | .mapCrcRefresh _ _ => true
  | .originateWindowClose _ _ => true
  | .killAssert _ _ => true
  | .killRelease => true
  | .babbleDetect _ => true
  | .ownCarrierDetect _ _ => true
  | .branchViolation _ _ _ => true
  | .branchReinstate _ => true
  | .branchCutCommand _ _ facts => facts.ok
  | .branchReinstateCommand _ _ facts => facts.ok
  | .wheelWrap => true
  | .wheelApply _ facts => facts.ok
  | .contextReclaim => true
  | .queueDoorbell _ _ _ facts => facts.ok
  | .descriptorFetch _ _ => true
  | .queueDisable _ _ facts => facts.ok
  | .imageReady _ _ facts => facts.ok
  | .ethFrameReceive _ _ _ _ _ _ => true
  | .canFrameReceive _ _ frame _ _ _ => frame.ok
  | .ethLinkChange _ _ _ _ => true
  | .ethTransmit _ => true
  | .pauseExpiry _ => true
  | .canTransmit _ _ _ => true
  | .canBusOffRecovery _ => true
  | .canRecoverCommand _ _ facts => facts.ok
  | .localPortDisable _ _ facts => facts.ok
  | .arbRoleChange _ => true
  | .arbFencedChange _ => true
  | .tieLaneLock _ _ _ => true
  | .tieLaneLoss _ _ => true
  | .tieRecordRx _ _ _ => true
  | .tieHealthRx _ => true
  | .tieAckRx _ _ => true
  | .tieCommitRx _ _ => true
  | .plumbSilentSlot _ => true
  | .arbiterEvidenceHorizon evidence => evidence.ok
  | .arbCmdFailover _ facts => facts.ok
  | .arbCmdSwap _ facts => facts.ok
  | .arbCmdRestore _ _ facts => facts.ok
  | .arbCmdOut _ _ facts => facts.ok
  | .periodicSwap => true
  | .quarryAccess _ addr _ _ found => addr.toNat % 8 == 0 && found.ok
  | .scrubPatrol found _ => found.ok
  | .bankPowerWrite _ _ _ facts => facts.ok
  | .bankClearDone _ => true
  | .fenceSet _ _ facts => facts.ok
  | .fenceClear _ _ facts => facts.ok
  | .semAcquire _ _ _ _ facts => facts.ok
  | .semRenew _ _ _ _ facts => facts.ok
  | .semRelease _ _ _ _ facts => facts.ok
  | .semLeaseExpiry _ => true
  | .semBreak _ _ facts => facts.ok
  | .marchStart _ _ _ _ facts => facts.ok
  | .marchAbort _ facts => facts.ok
  | .marchSegment => true
  | .marchDone found => found.ok
  | .spareEntryEnable _ _ _ facts => facts.ok
  | .spareCopyDone _ => true
  | .repairBurn _ _ _ facts => facts.ok
  | .laneFuse _ _ _ facts => facts.ok
  | .fuseBurnDone _ => true
  | .restLaneSliceStart => true
  | .gapSliceStart _ => true
  | .sliceEnd _ found facts => found.ok && facts.ok
  | .lbistRunStart _ => true
  | .lbistRetest _ _ facts => facts.ok
  | .lbistRelease _ _ facts => facts.ok
  | .adcResult _ _ _ _ _ _ => true
  | .measurementWindowClose _ => true
  | .gateEdge _ => true
  | .proofAgeExpiry _ => true
  | .commandTimeout _ => true
  | .settleExpiry _ => true
  | .noMainsTimeout _ => true
  | .slowTrip _ => true
  | .feedRetry _ => true
  | .retryCountClear _ => true
  | .loadLearn _ _ facts => facts.ok
  | .clearLock _ _ facts => facts.ok
  | .autozero _ _ facts => facts.ok
  | .billingEdge => true
  | .periodClose _ => true
  | .meteringStop _ facts => facts.ok
  | .meteringStart _ facts => facts.ok
  | .tallyVaultCopy => true
  | .tallyAck _ _ facts => facts.ok
  | .rtcTrim => true
  | .rtcSecondsEnd => true
  | .calendarEnd => true
  | .rtcCommit _ _ _ _ facts => facts.ok
  | .rtcPendingCommit => true
  | .rtcDiscard _ facts => facts.ok
  | .rtcCapture _ facts => facts.ok
  | .alarm => true
  | .mainValid facts _ => facts.ok
  | .mainFailure => true
  | .snapshotSaveDone facts _ => facts.ok
  | .vbatMeasure _ _ => true
  | .brownOutDetect => true
  | .crystalStopDetect _ => true
  | .markRaise _ bytes _ => decide (bytes.length ≤ 248) && bytes.length % 2 == 0
  | .markRecord => true
  | .suppressedRecord => true
  | .markMirror => true
  | .markClear _ _ facts => facts.ok
  | .hostMark _ _ _ facts => facts.ok
  | .vaultProgram _ facts => facts.ok
  | .vaultErase _ facts => facts.ok
  | .vaultAbort _ facts => facts.ok
  | .bootKey _ facts => facts.ok
  | .bootKeyWindowExpiry => true
  | .vaultProgramOpDone _ _ => true
  | .vaultErasePulseDone _ _ => true
  | .vaultRetirementDone bad _ => decide (bad ≤ 256)
  | .powerStateEnter _ target facts => target.toNat != 0 && facts.ok
  | .entryComplete _ => true
  | .hostWake _ facts => facts.ok
  | .hostWakePin => true
  | .wakeSwitch _ _ => true
  | .lineWake _ => true
  | .exitComplete _ => true
  | .sleepUnanimityReached => true
  | .networkSleepStop => true
  | .wakeFrameTx _ => true
  | .wakingEnd => true
  | .wakeConfirmExpiry => true
  | .backoffEnd => true
  | .falseWakeWindowClose => true
  | .phyFailsafe _ _ => true
  | .pcieReset _ => true
  | .pcieCompletionTimeout _ _ => true
  | .dmaStart _ _ facts => facts.ok
  | .dmaAbort _ _ facts => facts.ok
  | .dmaDone _ _ => true
  | .localBusRead addr found facts => addr.toNat % 2 == 0 && found.ok && facts.ok
  | .localBusWrite addr _ _ found facts => addr.toNat % 2 == 0 && found.ok && facts.ok
  | .spiRead frame found => decide (frame.length ≤ 4) && found.all (fun u => u.ok)
  | .spiWrite command _ found facts => command.toNat != 3 && command.toNat != 5 && found.ok && facts.ok
  | .spiStatus => true
  | .irqEoi _ _ facts => facts.ok
  | .watchdogKick _ facts => facts.ok
  | .watchdogExpiry facts => facts.ok
  | .dumpGo _ facts => facts.ok
  | .heldDumpStart => true
  | .dumpForceStop _ => true
  | .dumpImageDone latencies _ facts => facts.ok && latencies.length == 32
  | .dumpSubsetDone _ _ _ => true
  | .dumpClear _ facts => facts.ok
  | .dumpVaultClear _ _ facts => facts.ok
  | .thermalAlert _ => true
  | .tapReset => true
  | .tapBypass => true
  | .tapIdcode => true
  | .tapSamplePreload _ _ => true
  | .tapExtest => true
  | .tapClamp => true
  | .tapHighz => true
  | .pcieLinkUp speed width => speed.toNat != 0 && width.toNat != 0 && width.toNat != 3
  | .perstNRelease => true
  | .pcieConfigWrite _ _ _ _ => true
  | .bar4WindowAccess _ addr found => addr.toNat % 4 == 0 && found.ok

end Sys2Proof
end

