-- ==== Sys2Proof/Laws/PerInstr.lean ====
section
/-! SUPPORT. What holds of each command as syntax, command by command. -/

open Sys2Proof.Machine

namespace Sys2Proof.Laws.Shape

/-- No word of any length spells the command: the table gives its rows no bits. -/
def Statement (i : Instr) : Prop := ∀ nbits w : Nat, decodeTableWord nbits w ≠ some i

/-- No word spells any command. -/
theorem unspelled (i : Instr) : Statement i := fun _ _ h => nomatch h

theorem registerWrite (ifc : Ifc) (addr : BitVec 18) (value : Reg) (be : BitVec 4) (facts : WFacts) :
    Statement (.registerWrite ifc addr value be facts) := unspelled _
theorem heldPartWrite (ifc : Ifc) (addr : BitVec 18) (value : Reg) (be : BitVec 4) (facts : WFacts) :
    Statement (.heldPartWrite ifc addr value be facts) := unspelled _
theorem loPartReadLatch (ifc : Ifc) (addr : BitVec 18) (facts : WFacts) :
    Statement (.loPartReadLatch ifc addr facts) := unspelled _
theorem rtcNowSubRead (ifc : Ifc) (facts : WFacts) : Statement (.rtcNowSubRead ifc facts) := unspelled _
theorem softReset (ifc : Ifc) (page : Page) (facts : WFacts) : Statement (.softReset ifc page facts) := unspelled _
theorem softResetDone (page : Page) (took : Nat) (facts : WFacts) : Statement (.softResetDone page took facts) := unspelled _
theorem pageEnable (ifc : Ifc) (page : Page) (on : Bool) (facts : WFacts) :
    Statement (.pageEnable ifc page on facts) := unspelled _
theorem pageFreeze (ifc : Ifc) (page : Page) (on : Bool) (facts : WFacts) :
    Statement (.pageFreeze ifc page on facts) := unspelled _
theorem pageLock (ifc : Ifc) (page : Page) (facts : WFacts) : Statement (.pageLock ifc page facts) := unspelled _
theorem clampReportClear (ifc : Ifc) (page : Page) (facts : WFacts) : Statement (.clampReportClear ifc page facts) := unspelled _
theorem softwareReset (ifc : Ifc) (facts : WFacts) : Statement (.softwareReset ifc facts) := unspelled _
theorem resetPin (low : Nat) (facts : StartFacts) : Statement (.resetPin low facts) := unspelled _
theorem powerOn (facts : StartFacts) (fuses : Fuses) (canary : Reg) : Statement (.powerOn facts fuses canary) := unspelled _
theorem heldTransferDelivery : Statement (.heldTransferDelivery) := unspelled _
theorem pllLockLoss (pll : Fin 13) : Statement (.pllLockLoss pll) := unspelled _
theorem pllRelock (pll : Fin 13) : Statement (.pllRelock pll) := unspelled _
theorem courseBoundary : Statement (.courseBoundary) := unspelled _
theorem slotTransmit (slot : Fin 1024) (rival : Option (BitVec 48)) (coll : BitVec 8) :
    Statement (.slotTransmit slot rival coll) := unspelled _
theorem txContextBind (slot : Fin 1024) (held : Bool) : Statement (.txContextBind slot held) := unspelled _
theorem frameReceive (port : Port) (stamp : DWord) (words : Frame) (short : Bool) (desc : List Byte) (phy : RxPhy) :
    Statement (.frameReceive port stamp words short desc phy) := unspelled _
theorem msgReassemblyTimeout : Statement (.msgReassemblyTimeout) := unspelled _
theorem linkAttempt (port : Port) : Statement (.linkAttempt port) := unspelled _
theorem linkUp (port : Port) (gen : BitVec 2) (master : Bool) : Statement (.linkUp port gen master) := unspelled _
theorem linkDown (port : Port) : Statement (.linkDown port) := unspelled _
theorem spakaALinkExpiry (port : Port) : Statement (.spakaALinkExpiry port) := unspelled _
theorem spkCfgWrite (ifc : Ifc) (port : Port) (value : Reg) (facts : WFacts) :
    Statement (.spkCfgWrite ifc port value facts) := unspelled _
theorem pmaTestMode (ifc : Ifc) (port : Port) (mode : BitVec 4) (facts : WFacts) :
    Statement (.pmaTestMode ifc port mode facts) := unspelled _
theorem scheduleLoad (ifc : Ifc) (facts : WFacts) : Statement (.scheduleLoad ifc facts) := unspelled _
theorem scheduleValidationDone : Statement (.scheduleValidationDone) := unspelled _
theorem scheduleDiscard (ifc : Ifc) (facts : WFacts) : Statement (.scheduleDiscard ifc facts) := unspelled _
theorem claimStart (ifc : Ifc) (facts : WFacts) : Statement (.claimStart ifc facts) := unspelled _
theorem claimRelease (ifc : Ifc) (facts : WFacts) : Statement (.claimRelease ifc facts) := unspelled _
theorem couplingChange (port : Fin 2) (level : Bool) : Statement (.couplingChange port level) := unspelled _
theorem cabActiveChange (level : Bool) : Statement (.cabActiveChange level) := unspelled _
theorem setoutStart (ifc : Ifc) (facts : WFacts) : Statement (.setoutStart ifc facts) := unspelled _
theorem syncLoss (beyond : Bool) : Statement (.syncLoss beyond) := unspelled _
theorem reportRepeatTimeout : Statement (.reportRepeatTimeout) := unspelled _
theorem orphanTimeout : Statement (.orphanTimeout) := unspelled _
theorem joinerAdoption : Statement (.joinerAdoption) := unspelled _
theorem keyInstall (ifc : Ifc) (high : Reg) (facts : WFacts) : Statement (.keyInstall ifc high facts) := unspelled _
theorem keySelect (ifc : Ifc) (slot : BitVec 2) (facts : WFacts) : Statement (.keySelect ifc slot facts) := unspelled _
theorem keyRoll (ifc : Ifc) (facts : WFacts) : Statement (.keyRoll ifc facts) := unspelled _
theorem keyClear (ifc : Ifc) (facts : WFacts) : Statement (.keyClear ifc facts) := unspelled _
theorem strangerTableClear (ifc : Ifc) (facts : WFacts) : Statement (.strangerTableClear ifc facts) := unspelled _
theorem timingExchangeStart (port : Port) (dst : BitVec 6) (turn : TimingTurn) :
    Statement (.timingExchangeStart port dst turn) := unspelled _
theorem lineTimeSet (ifc : Ifc) (facts : WFacts) : Statement (.lineTimeSet ifc facts) := unspelled _
theorem lineTimeSnap (ifc : Ifc) (facts : WFacts) : Statement (.lineTimeSnap ifc facts) := unspelled _
theorem ptpSyncTx (port : Port) : Statement (.ptpSyncTx port) := unspelled _
theorem ptpAnnounceTx (port : Port) : Statement (.ptpAnnounceTx port) := unspelled _
theorem ppsPulse : Statement (.ppsPulse) := unspelled _
theorem lintelMapLoad (port : Port) (agree : Bool) : Statement (.lintelMapLoad port agree) := unspelled _
theorem mapCrcRefresh (port : Port) (agree : Bool) : Statement (.mapCrcRefresh port agree) := unspelled _
theorem originateWindowClose (port : Port) (slot : Fin 1024) : Statement (.originateWindowClose port slot) := unspelled _
theorem killAssert (low : Nat) (taken : Bool) : Statement (.killAssert low taken) := unspelled _
theorem killRelease : Statement (.killRelease) := unspelled _
theorem babbleDetect (port : Port) : Statement (.babbleDetect port) := unspelled _
theorem ownCarrierDetect (port : Port) (slot : Fin 1024) : Statement (.ownCarrierDetect port slot) := unspelled _
theorem branchViolation (port : Port) (slot : Fin 1024) (src : BitVec 6) :
    Statement (.branchViolation port slot src) := unspelled _
theorem branchReinstate (port : Port) : Statement (.branchReinstate port) := unspelled _
theorem branchCutCommand (ifc : Ifc) (mask : BitVec 8) (facts : WFacts) :
    Statement (.branchCutCommand ifc mask facts) := unspelled _
theorem branchReinstateCommand (ifc : Ifc) (mask : BitVec 8) (facts : WFacts) :
    Statement (.branchReinstateCommand ifc mask facts) := unspelled _
theorem wheelWrap : Statement (.wheelWrap) := unspelled _
theorem wheelApply (ifc : Ifc) (facts : WFacts) : Statement (.wheelApply ifc facts) := unspelled _
theorem contextReclaim : Statement (.contextReclaim) := unspelled _
theorem queueDoorbell (ifc : Ifc) (queue : Fin 128) (tail : Word) (facts : WFacts) :
    Statement (.queueDoorbell ifc queue tail facts) := unspelled _
theorem descriptorFetch (queue : Fin 128) (host : List Byte) : Statement (.descriptorFetch queue host) := unspelled _
theorem queueDisable (ifc : Ifc) (queue : Fin 128) (facts : WFacts) : Statement (.queueDisable ifc queue facts) := unspelled _
theorem imageReady (ifc : Ifc) (course : Reg) (facts : WFacts) : Statement (.imageReady ifc course facts) := unspelled _
theorem ethFrameReceive (port : Port) (stamp : DWord) (frame : List Byte) (code short : Bool) (desc : List Byte) :
    Statement (.ethFrameReceive port stamp frame code short desc) := unspelled _
theorem canFrameReceive (port : CanPort) (stamp : DWord) (frame : CanFrame) (rx : CanRx) (short : Bool) (desc : List Byte) :
    Statement (.canFrameReceive port stamp frame rx short desc) := unspelled _
theorem ethLinkChange (port : Port) (los : Bool) (sync : Bool) (an : Bool) :
    Statement (.ethLinkChange port los sync an) := unspelled _
theorem ethTransmit (port : Port) : Statement (.ethTransmit port) := unspelled _
theorem pauseExpiry (port : Port) : Statement (.pauseExpiry port) := unspelled _
theorem canTransmit (port : CanPort) (stamp : DWord) (ending : CanEnd) :
    Statement (.canTransmit port stamp ending) := unspelled _
theorem canBusOffRecovery (port : CanPort) : Statement (.canBusOffRecovery port) := unspelled _
theorem canRecoverCommand (ifc : Ifc) (port : CanPort) (facts : WFacts) :
    Statement (.canRecoverCommand ifc port facts) := unspelled _
theorem localPortDisable (ifc : Ifc) (port : Fin 12) (facts : WFacts) :
    Statement (.localPortDisable ifc port facts) := unspelled _
theorem arbRoleChange (level : BitVec 2) : Statement (.arbRoleChange level) := unspelled _
theorem arbFencedChange (level : Bool) : Statement (.arbFencedChange level) := unspelled _
theorem tieLaneLock (lane : Fin 2) (aligned : Bool) (skew : BitVec 8) : Statement (.tieLaneLock lane aligned skew) := unspelled _
theorem tieLaneLoss (lane : Fin 2) (bad : Nat) : Statement (.tieLaneLoss lane bad) := unspelled _
theorem tieRecordRx (bytes : List Byte) (start : DWord) (stop : DWord) : Statement (.tieRecordRx bytes start stop) := unspelled _
theorem tieHealthRx (bytes : List Byte) : Statement (.tieHealthRx bytes) := unspelled _
theorem tieAckRx (bytes : List Byte) (stamp : DWord) : Statement (.tieAckRx bytes stamp) := unspelled _
theorem tieCommitRx (bytes : List Byte) (stamp : DWord) : Statement (.tieCommitRx bytes stamp) := unspelled _
theorem plumbSilentSlot (slot : Fin 1024) : Statement (.plumbSilentSlot slot) := unspelled _
theorem arbiterEvidenceHorizon (evidence : Evidence) : Statement (.arbiterEvidenceHorizon evidence) := unspelled _
theorem arbCmdFailover (ifc : Ifc) (facts : WFacts) : Statement (.arbCmdFailover ifc facts) := unspelled _
theorem arbCmdSwap (ifc : Ifc) (facts : WFacts) : Statement (.arbCmdSwap ifc facts) := unspelled _
theorem arbCmdRestore (ifc : Ifc) (mask : BitVec 2) (facts : WFacts) : Statement (.arbCmdRestore ifc mask facts) := unspelled _
theorem arbCmdOut (ifc : Ifc) (mask : BitVec 2) (facts : WFacts) : Statement (.arbCmdOut ifc mask facts) := unspelled _
theorem periodicSwap : Statement (.periodicSwap) := unspelled _
theorem quarryAccess (master : Master) (addr : BitVec 26) (be : BitVec 8) (data : Option DWord) (found : Upset) :
    Statement (.quarryAccess master addr be data found) := unspelled _
theorem scrubPatrol (found : Upset) (hard : Bool) : Statement (.scrubPatrol found hard) := unspelled _
theorem bankPowerWrite (ifc : Ifc) (index : Fin 4) (value : Reg) (facts : WFacts) :
    Statement (.bankPowerWrite ifc index value facts) := unspelled _
theorem bankClearDone (bank : Bank) : Statement (.bankClearDone bank) := unspelled _
theorem fenceSet (ifc : Ifc) (mask : Word) (facts : WFacts) : Statement (.fenceSet ifc mask facts) := unspelled _
theorem fenceClear (ifc : Ifc) (mask : Word) (facts : WFacts) : Statement (.fenceClear ifc mask facts) := unspelled _
theorem semAcquire (ifc : Ifc) (index : Fin 64) (tag : Word) (lease : BitVec 8) (facts : WFacts) :
    Statement (.semAcquire ifc index tag lease facts) := unspelled _
theorem semRenew (ifc : Ifc) (index : Fin 64) (tag : Word) (lease : BitVec 8) (facts : WFacts) :
    Statement (.semRenew ifc index tag lease facts) := unspelled _
theorem semRelease (ifc : Ifc) (index : Fin 64) (tag : Word) (lease : BitVec 8) (facts : WFacts) :
    Statement (.semRelease ifc index tag lease facts) := unspelled _
theorem semLeaseExpiry (index : Fin 64) : Statement (.semLeaseExpiry index) := unspelled _
theorem semBreak (ifc : Ifc) (mask : Word) (facts : WFacts) : Statement (.semBreak ifc mask facts) := unspelled _
theorem marchStart (ifc : Ifc) (bank : Bank) (mode : Bool) (full : Bool) (facts : WFacts) :
    Statement (.marchStart ifc bank mode full facts) := unspelled _
theorem marchAbort (ifc : Ifc) (facts : WFacts) : Statement (.marchAbort ifc facts) := unspelled _
theorem marchSegment : Statement (.marchSegment) := unspelled _
theorem marchDone (found : MarchFacts) : Statement (.marchDone found) := unspelled _
theorem spareEntryEnable (ifc : Ifc) (entry : Fin 768) (value : Reg) (facts : WFacts) :
    Statement (.spareEntryEnable ifc entry value facts) := unspelled _
theorem spareCopyDone (entry : Fin 768) : Statement (.spareCopyDone entry) := unspelled _
theorem repairBurn (ifc : Ifc) (vfuse : Nat) (tj : Int) (facts : WFacts) :
    Statement (.repairBurn ifc vfuse tj facts) := unspelled _
theorem laneFuse (ifc : Ifc) (vfuse : Nat) (tj : Int) (facts : WFacts) : Statement (.laneFuse ifc vfuse tj facts) := unspelled _
theorem fuseBurnDone (verified : List Bool) : Statement (.fuseBurnDone verified) := unspelled _
theorem restLaneSliceStart : Statement (.restLaneSliceStart) := unspelled _
theorem gapSliceStart (tie : Bool) : Statement (.gapSliceStart tie) := unspelled _
theorem sliceEnd (domain : Fin 33) (found : SliceFacts) (facts : WFacts) :
    Statement (.sliceEnd domain found facts) := unspelled _
theorem lbistRunStart (domain : Fin 33) : Statement (.lbistRunStart domain) := unspelled _
theorem lbistRetest (ifc : Ifc) (domain : Fin 33) (facts : WFacts) : Statement (.lbistRetest ifc domain facts) := unspelled _
theorem lbistRelease (ifc : Ifc) (domain : Fin 33) (facts : WFacts) : Statement (.lbistRelease ifc domain facts) := unspelled _
theorem adcResult (chan : Chan) (stamp : DWord) (len : Nat) (codeI : Word) (codeV : Word) (held : Bool) :
    Statement (.adcResult chan stamp len codeI codeV held) := unspelled _
theorem measurementWindowClose (chan : Chan) : Statement (.measurementWindowClose chan) := unspelled _
theorem gateEdge (chan : Chan) : Statement (.gateEdge chan) := unspelled _
theorem proofAgeExpiry (chan : Chan) : Statement (.proofAgeExpiry chan) := unspelled _
theorem commandTimeout (chan : Chan) : Statement (.commandTimeout chan) := unspelled _
theorem settleExpiry (chan : Chan) : Statement (.settleExpiry chan) := unspelled _
theorem noMainsTimeout (chan : Chan) : Statement (.noMainsTimeout chan) := unspelled _
theorem slowTrip (chan : Chan) : Statement (.slowTrip chan) := unspelled _
theorem feedRetry (chan : Chan) : Statement (.feedRetry chan) := unspelled _
theorem retryCountClear (chan : Chan) : Statement (.retryCountClear chan) := unspelled _
theorem loadLearn (ifc : Ifc) (chan : Chan) (facts : WFacts) : Statement (.loadLearn ifc chan facts) := unspelled _
theorem clearLock (ifc : Ifc) (chan : Chan) (facts : WFacts) : Statement (.clearLock ifc chan facts) := unspelled _
theorem autozero (ifc : Ifc) (pair : Chan) (facts : WFacts) : Statement (.autozero ifc pair facts) := unspelled _
theorem billingEdge : Statement (.billingEdge) := unspelled _
theorem periodClose (slice : Bool) : Statement (.periodClose slice) := unspelled _
theorem meteringStop (ifc : Ifc) (facts : WFacts) : Statement (.meteringStop ifc facts) := unspelled _
theorem meteringStart (ifc : Ifc) (facts : WFacts) : Statement (.meteringStart ifc facts) := unspelled _
theorem tallyVaultCopy : Statement (.tallyVaultCopy) := unspelled _
theorem tallyAck (ifc : Ifc) (index : Reg) (facts : WFacts) : Statement (.tallyAck ifc index facts) := unspelled _
theorem rtcTrim : Statement (.rtcTrim) := unspelled _
theorem rtcSecondsEnd : Statement (.rtcSecondsEnd) := unspelled _
theorem calendarEnd : Statement (.calendarEnd) := unspelled _
theorem rtcCommit (ifc : Ifc) (force : Bool) (form : Bool) (atCourse : Bool) (facts : WFacts) :
    Statement (.rtcCommit ifc force form atCourse facts) := unspelled _
theorem rtcPendingCommit : Statement (.rtcPendingCommit) := unspelled _
theorem rtcDiscard (ifc : Ifc) (facts : WFacts) : Statement (.rtcDiscard ifc facts) := unspelled _
theorem rtcCapture (ifc : Ifc) (facts : WFacts) : Statement (.rtcCapture ifc facts) := unspelled _
theorem alarm : Statement (.alarm) := unspelled _
theorem mainValid (facts : StartFacts) (canary : Reg) : Statement (.mainValid facts canary) := unspelled _
theorem mainFailure : Statement (.mainFailure) := unspelled _
theorem snapshotSaveDone (facts : StartFacts) (canary : Reg) : Statement (.snapshotSaveDone facts canary) := unspelled _
theorem vbatMeasure (mv : BitVec 16) (vao : BitVec 16) : Statement (.vbatMeasure mv vao) := unspelled _
theorem brownOutDetect : Statement (.brownOutDetect) := unspelled _
theorem crystalStopDetect (resumes : Bool) : Statement (.crystalStopDetect resumes) := unspelled _
theorem markRaise (code : BitVec 12) (bytes : List Byte) (deferred : Bool) :
    Statement (.markRaise code bytes deferred) := unspelled _
theorem markRecord : Statement (.markRecord) := unspelled _
theorem suppressedRecord : Statement (.suppressedRecord) := unspelled _
theorem markMirror : Statement (.markMirror) := unspelled _
theorem markClear (ifc : Ifc) (part : BitVec 2) (facts : WFacts) : Statement (.markClear ifc part facts) := unspelled _
theorem hostMark (ifc : Ifc) (code : BitVec 12) (len : BitVec 5) (facts : WFacts) :
    Statement (.hostMark ifc code len facts) := unspelled _
theorem vaultProgram (ifc : Ifc) (facts : WFacts) : Statement (.vaultProgram ifc facts) := unspelled _
theorem vaultErase (ifc : Ifc) (facts : WFacts) : Statement (.vaultErase ifc facts) := unspelled _
theorem vaultAbort (ifc : Ifc) (facts : WFacts) : Statement (.vaultAbort ifc facts) := unspelled _
theorem bootKey (ifc : Ifc) (facts : WFacts) : Statement (.bootKey ifc facts) := unspelled _
theorem bootKeyWindowExpiry : Statement (.bootKeyWindowExpiry) := unspelled _
theorem vaultProgramOpDone (pulses : Nat) (verify : Verify) : Statement (.vaultProgramOpDone pulses verify) := unspelled _
theorem vaultErasePulseDone (tj : Int) (erased : Bool) : Statement (.vaultErasePulseDone tj erased) := unspelled _
theorem vaultRetirementDone (bad : Nat) (ue : Nat) : Statement (.vaultRetirementDone bad ue) := unspelled _
theorem powerStateEnter (ifc : Ifc) (target : BitVec 3) (facts : WFacts) :
    Statement (.powerStateEnter ifc target facts) := unspelled _
theorem entryComplete (took : Nat) : Statement (.entryComplete took) := unspelled _
theorem hostWake (ifc : Ifc) (facts : WFacts) : Statement (.hostWake ifc facts) := unspelled _
theorem hostWakePin : Statement (.hostWakePin) := unspelled _
theorem wakeSwitch (switch : Fin 4) (level : Bool) : Statement (.wakeSwitch switch level) := unspelled _
theorem lineWake (port : Port) : Statement (.lineWake port) := unspelled _
theorem exitComplete (took : Nat) : Statement (.exitComplete took) := unspelled _
theorem sleepUnanimityReached : Statement (.sleepUnanimityReached) := unspelled _
theorem networkSleepStop : Statement (.networkSleepStop) := unspelled _
theorem wakeFrameTx (port : Port) : Statement (.wakeFrameTx port) := unspelled _
theorem wakingEnd : Statement (.wakingEnd) := unspelled _
theorem wakeConfirmExpiry : Statement (.wakeConfirmExpiry) := unspelled _
theorem backoffEnd : Statement (.backoffEnd) := unspelled _
theorem falseWakeWindowClose : Statement (.falseWakeWindowClose) := unspelled _
theorem phyFailsafe (port : Port) (ack : Bool) : Statement (.phyFailsafe port ack) := unspelled _
theorem pcieReset (kind : BitVec 2) : Statement (.pcieReset kind) := unspelled _
theorem pcieCompletionTimeout (dma : Bool) (index : Fin 64) : Statement (.pcieCompletionTimeout dma index) := unspelled _
theorem dmaStart (ifc : Ifc) (channel : Fin 4) (facts : WFacts) : Statement (.dmaStart ifc channel facts) := unspelled _
theorem dmaAbort (ifc : Ifc) (channel : Fin 4) (facts : WFacts) : Statement (.dmaAbort ifc channel facts) := unspelled _
theorem dmaDone (channel : Fin 4) (host : List Byte) : Statement (.dmaDone channel host) := unspelled _
theorem localBusRead (addr : BitVec 21) (found : Upset) (facts : WFacts) :
    Statement (.localBusRead addr found facts) := unspelled _
theorem localBusWrite (addr : BitVec 21) (data : Word) (be : BitVec 2) (found : Upset) (facts : WFacts) :
    Statement (.localBusWrite addr data be found facts) := unspelled _
theorem spiRead (frame : List Byte) (found : List Upset) : Statement (.spiRead frame found) := unspelled _
theorem spiWrite (command : Byte) (frame : List Byte) (found : Upset) (facts : WFacts) :
    Statement (.spiWrite command frame found facts) := unspelled _
theorem spiStatus : Statement (.spiStatus) := unspelled _
theorem irqEoi (ifc : Ifc) (mask : Reg) (facts : WFacts) : Statement (.irqEoi ifc mask facts) := unspelled _
theorem watchdogKick (ifc : Ifc) (facts : WFacts) : Statement (.watchdogKick ifc facts) := unspelled _
theorem watchdogExpiry (facts : StartFacts) : Statement (.watchdogExpiry facts) := unspelled _
theorem dumpGo (ifc : Ifc) (facts : WFacts) : Statement (.dumpGo ifc facts) := unspelled _
theorem heldDumpStart : Statement (.heldDumpStart) := unspelled _
theorem dumpForceStop (islands : Reg) : Statement (.dumpForceStop islands) := unspelled _
theorem dumpImageDone (latencies : List Word) (took : Nat) (facts : StartFacts) :
    Statement (.dumpImageDone latencies took facts) := unspelled _
theorem dumpSubsetDone (good : Nat) (hot : Bool) (took : Nat) : Statement (.dumpSubsetDone good hot took) := unspelled _
theorem dumpClear (ifc : Ifc) (facts : WFacts) : Statement (.dumpClear ifc facts) := unspelled _
theorem dumpVaultClear (ifc : Ifc) (mask : BitVec 4) (facts : WFacts) : Statement (.dumpVaultClear ifc mask facts) := unspelled _
theorem thermalAlert (tj : Int) : Statement (.thermalAlert tj) := unspelled _
theorem tapReset : Statement (.tapReset) := unspelled _
theorem tapBypass : Statement (.tapBypass) := unspelled _
theorem tapIdcode : Statement (.tapIdcode) := unspelled _
theorem tapSamplePreload (pins : Nat) (shifted : Option Nat) : Statement (.tapSamplePreload pins shifted) := unspelled _
theorem tapExtest : Statement (.tapExtest) := unspelled _
theorem tapClamp : Statement (.tapClamp) := unspelled _
theorem tapHighz : Statement (.tapHighz) := unspelled _
theorem pcieLinkUp (speed : BitVec 2) (width : BitVec 2) : Statement (.pcieLinkUp speed width) := unspelled _
theorem perstNRelease : Statement (.perstNRelease) := unspelled _
theorem pcieConfigWrite (bme : Bool) (msix : Bool) (fmask : Bool) (d3hot : Bool) :
    Statement (.pcieConfigWrite bme msix fmask d3hot) := unspelled _
theorem bar4WindowAccess (write : Bool) (addr : BitVec 23) (found : Upset) :
    Statement (.bar4WindowAccess write addr found) := unspelled _

end Sys2Proof.Laws.Shape
end

