-- ==== Sys2Proof/Laws/Write.lean ====
section
/-! SUPPORT. What a write of one register comes to, once the page takes it: the checks, the fields, the counter, the effect. -/

namespace Sys2Proof.Machine

/-- A register that is a value of its own, and no key, semaphore, window limit, wheel command or part of the staging calendar. -/
def loneReg (a : Nat) (r : Row) : Bool :=
  (writeGroup a).isEmpty && a != 0x15114 && a != 0x5118 && a != 0x3212C && a != 0x18148 && !(staging a) &&
    !(r.fields.any (fun d => d.fld == F.QRY_SEMN_OP)) && !(r.fields.all (fun d => d.acc == .ro))

/-- No parts dropped. -/
@[simp] theorem State.dropParts_nil (s : State) (m : Nat) : s.dropParts m [] = s := by
  have h : s.host.parts.filter (fun p => !(p.1 == m && ([] : List Nat).contains p.2.1)) = s.host.parts := by simp
  unfold State.dropParts
  rw [h]

/-- A write that is taken goes to the page as it is. -/
theorem State.regWrite_takes {s : State} {i : Ifc} {a v be : Nat} {facts : WFacts} (h : s.takes i a = true) (ha : a % 4 = 0) :
    s.regWrite i a v be facts = s.applyWrite i.id a (v % 2 ^ 32) (be % 16) facts := by
  simp only [State.takes, State.ifcTakes, State.pageTakes, Bool.and_eq_true, Bool.or_eq_true, Bool.not_eq_true', bne_iff_ne, ne_eq,
    decide_eq_true_eq, beq_iff_eq] at h
  obtain ⟨⟨⟨h1, h2⟩, h3⟩, ⟨⟨⟨⟨⟨h4, h5⟩, h6⟩, h7⟩, h8⟩, h9⟩, h10⟩ := h
  have hf : s.lbFlush facts = s ∨ i ≠ .lb := by
    rcases h3 with h3 | h3
    · exact .inr h3
    · left; unfold State.lbFlush; cases hq : s.host.lbLow <;> simp_all
  have e : a / 4 * 4 = a := by omega
  have hs : (if i = .lb then s.lbFlush facts else s) = s := by
    rcases hf with hf | hf
    · split <;> first | exact hf | rfl
    · simp [hf]
  unfold State.regWrite
  simp only [h1, h2, Bool.not_true, Bool.or_false, Bool.false_eq_true, if_false, hs, e]
  unfold State.hostWrite
  have h5' : decide (64 ≤ a / 4096) = false := by simp; omega
  have h7' : (!(s.on F.TOP_READY_READY) && !(beforeReady (a / 4096))) = false := by rcases h7 with h7 | h7 <;> simp [h7]
  have h8' : (s.islandFenced (regIsland (a / 4096) (a % 4096)) && a % 4096 != 0x10 && a % 4096 != 0x14) = false := by
    rcases h8 with (h8 | h8) | h8 <;> simp [h8]
  simp only [h4, h5', h6, h7', h8', h9, h10, Bool.or_false, Bool.false_eq_true, if_false]

/-- A write of a lone register whose check finds nothing to correct: its fields are written, dependent fields judged again, the
write counted, and then its effect. -/
theorem State.applyWrite_lone {s : State} {m a v be w : Nat} {facts : WFacts} {r : Row} {vals : List (Nat × Nat)}
    (hr : rowAt (a / 0x1000) (a % 0x1000) = some r) (hl : loneReg a r = true) (hw : s.merged a v be r = w)
    (hc : s.checkFields m a w r = (vals, [])) (hs : reservedSet a w r = false) :
    s.applyWrite m a v be facts =
      ((s.putFields a r vals).recheckAll m a |>.counted (a / 0x1000)).effect s m ⟨a, r, w, vals, [], false⟩ facts := by
  simp only [loneReg, Bool.and_eq_true, bne_iff_ne, ne_eq, Bool.not_eq_true', List.isEmpty_iff] at hl
  obtain ⟨⟨⟨⟨⟨⟨⟨hg, h1⟩, h2⟩, h3⟩, h7⟩, h4⟩, h5⟩, h6⟩ := hl
  have h4' : ∀ q : Part, q.addr = a → q.events = [] → ∀ (t : State), t.rtcReports q false = t := by
    intro q hq he t
    simp [State.rtcReports, hq, h4, h3]
  have h7' : ∀ q : Part, q.addr = a → ∀ (t : State), t.wheelReports q = t := by
    intro q hq t
    simp [State.wheelReports, hq, h7]
  have h5' : (r.fields.any fun d => d.fld == F.QRY_SEMN_OP) = false := h5
  have hp : s.writePart m a w r = (⟨a, r, w, vals, [], false⟩, s.putFields a r vals) := by
    simp only [State.writePart, hc, h5', hs, Bool.false_eq_true, if_false]
  have hall : (r.fields.all fun d => d.acc == .ro) = false := h6
  simp only [State.applyWrite, hr, hall, hg, hw, List.filter_nil, List.filterMap_nil, List.nil_append, List.foldl_cons, List.foldl_nil,
    hp, List.isEmpty_nil, Bool.not_true, Bool.false_and, Bool.false_eq_true, if_false, h2, List.getLast?_singleton,
    State.reportFields, State.reportReserved, List.any_cons, List.any_nil, Bool.or_false, h1]
  rw [h7' _ rfl, h4' _ rfl rfl, State.dropParts_nil]
  rfl

/-- The four bytes of a word make it up. -/
theorem bytes_sum {v : Nat} (hv : v < 256 ^ 4) : v / 256 ^ 0 % 256 * 256 ^ 0 + (v / 256 ^ 1 % 256 * 256 ^ 1 +
    (v / 256 ^ 2 % 256 * 256 ^ 2 + v / 256 ^ 3 % 256 * 256 ^ 3)) = v := by
  have h1 : v / 256 ^ 2 = v / 256 / 256 := (Nat.div_div_eq_div_mul v 256 256).symm
  have h2 : v / 256 ^ 3 = v / 256 / 256 / 256 :=
    ((Nat.div_div_eq_div_mul (v / 256) 256 256).trans (Nat.div_div_eq_div_mul v 256 (256 * 256))).symm
  rw [h1, h2]
  omega

/-- A word has no bytes above its fourth. -/
theorem high_zero {old : Nat} (ho : old < 2 ^ 32) {k : Nat} (hk : 4 ≤ k) : old / 256 ^ k % 256 * 256 ^ k = 0 := by
  have : old < 256 ^ k := Nat.lt_of_lt_of_le ho (by
    calc 2 ^ 32 = 256 ^ 4 := by decide
      _ ≤ 256 ^ k := Nat.pow_le_pow_right (by decide) hk)
  rw [Nat.div_eq_of_lt this, Nat.zero_mod, Nat.zero_mul]

/-- Full byte enables give the value written. -/
theorem mergeBytes_full {old v : Nat} (ho : old < 2 ^ 32) (hv : v < 2 ^ 32) : mergeBytes old v 15 = v := by
  have hr : List.range 8 = [0, 1, 2, 3, 4, 5, 6, 7] := rfl
  have hb : ∀ i, i < 4 → bit 15 i = true := by decide
  have hb' : ∀ i, i < 8 → 4 ≤ i → bit 15 i = false := by decide
  unfold mergeBytes
  rw [hr, List.map_cons, List.map_cons, List.map_cons, List.map_cons, List.map_cons, List.map_cons, List.map_cons, List.map_cons,
    List.map_nil, List.sum_cons, List.sum_cons, List.sum_cons, List.sum_cons, List.sum_cons, List.sum_cons, List.sum_cons,
    List.sum_cons, List.sum_nil]
  rw [hb 0 (by decide), hb 1 (by decide), hb 2 (by decide), hb 3 (by decide), hb' 4 (by decide) (by decide),
    hb' 5 (by decide) (by decide), hb' 6 (by decide) (by decide), hb' 7 (by decide) (by decide)]
  rw [if_pos rfl, if_pos rfl, if_pos rfl, if_pos rfl, if_neg Bool.false_ne_true, if_neg Bool.false_ne_true,
    if_neg Bool.false_ne_true, if_neg Bool.false_ne_true]
  rw [high_zero ho (by decide), high_zero ho (by decide), high_zero ho (by decide), high_zero ho (by decide)]
  rw [Nat.add_zero, Nat.add_zero]
  exact bytes_sum (Nat.lt_of_lt_of_le hv (by decide))

/-- A field shows no more than its width holds. -/
theorem State.view_lt (s : State) (f : Fld) (i : Nat) : s.view f i < 2 ^ f.width := by
  unfold State.view
  split
  · exact Nat.two_pow_pos _
  · split
    · exact Nat.mod_lt _ (Nat.two_pow_pos _)
    · exact Nat.mod_lt _ (Nat.two_pow_pos _)

/-- A field reads no more than its width holds. -/
theorem State.get_lt (s : State) (f : Fld) (i : Nat) : s.get f i < 2 ^ f.width := Nat.mod_lt _ (Nat.two_pow_pos _)

/-- With all bytes enabled the merge is the value written. -/
theorem State.merged_full {s : State} {a v : Nat} {r : Row} (h : fitsRow r = true) (hv : v < 2 ^ 32) : s.merged a v 15 r = v := by
  refine mergeBytes_full (Nat.lt_of_le_of_lt ?_ (of_decide_eq_true h)) hv
  obtain ⟨_, _, _, l⟩ := r
  simp only
  clear h
  induction l with
  | nil => exact Nat.le_refl _
  | cons d t ih =>
    rw [List.map_cons, List.map_cons, List.sum_cons, List.sum_cons]
    refine Nat.add_le_add ?_ ih
    unfold State.mergeField
    split <;> first
      | exact Nat.zero_le _
      | exact Nat.mul_le_mul_right _ (Nat.le_sub_one_of_lt (s.view_lt _ _))

/-- Every field of the register is write-only. -/
def allWo (r : Row) : Bool := r.fields.all (fun d => d.acc == .wo)

/-- The merge of a register of write-only fields is the value written. -/
theorem State.merged_wo {s : State} {a v : Nat} {r : Row} (h : allWo r = true) (hv : v < 2 ^ 32) : s.merged a v 15 r = v := by
  have : (r.fields.map (s.mergeField a)).sum = 0 := by
    obtain ⟨_, _, _, l⟩ := r
    simp only [allWo] at h ⊢
    induction l with
    | nil => rfl
    | cons d t ih => simp only [List.all_cons, Bool.and_eq_true, beq_iff_eq] at h; simp [State.mergeField, h.1, ih h.2]
  unfold State.merged
  rw [this]
  exact mergeBytes_full (by decide) hv

/-- A write-only register holds nothing. -/
theorem State.putFields_wo {s : State} {a : Nat} {r : Row} {vals : List (Nat × Nat)} (h : allWo r = true) :
    s.putFields a r vals = s := by
  obtain ⟨_, _, _, l⟩ := r
  simp only [allWo, State.putFields] at h ⊢
  induction l with
  | nil => rfl
  | cons d t ih => simp only [List.all_cons, Bool.and_eq_true, beq_iff_eq] at h; simp only [List.foldl_cons, h.1]; exact ih h.2

/-- A write-only register has no fields to keep. -/
theorem State.keptFields_wo {s : State} {a : Nat} {r : Row} (hr : rowAt (a / 0x1000) (a % 0x1000) = some r) (h : allWo r = true) :
    s.keptFields a = 0 := by
  unfold State.keptFields
  rw [hr]
  obtain ⟨_, _, _, l⟩ := r
  simp only [allWo] at h ⊢
  clear hr
  induction l with
  | nil => rfl
  | cons d t ih => simp only [List.all_cons, Bool.and_eq_true, beq_iff_eq] at h; simp [h.1, ih h.2]

/-- The command written to a lone write-only register: the write is counted, and its effect follows. -/
theorem State.cmdWrite_wo {s : State} {i : Ifc} {a v : Nat} {fs : List (Fld × Nat)} {facts : WFacts} {r : Row}
    {vals : List (Nat × Nat)} (h : s.takes i a = true) (ha : a % 4 = 0) (hr : rowAt (a / 0x1000) (a % 0x1000) = some r)
    (hl : (loneReg a r && allWo r) = true) (hv : fs.foldl (fun v (x : Fld × Nat) => setBits v x.1.lo x.1.width x.2) 0 = v)
    (hb : v < 2 ^ 32) (hc : s.checkFields i.id a v r = (vals, [])) (hs : reservedSet a v r = false) :
    s.cmdWrite i a fs facts = ((s.recheckAll i.id a).counted (a / 0x1000)).effect s i.id ⟨a, r, v, vals, [], false⟩ facts := by
  rw [Bool.and_eq_true] at hl
  unfold State.cmdWrite
  rw [State.keptFields_wo hr hl.2, hv, State.regWrite_takes h ha, Nat.mod_eq_of_lt hb]
  rw [State.applyWrite_lone hr hl.1 (State.merged_wo hl.2 hb) hc hs, State.putFields_wo hl.2]

end Sys2Proof.Machine
end

