-- ==== Sys2Proof/Tests/Slice0.lean ====
section
/-! SUPPORT. Tests: the states that meet the hypotheses of every statement's clauses, ill-formed commands, and figures that the
spec prints. -/


namespace Sys2Proof.Tests

set_option maxRecDepth 20000
set_option Elab.async false
set_option linter.unusedVariables false

open Sys2Proof.Machine

/-! ### States -/

/-- What a command leaves. -/
def after (c : Instr) (s : State) : State := match exec c s with | .next t => t | _ => s
def live : State :=
  let s := { State.reset with isl := ⟨[], [], 8, 0⟩, boot := ⟨0x30, 0x123456789ABC, 0, 0, []⟩, fuses := some ⟨0x123456789ABC, 0, [], []⟩ }
  let s := ((((s.set F.TOP_READY_READY 1).set F.HOST_STAT_LINK_UP 1).set F.HOST_IF_PCIE 1).set F.HOST_IF_LB 1).set F.HOST_IF_SPI 1
  { s with clk := { s.clk with now := 1000000000, ltOn := true, lt := 5000000 } }
def fenced := live.set F.RGN_FENCED 0xFFFF
def wq (s : State) (f : Quarry → Quarry) : State := { s with qry := f s.qry }
def filled (s : State) := wq s fun q => { q with mem := memWrite 0 0x100 (List.range 40) q.mem }
def mst (s : State) (r : MarchRun) := wq ((s.set F.MRCH_STAT_BUSY 1).setBank r.bank (if r.destructive then 4 else 5)) (fun q => {q with march := some r})
def mr (b : Nat) (d : Bool) (sg : Nat) (ins ab : Bool) : MarchRun := ⟨b, d, true, 0, sg, 0, ins, ab⟩
def cp (k : Nat) := wq (live.setBank (k/12) 7) (fun q => {q with copies := [k]})
def soft := (live.set (F.LANE_STATE_L 3) 3)
def bu := wq ((live.set F.RPR_STAT_BURNING 1).set F.FUSE_STAT_BURNING 1) (fun q => {q with burnRpr := [63]})
def wt (s : State) (f : SelfTest → SelfTest) : State := { s with test := f s.test }
def sl (s : State) (d k : Nat) : State := wt (s.set F.LBST_D_STAT_SLICE k d) (fun t => { t with slices := [(d, 1000000000)], running := [d] })
def wc (s : State) (n : Nat) (f : LChan → LChan) : State := s.setChan n (f (s.chan n))
def az (s : State) (k : Nat) := [0,3,13,47].foldl (fun s n => wc s n (fun c => {c with azN := k, azI := 77, azV := -5000})) s
def ks (s : State) : State := ((((s.setLds F.LDS_CFG_KIND 3 1).setLds F.LDS_CFG_KIND 13 3).setLds F.LDS_CFG_KIND 47 2))
def K := ks live
def ws (s : State) (l : List LWin) := [0,3,13,47].foldl (fun s n => wc s n (fun c => {c with windows := l})) s
def w0 : LWin := { kind := 1, opened := 4900000, close := some 5100000, n := 5, sumI := 123456789012, sumV := -5000000000000, sumP := 10^22, sqI := 0, sqV := 0, overI := false, overV := false, deferred := false, void := false }
def w1 : LWin := { w0 with n := 1 }
def ts (s : State) (a : Nat) (m : Nat) : State := [0,3,13,47].foldl (fun s n => wc (((s.setLds F.LDS_CFG_SRC n 1).setLds F.LDS_CFG_CMD_TO n 4).setLds F.LDS_CFG_TO_ACT n a) n (fun c => {c with misses := m})) s
def al (s : State) (f : LChan → LChan) : State := [0,3,13,47].foldl (fun s n => wc s n f) s
def g1 (s : State) := [0,3,13,47].foldl (fun s n => (s.setLds F.LDS_STAT_GATE n 1).setLds F.LDS_RETRY_RETRY_N n 3) s
def M := (live.set F.MTR_STAT_RUNNING 1).set F.MTR_CFG_EN 1
def wm (s : State) (f : Meter → Meter) : State := { s with mtr := f s.mtr }
def ev (s : State) := wm s (fun m => {m with events := [.edge 5 5000000 true], isOpen := true})
def jo (s : State) := wm s (fun m => {m with chans := m.chans.set 3 { MtrChan.zero with joined := true, counter := 77 }})
def tl := ((live.set F.TALY_WR_IDX 6).set F.TALY_ACK 5).set F.TALY_VLT_IDX 5
def ck (s : State) (f : Clock → Clock) : State := { s with clk := f s.clk }
def R (s : State) := ck s (fun c => {c with sec := 63, sub := 32700})
def mo (s : State) : State := { s with pins := { s.pins with main := false } }
def sav := (live.set F.TALY_STAT_SAVING 1)
def wmB (s : State) (f : Marks → Marks) : State := { s with marks := f s.marks }
def m1 : Mark := ⟨0x801, false, true, [0,1,2,3,4,5,6,7,1,0]⟩
def T0 := wmB live (fun m => {m with tokens := 5000000000, tokenAt := 1000000000, live := true})
def m0 : Mark := ⟨0x81, false, false, [0,1,2,3,4,5,6,7,1,0]⟩
def qd (s : State) := wmB s (fun m => {m with queue := [m0, m1]})
def r1 : MarkRec := ⟨7, List.range 32, 0x0, true⟩
def r0 : MarkRec := ⟨7, List.range 40, 0x200, false⟩
def mi (s : State) := wmB (s.set F.MARK_CFG_MIRROR_EN 1) (fun m => {m with toMirror := [r0, r1]})
def mue (s : State) := { mi s with qry := { s.qry with ue := [((s.qKey (markBase + 0x200)) / 8, 3)] } }
def mi1 (s : State) := wmB (s.set F.MARK_CFG_MIRROR_EN 1) (fun m => {m with toMirror := [r0], vRecentOff := 0x100000 + 64})
def tgt (s : State) := ((s.set F.VLT_ADDR (0x60000/8)).set F.VLT_LEN 64).set F.VLT_SRC 2
def wv (s : State) (f : Vault → Vault) : State := { s with vault := f s.vault }
def ops (s : State) (l : List VOp) := wv (s.set F.VLT_STAT_HOST_BUSY 1) (fun v => {v with ops := l})
def o0 : VOp := ⟨.host, [(0x100000, [1,2,3,4,5,6,7,8])], 0x100, false, 0, false⟩
def fill (s : State) := wv s (fun v => {v with mem := memWrite 0xFF 0x100008 [1,2,3,4] v.mem})
def fill0 (s : State) := wv s (fun v => {v with mem := memWrite 0xFF 0x100002 [1,2,3,4] v.mem})
def o1 : VOp := ⟨.hostErase, [], 0x100, true, 0, false⟩
def o3 : VOp := ⟨.retire 0x100 1, [], 0x100, false, 0, false⟩
def datum : State :=
  let s := ((((live.set F.SETO_STAT_STATE 2).set F.SETO_STAT_IS_DATUM 1).set F.LINE_STAT_LOCK 1))
  let s := [0,1,2].foldl (fun s n => ((s.set F.SPK_LINK_UP 1 n).set F.SPK_LINK_GEN 2 n).set F.SPK_CFG_GEN 2 n) s
  { s with base := 4990000, course := 17 }
def wp (s : State) (f : Power → Power) : State := { s with pwr := f s.pwr }
def ent (s : State) (t : Nat) := wp (s.set F.PWR_STAT_ENTERING 1) (fun p => {p with target := t, step := 1, entryAt := 1000000000})
def lns (s : State) := (s.set F.WAKE_LINE_EN 0xFF).set F.SPK_CFG_GEN 2 1
def slp (s : State) (k : Nat) := s.set F.PWR_STAT_STATE k
def sw (s : State) := ((s.set (F.WAKE_SW_CFG_MODE 0) 1).set (F.WAKE_SW_CFG_MODE 1) 2).set (F.WAKE_SW_CFG_MODE 2) 0
def ex (s : State) := wp s (fun p => {p with exiting := true, wakeAt := 1000000000})
def uni := datum.set F.WAKE_STAT_UNANIMOUS 8
def wh (s : State) (f : HostX → HostX) : State := { s with host := f s.host }
def dn (s : State) := wh (s.set F.HOST_STAT_LINK_UP 0) (fun h => {h with perst := true})
def bm (s : State) := ((wh s (fun h => {h with bme := true})).set F.HOST_BM_LIM_HI_EN 1).set F.HOST_BM_LIM_HI_ADDR 0xFFFF
def dmaS (s : State) := ((bm s).set F.DMA_STAT_BUSY 1 1).set F.DMA_LEN 2 1
def dq (s : State) : State := let s := (((s.set F.DMA_STAT_BUSY 1 1).set F.DMA_LEN 1 1).set F.DMA_SRC_LO (0x100/8) 1).set F.DMA_DST_LO (0x200/8) 1; { s with qry := {s.qry with mem := memWrite 0 0xFE [1,2,3,4,5,6,7,8,9] s.qry.mem}}
def lbh (s : State) := wh s (fun h => {h with lbHigh := [(0x511C,50),(0x32100,3)]})
def lbl (s : State) := wh s (fun h => {h with lbLow := some (0x511C,50,3)})
def sf0 : StartFacts := ⟨0x34, 0, 0, 0, false, [], [], 0⟩
def facts0 : WFacts := ⟨⟨0x34, 0, 0, 0, false, [], [], 0⟩, 0, []⟩
def fz := after (.dumpGo .pcie facts0) live
def wd (s : State) (f : Dump → Dump) : State := { s with dump := f s.dump }
def bmB (s : State) := ((wh s (fun h => {h with bme := true, msix := true}))).set F.MSIX_CTRL 0 13
def vl (s : State) := (((s.set F.IRQ_VEC_EN 0xFFFFFFFF).set F.PG_IRQ_EN 0xFFFF 0x11).set F.PG_IRQ_RAW 0x100 0x11)
def d3 (s : State) : State := { s with isl := {s.isl with frozen := [31,8,9]} }.set F.DUMP_STAT_STATE 3
def rx0 : RxMsg := ⟨1, 1, 2, 3, 0, 4, [], 0, 20, false, false, 0⟩
def msgs : State := { datum with sched := { builtIn with slots := builtIn.slots.map (fun e => if e.kind = 4 then { e with kind := 7, mode := 1, val := 1 } else e) } }
def lat : State := { live with lines := (live.lines.set 0 { Line.zero with attempt := some (1000500000, 2, true) }).set 2 { Line.zero with attempt := some (1000500000, 3, false) } }
def aport := (datum.set F.SPK_CFG_GEN 1 0).set F.SPK_LINK_GEN 1 0
def bv (l : List Nat) : Frame := l.map (BitVec.ofNat 16)
def fr1 : List Nat := datum.frame 1 0 4 17 0 63 0 0 [3, 0]
def ld (im : List Nat) : State := { live.set F.SCHD_RESULT_BUSY 1 with loading := some im }
def wo (s : State) (f : SetOut → SetOut) : State := { s with so := f s.so }
def mem3 := ((((datum.set F.SETO_STAT_COUNT 3).set F.SETO_STAT_POSITION 2).set F.SETO_STAT_IS_DATUM 0)).set F.HUB_CFG_HUB_EN 0
def pl : Plan := ⟨40, 3, 2, false, false, 0, [5,6,7], 0, false, true, false⟩
def jn := wo (mem3.set F.SETO_STAT_STATE 6) (fun x => {x with plan := some pl, syncs := []})
def jn2 := wo ((mem3.set F.SETO_STAT_STATE 6).set F.LINE_STAT_THETA_VALID 1) (fun x => {x with plan := some pl, syncs := [(11,15000000),(10,5000000)]})
def parts (s : State) := { s with host := { s.host with parts := [(0, 0x15108, 7), (0, 0x1510C, 1), (0,0x15110,0xFFFFFFFF)] } }
def aline := ((datum.set F.SPK_LINK_GEN 1 0).set F.SPK_CFG_GEN 1 0)
def ptp : State := let s := ((datum.set F.LETH_P_CFG_EN 1 1).set F.LETH_P_STAT_UP 1 1).set F.LINE_PTP_EN_EN 0xFF; { s with loc := { s.loc with pause := [(1, 2000000000)] } }
def m0B : LMap := ⟨10000000, 16, 1000, 9514000, 480000, 1,1,0,true,false,false,0,17, [(0,150000,1,1),(150000,580000,63,2)], none, []⟩
def mp (s : State) (n : Nat) (l : Line) : State := s.setLine n l
def a1 := mp datum 0 { Line.zero with map := some m0B, sending := some (0, 4990000, bv0) }
where bv0 := datum.frame 7 0 0 0 2 63 0 0 [3, 0]
def hb := ((datum.set F.HUB_BR_STAT_ROLE 1 2).set F.HUB_BR_STAT_ROLE 1 5).set F.HUB_CFG_CUT_N 3
def hb1 := ((hb.set F.HUB_CFG_CUT_N 1).set F.HUB_BR_CFG 1 5).set F.HUB_CFG_CLEAN_N 2
def hb2 := ((hb1.set F.HUB_BR_STAT_STATE 1 2).set F.HUB_BR_STAT_CLEAN 3 2)
def wtB (s : State) (f : Trowel → Trowel) : State := { s with trw := f s.trw }
def bme (s : State) : State := { s with host := { s.host with bme := true } }
def bmBB (s : State) := (((bme s).set F.HOST_BM_LIM_HI_EN 1).set F.HOST_BM_LIM_LO 0xFFFFF).set F.HOST_BM_LIM_HI_ADDR 0xFFFF
def q1 := (((live.set F.Q_BASE_HI_EN 1 1).set F.Q_BASE_HI_LOC 1 1).set F.Q_IDX_TAIL 3 1).set F.Q_BASE_HI_EN 1 64
def d0 : List Byte := (List.range 64).map (fun i => if i = 12 then 1 else BitVec.ofNat 8 i)
def c0 : Ctx := ⟨0, 3, 1, 0, 7, [], none, 0, 0, 0, []⟩
def leth (s : State) := (s.set F.LETH_P_CFG_EN 1 1).set F.LETH_P_STAT_UP 1 1
def f60 (da : List Byte) (n : Nat) : List Byte := let b := da ++ (List.range (n-4-da.length)).map (fun i => BitVec.ofNat 8 (i+9)); b ++ (le 4 (crc32r (b.map BitVec.toNat))).map (BitVec.ofNat 8)
def tx (c : Nat) (d : List Nat) : LocalTx := ⟨3, c, d, 0, List.replicate 32 0⟩
def wl (s : State) (f : Locals → Locals) : State := { s with loc := f s.loc }
def lp (s : State) := wl (leth s) (fun l => { l with ethTx := [(1, tx 1 (List.range 70)), (1, tx 3 (List.range 20))], pause := [(2,2000000000)] })
def lc (s : State) := wl ((s.set F.LC_P_CFG_EN 1 1).set F.LC_P_CFG_MONITOR 0 1) (fun l => { l with canTx := [(1, tx 0 ([5,1,0,0]++List.replicate 20 7))]})
def boff (s : State) := ((s.set F.LC_P_STAT_STATE 2 1).set F.LC_P_CFG_AUTO_REC 1 1).set F.LC_P_STAT_TEC 255 1
def rl (k : Nat) (s : State) : State := { s with boot := { s.boot with straps := 0x30 + 2 * k } }
def A := rl 1 datum
def tw (s : State) (f : Twin → Twin) : State := { s with twin := f s.twin }
def Act := A.set F.TWIN_STAT_ROLE 1
def tie (s : State) := (s.set F.TIE_CFG_EN 1).set F.TIE_CFG_LANE1_EN 1
def w (l : List Nat) : List Byte := l.map (BitVec.ofNat 8)
def Arb := rl 3 datum
def au := ((tw (Arb.set F.TWIN_ARB_CFG_AUTO 1) (fun t => {t with standby := 1, hbMiss := [(0,9)]})).set F.TWIN_ARB_HLTH 1 0).set F.TWIN_ARB_CFG_HB_MISS 3
def el := (((tw Arb (fun t => {t with standby := 1})).set F.TWIN_ARB_STAT_HB_OK 3).set F.TWIN_ARB_HLTH (2^25+1) 0).set F.TWIN_ARB_HLTH (2^25) 1
def sem (s : State) (n o t : Nat) := wq ((((s.set F.QRY_SEMN_HELD 1 n).set F.QRY_SEMN_OWNER o n).set F.QRY_SEMN_TAG t n)) (fun q => {q with leases := [(n,5000000000)]})
def off := live.set F.PG_CTRL_EN 0 0x29
def lamp (s : State) (e : Nat) := wc s 3 (fun c => {c with eff := e, edgeAt := 2500000})
def heat (s : State) := (wc s 47 (fun c => {c with edgeAt := 2500000})).setLds F.LDS_CMD_NOW_CMD 47 (2 + 4*300)
def bytesLe (n v : Nat) : List Nat := (List.range n).map (fun k => v / 256 ^ k % 256)
def slotImage (e : Slot) : List Nat := bytesLe 4 e.start ++ bytesLe 4 e.len ++ [e.kind, e.mode, e.val, e.dst] ++ bytesLe 2 e.maxLen ++ bytesLe 2 e.stream
def image : List Nat :=
  let b := bytesLe 4 0x53524C55 ++ bytesLe 2 1 ++ bytesLe 2 64 ++ bytesLe 4 324 ++ bytesLe 4 1 ++ bytesLe 4 10000 ++ bytesLe 2 16 ++ bytesLe 2 486 ++ [7, 2, 0, 0, 0, 0, 0, 0] ++ bytesLe 4 64 ++ bytesLe 4 320 ++ List.replicate 24 0 ++ builtIn.slots.flatMap slotImage
  b ++ bytesLe 4 (crc32r b)
def ldB : State := { live.set F.SCHD_LEN 324 with loading := some image }
def vs (s : State) := ((s.set F.WAKE_STOP 17).set F.WAKE_VOTE 1)
def ethF (b : List Nat) : List Byte := f60 (w b) (b.length + 4)
def pauseF : List Byte := ethF ([1, 0x80, 0xC2, 0, 0, 1, 2, 0, 0, 0, 0, 1, 0x88, 8, 0, 1, 0, 5] ++ List.replicate 42 0)
def ptpF : List Byte := ethF ([1, 0x1B, 0x19, 0, 0, 0, 2, 0, 0, 0, 0, 1, 0x88, 0xF7] ++ List.replicate 46 0)
def macF : List Byte := f60 (List.replicate 6 255) 64
def tf (typ course : Nat) (p : List Nat) : List Byte := w (tieFrame typ course p)
def wx (s : State) (f : HostX → HostX) : State := { s with host := f s.host }
def canF : CanFrame := ⟨0x123, false, false, false, 8, false, false, List.range 8⟩
def reset5 : State := wx live fun h => { h with reset := [(5, 1000000)] }
def tieA : State := tie A
def pairS : State := { (Arb.set F.TWIN_ARB_CFG_POS 1) with pace := { Arb.pace with models := [(Arb.tabUid 1, 5, 0, none)] } }
def dmaHost (k : Nat) : State := (((bm live).set F.DMA_STAT_BUSY 1 1).set F.DMA_LEN 1 1).set F.HOST_BM_LIM_LO k
def noPhys (s : State) : State := wv (s.set F.VLT_STAT_SPARES_LEFT 0) fun v => v
def wz : State := (List.range 64).foldl (fun (s : State) e => (List.range 7).foldl (fun (s : State) k => s.set (F.TRW_WHEEL_P k) 0 e) s) live

/-! ### Witnesses, one theorem for each statement: a state and operands for the hypotheses of each clause -/
theorem witness_QueuesAndContexts :
    (∃ (ifc : Ifc) (queue : Fin 128) (tail : Word) (facts : WFacts) (s : State), (s.takes ifc (104460 + 16 * (queue.val)) =
      true)) ∧
    (∃ (queue : Fin 128) (host : List Byte) (s : State), (s.awake 8 = true) ∧ (s.on F.Q_BASE_HI_EN (queue.val) = false ∨
      s.nextDesc (queue.val) = s.get F.Q_IDX_TAIL (queue.val) ∨ 64 ≤ (queue.val) ∨ (queue.val) ∈ s.trw.closing ∨ s.engineHeld =
      true)) ∧
    (∃ (queue : Fin 128) (host : List Byte) (s : State), (s.awake 8 = true) ∧ ((queue.val) < 64) ∧ (s.on F.Q_BASE_HI_EN
      (queue.val) = true) ∧ (s.nextDesc (queue.val) ≠ s.get F.Q_IDX_TAIL (queue.val)) ∧ (¬(queue.val) ∈ s.trw.closing) ∧
      (s.engineHeld = false) ∧ ((s.queueRead ((queue.val)) (s.descAddr ((queue.val)) (s.nextDesc (queue.val))) 32 (List.map
      BitVec.toNat host)).fst = false)) ∧
    (∃ (queue : Fin 128) (host : List Byte) (s : State), (s.awake 8 = true) ∧ ((queue.val) < 64) ∧ (s.on F.Q_BASE_HI_EN
      (queue.val) = true) ∧ (s.nextDesc (queue.val) ≠ s.get F.Q_IDX_TAIL (queue.val)) ∧ (¬(queue.val) ∈ s.trw.closing) ∧
      (s.engineHeld = false) ∧ ((s.queueRead ((queue.val)) (s.descAddr ((queue.val)) (s.nextDesc (queue.val))) 32 (List.map
      BitVec.toNat host)).fst = true) ∧ (bit ((s.queueRead ((queue.val)) (s.descAddr ((queue.val)) (s.nextDesc (queue.val))) 32
      (List.map BitVec.toNat host)).snd.fst.getD 12 0) 0 = false)) ∧
    (∃ (queue : Fin 128) (host : List Byte) (s : State), (s.awake 8 = true) ∧ ((queue.val) < 64) ∧ (s.on F.Q_BASE_HI_EN
      (queue.val) = true) ∧ (s.nextDesc (queue.val) ≠ s.get F.Q_IDX_TAIL (queue.val)) ∧ (¬(queue.val) ∈ s.trw.closing) ∧
      (s.engineHeld = false) ∧ ((s.queueRead ((queue.val)) (s.descAddr ((queue.val)) (s.nextDesc (queue.val))) 32 (List.map
      BitVec.toNat host)).fst = true) ∧ (bit ((s.queueRead ((queue.val)) (s.descAddr ((queue.val)) (s.nextDesc (queue.val))) 32
      (List.map BitVec.toNat host)).snd.fst.getD 12 0) 0 = true) ∧ (s.get F.Q_BIND_CLASS (queue.val) ≠ 0)) ∧
    (∃ (queue : Fin 128) (host : List Byte) (s : State), (s.awake 8 = true) ∧ ((queue.val) < 64) ∧ (s.on F.Q_BASE_HI_EN
      (queue.val) = true) ∧ (s.nextDesc (queue.val) ≠ s.get F.Q_IDX_TAIL (queue.val)) ∧ (¬(queue.val) ∈ s.trw.closing) ∧
      (s.engineHeld = false) ∧ ((s.queueRead ((queue.val)) (s.descAddr ((queue.val)) (s.nextDesc (queue.val))) 32 (List.map
      BitVec.toNat host)).fst = true) ∧ (bit ((s.queueRead ((queue.val)) (s.descAddr ((queue.val)) (s.nextDesc (queue.val))) 32
      (List.map BitVec.toNat host)).snd.fst.getD 12 0) 0 = true) ∧ (s.get F.Q_BIND_CLASS (queue.val) = 0) ∧ (s.get
      F.TRW_CTX_INUSE 11 < s.get F.TRW_CTX_Q_MAX 11) ∧ (s.get F.TRW_CTX_INUSE 11 < s.get F.TRW_CTX_Q_RES 11 ∨ s.poolUsed <
      s.pool)) ∧
    (∃ (queue : Fin 128) (host : List Byte) (s : State), (s.awake 8 = true) ∧ ((queue.val) < 64) ∧ (s.on F.Q_BASE_HI_EN
      (queue.val) = true) ∧ (s.nextDesc (queue.val) ≠ s.get F.Q_IDX_TAIL (queue.val)) ∧ (¬(queue.val) ∈ s.trw.closing) ∧
      (s.engineHeld = false) ∧ ((s.queueRead ((queue.val)) (s.descAddr ((queue.val)) (s.nextDesc (queue.val))) 32 (List.map
      BitVec.toNat host)).fst = true) ∧ (bit ((s.queueRead ((queue.val)) (s.descAddr ((queue.val)) (s.nextDesc (queue.val))) 32
      (List.map BitVec.toNat host)).snd.fst.getD 12 0) 0 = true) ∧ (s.get F.Q_BIND_CLASS (queue.val) = 0) ∧ (s.get
      F.TRW_CTX_Q_MAX 11 ≤ s.get F.TRW_CTX_INUSE 11)) ∧
    (∃ (queue : Fin 128) (host : List Byte) (s : State), (s.awake 8 = true) ∧ ((queue.val) < 64) ∧ (s.on F.Q_BASE_HI_EN
      (queue.val) = true) ∧ (s.nextDesc (queue.val) ≠ s.get F.Q_IDX_TAIL (queue.val)) ∧ (¬(queue.val) ∈ s.trw.closing) ∧
      (s.engineHeld = false) ∧ (s.on F.Q_BASE_HI_LOC (queue.val) = true) ∧ (s.bmOk (s.descAddr ((queue.val)) (s.nextDesc
      (queue.val))) 32 = true) ∧ (32 ≤ host.length)) ∧
    (∃ (ifc : Ifc) (queue : Fin 128) (facts : WFacts) (s : State), (s.takes ifc (104452 + 16 * (queue.val)) = true) ∧ (s.on
      F.Q_BASE_HI_EN (queue.val) = true) ∧ (s.host.parts = []) ∧ (3 ≤ s.get F.Q_BASE_HI_LOG2SIZE (queue.val)) ∧ (s.get
      F.Q_BASE_HI_LOG2SIZE (queue.val) ≤ 12) ∧ ((s.get F.Q_IDX_TAIL (queue.val) + 65536 - s.get F.Q_IDX_HEAD (queue.val)) %
      65536 ≤ s.ringSize (queue.val)) ∧ ((s.trw.tx.any fun (t : TxMsg) => t.q == (queue.val) && decide (t.frag < t.bound)) =
      true)) ∧
    (∃ (ifc : Ifc) (queue : Fin 128) (facts : WFacts) (s : State), (s.takes ifc (104452 + 16 * (queue.val)) = true) ∧ (s.on
      F.Q_BASE_HI_EN (queue.val) = true) ∧ (s.host.parts = []) ∧ (3 ≤ s.get F.Q_BASE_HI_LOG2SIZE (queue.val)) ∧ (s.get
      F.Q_BASE_HI_LOG2SIZE (queue.val) ≤ 12) ∧ ((s.get F.Q_IDX_TAIL (queue.val) + 65536 - s.get F.Q_IDX_HEAD (queue.val)) %
      65536 ≤ s.ringSize (queue.val)) ∧ ((s.trw.tx.any fun (t : TxMsg) => t.q == (queue.val) && decide (t.frag < t.bound)) =
      false)) ∧
    (∃ (s : State), (s.awake 8 = true) ∧ (s.engineHeld = true ∨ ∀ (c : Ctx), c ∈ s.trw.ctxs → ¬c.since + s.get F.TRW_CTX_AGE *
      1000000 ≤ s.clk.now)) ∧
    (∃ (s : State), (s.awake 8 = true) ∧ (s.engineHeld = false) ∧ (s.trw.ctxs ≠ []) ∧ (∀ (c : Ctx), c ∈ s.trw.ctxs → c.since +
      s.get F.TRW_CTX_AGE * 1000000 ≤ s.clk.now)) ∧
    (∃ (ifc : Ifc) (course : Reg) (facts : WFacts) (s : State), (s.takes ifc 98612 = true) ∧ (BitVec.toNat course = (s.course
      + 1) % 2 ^ 32)) ∧
    (∃ (ifc : Ifc) (course : Reg) (facts : WFacts) (s : State), (s.takes ifc 98612 = true)) :=
  ⟨⟨Ifc.pcie, 0, 0, facts0, live, by decide +kernel⟩,
   ⟨0, [], live, by decide +kernel⟩,
   ⟨1, [], q1, by decide +kernel⟩,
   ⟨1, [], (q1.set F.Q_BASE_HI_LOC 0 1), by decide +kernel⟩,
   ⟨1, d0, (bmBB q1).set F.Q_BIND_CLASS 1 1, by decide +kernel⟩,
   ⟨1, [0, 1, 2, 3, 4, 5, 6, 7, 8, 9, 0xa, 0xb, 1, 0xd, 0xe, 0xf, 0x10, 0x11, 0x12, 0x13, 0x14, 0x15, 0x16, 0x17, 0x18, 0x19,
     0x1a, 0x1b, 0x1c, 0x1d, 0x1e, 0x1f, 0x20, 0x21, 0x22, 0x23, 0x24, 0x25, 0x26, 0x27, 0x28, 0x29, 0x2a, 0x2b, 0x2c, 0x2d,
     0x2e, 0x2f, 0x30, 0x31, 0x32, 0x33, 0x34, 0x35, 0x36, 0x37, 0x38, 0x39, 0x3a, 0x3b, 0x3c, 0x3d, 0x3e, 0x3f], bmBB q1,
     by decide +kernel⟩,
   ⟨1, d0, (bmBB q1).set F.TRW_CTX_Q_MAX 0 11, by decide +kernel⟩,
   ⟨1, [0, 1, 2, 3, 4, 5, 6, 7, 8, 9, 0xa, 0xb, 1, 0xd, 0xe, 0xf, 0x10, 0x11, 0x12, 0x13, 0x14, 0x15, 0x16, 0x17, 0x18, 0x19,
     0x1a, 0x1b, 0x1c, 0x1d, 0x1e, 0x1f, 0x20, 0x21, 0x22, 0x23, 0x24, 0x25, 0x26, 0x27, 0x28, 0x29, 0x2a, 0x2b, 0x2c, 0x2d,
     0x2e, 0x2f, 0x30, 0x31, 0x32, 0x33, 0x34, 0x35, 0x36, 0x37, 0x38, 0x39, 0x3a, 0x3b, 0x3c, 0x3d, 0x3e, 0x3f], bmBB q1,
     by decide +kernel⟩,
   ⟨.pcie, 1, facts0, wtB q1 fun t => { t with tx := [⟨1, 0, 5, 63, 1, [], 0, 0, [], 1⟩] }, by decide +kernel⟩,
   ⟨Ifc.pcie, 1, facts0, q1, by decide +kernel⟩,
   ⟨live, by decide +kernel⟩,
   ⟨wtB live fun t => { t with ctxs := [c0] }, by decide +kernel⟩,
   ⟨Ifc.pcie, 1, facts0, live, by decide +kernel⟩,
   ⟨Ifc.pcie, 0, facts0, live, by decide +kernel⟩⟩

theorem witness_FramesReceived :
    (∃ (port : Port) (stamp : DWord) (words : Frame) (short : Bool) (desc : List Byte) (phy : RxPhy) (s : State), (s.awake
      (port.val) = true) ∧ (s.get F.SPK_CFG_GEN (port.val) ≠ 0) ∧ (s.get F.SPK_CFG_GEN (port.val) ≠ 1) ∧ (s.up (port.val) =
      true) ∧ (s.portGen (port.val) = 2) ∧ (s.get F.SPK_TEST (port.val) = 0) ∧ (hchkOk (List.map BitVec.toNat words) = false) ∧
      ((s.elapseLt (BitVec.toNat stamp + ((List.map BitVec.toNat words).length - 1) * tWord 2)).standby = false)) ∧
    (∃ (port : Port) (stamp : DWord) (words : Frame) (desc : List Byte) (phy : RxPhy) (s : State), (s.awake (port.val) = true)
      ∧ (s.running = true) ∧ (s.get F.SPK_CFG_GEN (port.val) ≠ 0) ∧ (s.get F.SPK_CFG_GEN (port.val) ≠ 1) ∧ (s.up (port.val) =
      true) ∧ (s.portGen (port.val) = 2) ∧ (s.get F.SPK_TEST (port.val) = 0) ∧ (hchkOk (List.map BitVec.toNat words) = true) ∧
      ((s.elapseLt (BitVec.toNat stamp + ((List.map BitVec.toNat words).length - 1) * tWord 2)).gated (port.val) = false) ∧
      ((s.elapseLt (BitVec.toNat stamp + ((List.map BitVec.toNat words).length - 1) * tWord 2)).engineHeld = false) ∧ (fKind
      (List.map BitVec.toNat words) ≠ 3 ∨ fSlot (List.map BitVec.toNat words) ≠ 2) ∧ (((((s.elapseLt (BitVec.toNat stamp +
      ((List.map BitVec.toNat words).length - 1) * tWord 2)).portHears ((port.val)) (BitVec.toNat stamp) (List.map BitVec.toNat
      words)).relay ((port.val)) (BitVec.toNat stamp) (BitVec.toNat stamp + ((List.map BitVec.toNat words).length - 1) * tWord
      2) (List.map BitVec.toNat words) (fcrcOk (List.map BitVec.toNat words)) none phy.coll).snd.ctxFrame ((port.val))
      (805306368 + fSlot (List.map BitVec.toNat words)) (List.map BitVec.toNat words) (BitVec.toNat stamp)).fst = true)) ∧
    (∃ (port : Port) (stamp : DWord) (words : Frame) (desc : List Byte) (phy : RxPhy) (s : State), (s.awake (port.val) = true)
      ∧ (s.running = true) ∧ (s.get F.SPK_CFG_GEN (port.val) ≠ 0) ∧ (s.get F.SPK_CFG_GEN (port.val) ≠ 1) ∧ (s.up (port.val) =
      true) ∧ (s.portGen (port.val) = 2) ∧ (s.get F.SPK_TEST (port.val) = 0) ∧ (hchkOk (List.map BitVec.toNat words) = true) ∧
      ((s.elapseLt (BitVec.toNat stamp + ((List.map BitVec.toNat words).length - 1) * tWord 2)).gated (port.val) = false) ∧
      ((s.elapseLt (BitVec.toNat stamp + ((List.map BitVec.toNat words).length - 1) * tWord 2)).engineHeld = true)) ∧
    (∃ (port : Port) (stamp : DWord) (words : Frame) (desc : List Byte) (phy : RxPhy) (s : State), (s.awake (port.val) = true)
      ∧ (s.running = true) ∧ (s.get F.SPK_CFG_GEN (port.val) ≠ 0) ∧ (s.get F.SPK_CFG_GEN (port.val) ≠ 1) ∧ (s.up (port.val) =
      true) ∧ (s.portGen (port.val) = 2) ∧ (s.get F.SPK_TEST (port.val) = 0) ∧ (hchkOk (List.map BitVec.toNat words) = true) ∧
      ((s.elapseLt (BitVec.toNat stamp + ((List.map BitVec.toNat words).length - 1) * tWord 2)).gated (port.val) = true) ∧
      ((s.elapseLt (BitVec.toNat stamp + ((List.map BitVec.toNat words).length - 1) * tWord 2)).branchGate ((port.val))
      (BitVec.toNat stamp) (BitVec.toNat stamp + ((List.map BitVec.toNat words).length - 1) * tWord 2) (List.map BitVec.toNat
      words) = Branch.violation)) ∧
    (∃ (port : Port) (stamp : DWord) (words : Frame) (short : Bool) (desc : List Byte) (phy : RxPhy) (s : State),
      (s.isl.started < 8)) :=
  ⟨⟨0, 0, [], true, [], { corrected := 0, uncorrected := 0, violation := false, coll := 0 }, datum, by decide +kernel⟩,
   ⟨0, 0, bv fr1, [], ⟨0, 0, false, 0⟩, datum, by decide +kernel⟩,
   ⟨0, 0, bv fr1, [], ⟨0, 0, false, 0⟩, sl datum 9 3, by decide +kernel⟩,
   ⟨2, 0, bv fr1, [], ⟨0, 0, false, 0⟩, hb, by decide +kernel⟩,
   ⟨0, 0, [], true, [], { corrected := 0, uncorrected := 0, violation := false, coll := 0 }, State.reset, by decide +kernel⟩⟩

theorem witness_LintelMaps :
    (∃ (port : Port) (agree : Bool) (s : State), (s.awake 8 = true) ∧ (s.awake (port.val) = true)) ∧
    (∃ (port : Port) (agree : Bool) (s : State), (s.awake 8 = true) ∧ (s.awake (port.val) = true) ∧ ((s.line
      (port.val)).map.isSome = true)) ∧
    (∃ (port : Port) (slot : Fin 1024) (s : State), (s.awake (port.val) = true) ∧ (∀ (start : Nat) (f : List Nat), (s.line
      (port.val)).sending ≠ some ((slot.val), start, f))) ∧
    (∃ (port : Port) (slot : Fin 1024) (s : State) (m : LMap) (start : Nat) (f : List Nat) (e : Nat × Nat × Nat × Nat),
      (s.awake (port.val) = true) ∧ ((s.line (port.val)).map = some m) ∧ ((s.line (port.val)).sending = some ((slot.val), start,
      f)) ∧ (fKind f = 3 ∧ fSlot f = 1023 ∨ m.entries[(slot.val)]? = some e)) :=
  ⟨⟨0, true, live, by decide +kernel⟩,
   ⟨0, true, a1, by decide +kernel⟩,
   ⟨0, 0, live, by decide +kernel, fun _ _ h =>
     by rw [show (live.line ((0 : Port).val)).sending = none by decide +kernel] at h; cases h⟩,
   ⟨0, 0, a1, m0B, 4990000, a1.bv0, (0, 150000, 1, 1), by decide +kernel⟩⟩

theorem witness_TimeGivenOut :
    (∃ (port : Port) (dst : BitVec 6) (turn : TimingTurn) (s : State), (s.originates = true) ∧ (s.portGen
      (port.val) = 1) ∧ (s.up (port.val) = true)) ∧
    (∃ (port : Port) (dst : BitVec 6) (turn : TimingTurn) (s : State), (s.originates = true) ∧ (s.portGen
      (port.val) ≠ 1 ∨ s.up (port.val) = false)) ∧
    (∃ (port : Port) (dst : BitVec 6) (turn : TimingTurn) (s : State), (s.originates = false)) ∧
    (∃ (port : Port) (ann : Bool) (s : State), (s.hostLive = true) ∧ (s.ptpOn (port.val) = false ∨ (match List.find? (fun (x :
      Nat × Nat) => x.fst == 2 * (port.val) + ann.toNat) s.loc.ptpAt with | some x => s.elapseTo (x.snd + logNs (if ann = true
      then s.get F.LINE_PTP_INT_LOG_ANN else s.get F.LINE_PTP_INT_LOG_SYNC)) | none => s).ptpNeg = true)) ∧
    (∃ (port : Port) (ann : Bool) (s : State), (s.hostLive = true) ∧ (s.ptpOn (port.val) = true) ∧ ((match List.find? (fun (x
      : Nat × Nat) => x.fst == 2 * (port.val) + ann.toNat) s.loc.ptpAt with | some x => s.elapseTo (x.snd + logNs (if ann = true
      then s.get F.LINE_PTP_INT_LOG_ANN else s.get F.LINE_PTP_INT_LOG_SYNC)) | none => s).ptpNeg = false)) ∧
    (∃ (s : State), (s.clk.ltOn = true) ∧ (s.islandAsleep 8 = false)) ∧
    (∃ (s : State), (s.clk.ltOn = false ∨ s.islandAsleep 8 = true)) :=
  ⟨⟨0, 0, ⟨true, true⟩, aport, by decide +kernel⟩,
   ⟨0, 0, ⟨true, true⟩, live, by decide +kernel⟩,
   ⟨0, 0, ⟨true, true⟩, fz, by decide +kernel⟩,
   ⟨1, false, live, by decide +kernel⟩,
   ⟨1, false, ptp, by decide +kernel⟩,
   ⟨live, by decide +kernel⟩,
   ⟨fz, by decide +kernel⟩⟩

theorem witness_HeaderCommands :
    (∃ (ifc : Ifc) (page : Page) (on : Bool) (facts : WFacts) (s : State), (s.takes ifc ((page.val) * 4096 + 8) = true) ∧
      (pageCapEn (page.val) = true) ∧ (¬(41 ≤ (page.val) ∧ (page.val) ≤ 44)) ∧ (s.on F.PG_LOCK (page.val) = false)) ∧
    (∃ (ifc : Ifc) (page : Page) (on : Bool) (facts : WFacts) (s : State), (s.takes ifc ((page.val) * 4096 + 8) = true) ∧
      (pageCapEn (page.val) = true) ∧ (¬(41 ≤ (page.val) ∧ (page.val) ≤ 44)) ∧ (s.on F.PG_LOCK (page.val) = true)) ∧
    (∃ (ifc : Ifc) (page : Page) (on : Bool) (facts : WFacts) (s : State), (s.takes ifc ((page.val) * 4096 + 8) = true) ∧
      (pageCapEn (page.val) = true) ∧ (¬(41 ≤ (page.val) ∧ (page.val) ≤ 44)) ∧ (s.on F.PG_LOCK (page.val) = true) ∧ (on.toNat ≠
      s.get F.PG_CTRL_EN (page.val))) ∧
    (∃ (ifc : Ifc) (page : Page) (on : Bool) (facts : WFacts) (s : State), (s.takes ifc ((page.val) * 4096 + 8) = true) ∧
      (41 ≤ (page.val)) ∧ ((page.val) ≤ 44) ∧ (s.on F.PG_LOCK (page.val) = false) ∧ (on.toNat ≠ s.get F.PG_CTRL_EN (page.val))) ∧
    (∃ (ifc : Ifc) (page : Page) (on : Bool) (facts : WFacts) (s : State), (s.takes ifc ((page.val) * 4096 + 8) = true) ∧
      (on = true) ∧ ((page.val) ≠ 1) ∧ (s.on F.PG_CTRL_FREEZE (page.val) = false)) ∧
    (∃ (ifc : Ifc) (page : Page) (on : Bool) (facts : WFacts) (s : State), (s.takes ifc ((page.val) * 4096 + 40) = true)) ∧
    (∃ (ifc : Ifc) (page : Page) (on : Bool) (facts : WFacts) (s : State), (s.takes ifc ((page.val) * 4096 + 28) = true)) :=
  ⟨⟨Ifc.pcie, 8, true, facts0, live, by decide +kernel⟩,
   ⟨.pcie, 33, true, facts0, live.set F.PG_LOCK 1 33, by decide +kernel⟩,
   ⟨.pcie, 33, false, facts0, live.set F.PG_LOCK 1 33, by decide +kernel⟩,
   ⟨.pcie, 41, false, facts0, live, by decide +kernel⟩,
   ⟨Ifc.pcie, 0, true, facts0, live, by decide +kernel⟩,
   ⟨Ifc.pcie, 0, true, facts0, live, by decide +kernel⟩,
   ⟨Ifc.pcie, 0, true, facts0, live, by decide +kernel⟩⟩

theorem witness_EthernetReceive :
    (∃ (port : Port) (stamp : DWord) (frame : List Byte) (code : Bool) (short : Bool) (desc : List Byte) (s : State), (s.hostLive = true) ∧
      (s.on F.LETH_P_CFG_EN (port.val) = true) ∧ (s.on F.LETH_P_STAT_UP (port.val) = true) ∧ (s.power ≤ 2) ∧ (s.power ≠ 0)) ∧
    (∃ (port : Port) (stamp : DWord) (frame : List Byte) (code : Bool) (short : Bool) (desc : List Byte) (s : State), (s.hostLive = true) ∧
      (s.on F.LETH_P_CFG_EN (port.val) = true) ∧ (s.on F.LETH_P_STAT_UP (port.val) = true) ∧ (s.power ≤ 2) ∧ (s.power = 0) ∧
      (decide (32768 < s.ethHeld (port.val) + (List.map BitVec.toNat frame).length) = true)) ∧
    (∃ (port : Port) (stamp : DWord) (frame : List Byte) (code : Bool) (short : Bool) (desc : List Byte) (s : State), (s.hostLive = true) ∧
      (s.on F.LETH_P_CFG_EN (port.val) = true) ∧ (s.on F.LETH_P_STAT_UP (port.val) = true) ∧ (s.power ≤ 2) ∧ (s.power = 0) ∧
      (decide (32768 < s.ethHeld (port.val) + (List.map BitVec.toNat frame).length) = false) ∧ (code = true ∨ (List.map
      BitVec.toNat frame).length < 64 ∨ 1522 < (List.map BitVec.toNat frame).length ∨ s.ethDaOk ((port.val)) (List.map
      BitVec.toNat frame) = false ∨ List.drop ((List.map BitVec.toNat frame).length - 4) (List.map BitVec.toNat frame) ≠ le 4
      (crc32r (List.take ((List.map BitVec.toNat frame).length - 4) (List.map BitVec.toNat frame))))) ∧
    (∃ (port : Port) (stamp : DWord) (frame : List Byte) (code : Bool) (short : Bool) (desc : List Byte) (s : State), (s.hostLive = true) ∧
      (s.on F.LETH_P_CFG_EN (port.val) = true) ∧ (s.on F.LETH_P_STAT_UP (port.val) = true) ∧ (s.power ≤ 2) ∧ (s.power = 0) ∧
      (decide (32768 < s.ethHeld (port.val) + (List.map BitVec.toNat frame).length) = false) ∧ (code = false) ∧ (64 ≤ (List.map
      BitVec.toNat frame).length) ∧ ((List.map BitVec.toNat frame).length ≤ 1522) ∧ (s.ethDaOk ((port.val)) (List.map
      BitVec.toNat frame) = true) ∧ (List.drop ((List.map BitVec.toNat frame).length - 4) (List.map BitVec.toNat frame) = le 4
      (crc32r (List.take ((List.map BitVec.toNat frame).length - 4) (List.map BitVec.toNat frame)))) ∧ (isPause (s.ethMac
      (port.val)) (List.take ((List.map BitVec.toNat frame).length - 4) (List.map BitVec.toNat frame)) = true)) ∧
    (∃ (port : Port) (stamp : DWord) (frame : List Byte) (code : Bool) (short : Bool) (desc : List Byte) (s : State), (s.hostLive = true) ∧
      (s.on F.LETH_P_CFG_EN (port.val) = true) ∧ (s.on F.LETH_P_STAT_UP (port.val) = true) ∧ (s.power ≤ 2) ∧ (s.power = 0) ∧
      (decide (32768 < s.ethHeld (port.val) + (List.map BitVec.toNat frame).length) = false) ∧ (code = false) ∧ (64 ≤ (List.map
      BitVec.toNat frame).length) ∧ ((List.map BitVec.toNat frame).length ≤ 1522) ∧ (s.ethDaOk ((port.val)) (List.map
      BitVec.toNat frame) = true) ∧ (List.drop ((List.map BitVec.toNat frame).length - 4) (List.map BitVec.toNat frame) = le 4
      (crc32r (List.take ((List.map BitVec.toNat frame).length - 4) (List.map BitVec.toNat frame)))) ∧ (isPause (s.ethMac
      (port.val)) (List.take ((List.map BitVec.toNat frame).length - 4) (List.map BitVec.toNat frame)) = false) ∧ (etherType
      (List.take ((List.map BitVec.toNat frame).length - 4) (List.map BitVec.toNat frame)) = 35063) ∧ (bit (s.get
      F.LINE_PTP_EN_EN) (port.val) = true)) ∧
    (∃ (port : Port) (stamp : DWord) (frame : List Byte) (code : Bool) (short : Bool) (desc : List Byte) (s : State), (s.hostLive = true) ∧
      (s.on F.LETH_P_CFG_EN (port.val) = true) ∧ (s.on F.LETH_P_STAT_UP (port.val) = true) ∧ (s.power ≤ 2) ∧ (s.power = 0) ∧
      (decide (32768 < s.ethHeld (port.val) + (List.map BitVec.toNat frame).length) = false) ∧ (code = false) ∧ (64 ≤ (List.map
      BitVec.toNat frame).length) ∧ ((List.map BitVec.toNat frame).length ≤ 1522) ∧ (s.ethDaOk ((port.val)) (List.map
      BitVec.toNat frame) = true) ∧ (List.drop ((List.map BitVec.toNat frame).length - 4) (List.map BitVec.toNat frame) = le 4
      (crc32r (List.take ((List.map BitVec.toNat frame).length - 4) (List.map BitVec.toNat frame)))) ∧ (isPause (s.ethMac
      (port.val)) (List.take ((List.map BitVec.toNat frame).length - 4) (List.map BitVec.toNat frame)) = false) ∧ (etherType
      (List.take ((List.map BitVec.toNat frame).length - 4) (List.map BitVec.toNat frame)) ≠ 35063 ∨ bit (s.get
      F.LINE_PTP_EN_EN) (port.val) = false) ∧ (s.localHeld = true)) ∧
    (∃ (port : Port) (stamp : DWord) (frame : List Byte) (code : Bool) (short : Bool) (desc : List Byte) (s : State), (s.hostLive = true) ∧
      (s.on F.LETH_P_CFG_EN (port.val) = true) ∧ (s.on F.LETH_P_STAT_UP (port.val) = true) ∧ (s.power ≤ 2) ∧ (s.power = 0) ∧
      (decide (32768 < s.ethHeld (port.val) + (List.map BitVec.toNat frame).length) = false) ∧ (code = false) ∧ (64 ≤ (List.map
      BitVec.toNat frame).length) ∧ ((List.map BitVec.toNat frame).length ≤ 1522) ∧ (s.ethDaOk ((port.val)) (List.map
      BitVec.toNat frame) = true) ∧ (List.drop ((List.map BitVec.toNat frame).length - 4) (List.map BitVec.toNat frame) = le 4
      (crc32r (List.take ((List.map BitVec.toNat frame).length - 4) (List.map BitVec.toNat frame)))) ∧ (isPause (s.ethMac
      (port.val)) (List.take ((List.map BitVec.toNat frame).length - 4) (List.map BitVec.toNat frame)) = false) ∧ (etherType
      (List.take ((List.map BitVec.toNat frame).length - 4) (List.map BitVec.toNat frame)) ≠ 35063 ∨ bit (s.get
      F.LINE_PTP_EN_EN) (port.val) = false) ∧ (s.localHeld = false) ∧ (s.fallsShort short = true)) ∧
    (∃ (port : Port) (stamp : DWord) (frame : List Byte) (code : Bool) (short : Bool) (desc : List Byte) (s : State), (s.hostLive = true) ∧
      (s.on F.LETH_P_CFG_EN (port.val) = true) ∧ (s.on F.LETH_P_STAT_UP (port.val) = true) ∧ (s.power ≤ 2) ∧ (s.power = 0) ∧
      (decide (32768 < s.ethHeld (port.val) + (List.map BitVec.toNat frame).length) = false) ∧ (code = false) ∧ (64 ≤ (List.map
      BitVec.toNat frame).length) ∧ ((List.map BitVec.toNat frame).length ≤ 1522) ∧ (s.ethDaOk ((port.val)) (List.map
      BitVec.toNat frame) = true) ∧ (List.drop ((List.map BitVec.toNat frame).length - 4) (List.map BitVec.toNat frame) = le 4
      (crc32r (List.take ((List.map BitVec.toNat frame).length - 4) (List.map BitVec.toNat frame)))) ∧ (isPause (s.ethMac
      (port.val)) (List.take ((List.map BitVec.toNat frame).length - 4) (List.map BitVec.toNat frame)) = false) ∧ (etherType
      (List.take ((List.map BitVec.toNat frame).length - 4) (List.map BitVec.toNat frame)) ≠ 35063 ∨ bit (s.get
      F.LINE_PTP_EN_EN) (port.val) = false) ∧ (s.localHeld = false) ∧ (s.fallsShort short = false) ∧ (((s.inc F.LETH_P_RX_OK (port.val)).ctxAlloc 9 1
      (536870912 + (port.val))).fst = true)) ∧
    (∃ (port : Port) (stamp : DWord) (frame : List Byte) (code : Bool) (short : Bool) (desc : List Byte) (s : State), (s.hostLive = true) ∧
      (s.on F.LETH_P_CFG_EN (port.val) = true) ∧ (s.on F.LETH_P_STAT_UP (port.val) = true) ∧ (s.power ≤ 2) ∧ (s.power = 0) ∧
      (decide (32768 < s.ethHeld (port.val) + (List.map BitVec.toNat frame).length) = false) ∧ (code = false) ∧ (64 ≤ (List.map
      BitVec.toNat frame).length) ∧ ((List.map BitVec.toNat frame).length ≤ 1522) ∧ (s.ethDaOk ((port.val)) (List.map
      BitVec.toNat frame) = true) ∧ (List.drop ((List.map BitVec.toNat frame).length - 4) (List.map BitVec.toNat frame) = le 4
      (crc32r (List.take ((List.map BitVec.toNat frame).length - 4) (List.map BitVec.toNat frame)))) ∧ (isPause (s.ethMac
      (port.val)) (List.take ((List.map BitVec.toNat frame).length - 4) (List.map BitVec.toNat frame)) = false) ∧ (etherType
      (List.take ((List.map BitVec.toNat frame).length - 4) (List.map BitVec.toNat frame)) ≠ 35063 ∨ bit (s.get
      F.LINE_PTP_EN_EN) (port.val) = false) ∧ (s.localHeld = false) ∧ (s.fallsShort short = false) ∧ (s.get F.TRW_CTX_Q_MAX 9 ≤ s.get F.TRW_CTX_INUSE 9)) ∧
    (∃ (port : Port) (los : Bool) (sync : Bool) (an : Bool) (s : State), (s.hostLive = true) ∧ (s.on F.LETH_P_STAT_UP
      (port.val) = false) ∧ ((!los && sync && (!s.on F.LETH_P_CFG_AN_EN (port.val) || an)) = true)) ∧
    (∃ (port : Port) (los : Bool) (sync : Bool) (an : Bool) (s : State), (s.hostLive = true) ∧ (s.on F.LETH_P_STAT_UP
      (port.val) = true) ∧ ((!los && sync && (!s.on F.LETH_P_CFG_AN_EN (port.val) || an)) = false)) :=
  ⟨⟨1, 0, macF, false, false, [], slp (leth live) 1, by decide +kernel⟩,
   ⟨1, 0, macF, false, false, [], wl (leth live) fun l => { l with ethRx := [(1, 0, List.replicate 32768 0, [])] },
     by decide +kernel⟩,
   ⟨1, 0, [], true, false, [], ptp, by decide +kernel⟩,
   ⟨1, 0, pauseF, false, false, [], leth live, by decide +kernel⟩,
   ⟨1, 0, ptpF, false, false, [], (leth live).set F.LINE_PTP_EN_EN 0xFF, by decide +kernel⟩,
   ⟨1, 0, macF, false, false, [], sl (leth live) 9 3, by decide +kernel⟩,
   ⟨1, 0, macF, false, true, [], (leth live).set F.TRW_WHEEL_STAT_SHORT 1, by decide +kernel⟩,
   ⟨1, 0, [1, 0, 0x5e, 0, 0, 1, 9, 0xa, 0xb, 0xc, 0xd, 0xe, 0xf, 0x10, 0x11, 0x12, 0x13, 0x14, 0x15, 0x16, 0x17, 0x18, 0x19,
     0x1a, 0x1b, 0x1c, 0x1d, 0x1e, 0x1f, 0x20, 0x21, 0x22, 0x23, 0x24, 0x25, 0x26, 0x27, 0x28, 0x29, 0x2a, 0x2b, 0x2c, 0x2d,
     0x2e, 0x2f, 0x30, 0x31, 0x32, 0x33, 0x34, 0x35, 0x36, 0x37, 0x38, 0x39, 0x3a, 0x3b, 0x3c, 0x3d, 0x3e, 0xd6, 0, 0x94, 0x35],
     false, false, [], ptp, by decide +kernel⟩,
   ⟨1, 0, macF, false, false, [], (leth live).set F.TRW_CTX_Q_MAX 0 9, by decide +kernel⟩,
   ⟨0, false, true, true, live, by decide +kernel⟩,
   ⟨1, true, true, true, ptp, by decide +kernel⟩⟩

theorem witness_ReservedPage :
    (∃ (ifc : Ifc) (addr : BitVec 18) (v : Reg) (be : BitVec 4) (facts : WFacts) (s : State), (addr.toNat % 4 = 0) ∧
      (pageReserved (addr.toNat / 4096) = true) ∧ (s.ifcTakes ifc (addr.toNat / 4096) = true)) ∧
    (∃ (ifc : Ifc) (addr : BitVec 18) (v : Reg) (be : BitVec 4) (facts : WFacts) (s : State) (f : Fld) (p : Nat), (addr.toNat
      % 4 = 0) ∧ (pageReserved (addr.toNat / 4096) = true) ∧ (s.ifcTakes ifc (addr.toNat / 4096) = true) ∧ (f ∈
      [F.PG_CLAMP_OFFSET, F.PG_CLAMP_CAUSE, F.PG_CLAMP_FIELD, F.PG_CLAMP_COUNT, F.PG_CLAMP_VALID, F.PG_CLAMP_VAL,
      F.PG_CLAMP_RES, F.PG_SEQ, F.PG_IRQ_RAW])) :=
  ⟨⟨Ifc.pcie, 0x7000, 0, 0, facts0, live, by decide +kernel⟩,
   ⟨Ifc.pcie, 0x7000, 0, 0, facts0, live, { base := 28, stride := 4096, lo := 0, width := 12, reset := Rst.v 0 }, 0,
     by decide +kernel⟩⟩

theorem witness_PlumbAndEvidence :
    (∃ (slot : Fin 1024) (e : Slot) (s : State), (s.running = true) ∧ (s.standby = true) ∧ (s.slot (slot.val) = some e) ∧
      ((s.twin.would.any fun (x : Nat × Nat) => x.fst == (slot.val)) = true)) ∧
    (∃ (slot : Fin 1024) (s : State), (s.running = true) ∧ (s.standby = false ∨ s.slot (slot.val) = none ∨ (s.twin.would.any
      fun (x : Nat × Nat) => x.fst == (slot.val)) = false)) ∧
    (∃ (s : State) (slot : Nat) (pm : Bool), (s.awake 25 = true) ∧ (s.awake 8 = true) ∧ (s.boot.role = 3) ∧ (s.pairClose
      slot = none)) ∧
    (∃ (s : State) (slot : Nat) (t : Nat), (s.awake 25 = true) ∧ (s.awake 8 = true) ∧ (s.boot.role = 3) ∧ (s.pairClose slot =
      some t)) ∧
    (∃ (s : State) (slot : Nat) (t : Nat), (s.awake 25 = true) ∧ (s.awake 8 = true) ∧ (s.boot.role = 3) ∧ (s.pairClose slot =
      some t) ∧ (s.on F.TWIN_ARB_CFG_AUTO = false)) ∧
    (∃ (s : State) (slot : Nat) (t : Nat), (s.awake 25 = true) ∧ (s.awake 8 = true) ∧ (s.boot.role = 3) ∧ (s.pairClose slot =
      some t) ∧ (s.on F.TWIN_ARB_CFG_AUTO = true) ∧ (s.drivenOut (1 - s.twin.standby) = false) ∧ (s.eligible false = true)) ∧
    (∃ (s : State) (a : Option (List Nat)) (b : Option (List Nat)) (pmA : Bool) (pmB : Bool), (s.awake 25 = true) ∧ (s.awake
      8 = true) ∧ (s.boot.role = 3) ∧ (s.on F.TWIN_ARB_CFG_AUTO = false)) ∧
    (∃ (s : State) (pmA : Bool) (pmB : Bool) (word : Nat), (s.awake 25 = true) ∧ (s.awake 8 = true) ∧ (s.boot.role = 3) ∧
      (s.on F.TWIN_ARB_CFG_AUTO = true) ∧ (s.twin.standby = 1) ∧ (s.twin.swapOn = false) ∧ (s.arbHealth 0 % 4 = 1) ∧
      (s.drivenOut 0 = false) ∧ (s.get F.TWIN_ARB_CFG_HB_MISS ≤ look 0 0 s.twin.hbMiss + 1) ∧ (word < 2 ^ 32) ∧ (word % 4 = 0) ∧
      (bit word 5 = false) ∧ (bit word 6 = false) ∧ (bit word 12 = false)) :=
  ⟨⟨0, { start := 0, len := 150000, kind := 1, mode := 3, noA := false, val := 0, dst := 63, maxLen := 4, stream := 65535 },
     tw A fun t => { t with would := [(3, 7), (0, 3)] }, by decide +kernel⟩,
   ⟨0, live, by decide +kernel⟩,
   ⟨Arb, 0, true, by decide +kernel⟩,
   ⟨pairS, 7, (pairS.pairClose 7).getD 0, by decide +kernel⟩,
   ⟨pairS.set F.TWIN_ARB_CFG_AUTO 0, 7, (pairS.pairClose 7).getD 0, by decide +kernel⟩,
   ⟨((tw (pairS.set F.TWIN_ARB_CFG_AUTO 1) (fun t => {t with standby := 1})).set F.TWIN_ARB_STAT_HB_OK 3), 7, (pairS.pairClose
     7).getD 0, by decide +kernel⟩,
   ⟨Arb.set F.TWIN_ARB_CFG_AUTO 0, none, none, true, true, by decide +kernel⟩,
   ⟨au, true, true, 0, by decide +kernel⟩⟩

theorem witness_SlicesAndRuns :
    (∃ (s : State), (s.hostLive = true) ∧ (s.testMode = 1) ∧ (s.power = 0) ∧ (s.on F.PWR_STAT_ENTERING = false) ∧
      (s.islandState 8 = 1) ∧ (s.get F.LANE_REST_REST ≤ 8) ∧ (∀ (y : Nat × Nat), y ∈ s.test.slices → 9 ≤ y.fst) ∧
      (s.trw.rotate = false) ∧ (s.test.running.contains (s.get F.LANE_REST_REST) = true)) ∧
    (∃ (s : State), (s.hostLive = true) ∧ (s.testMode ≠ 1 ∨ 8 < s.get F.LANE_REST_REST ∨ s.power ≠ 0 ∨ s.trw.rotate = true)) ∧
    (∃ (tie : Bool) (s : State), (s.hostLive = true) ∧ (s.power = 0) ∧ (s.clk.ltOn = true) ∧ (s.on F.PWR_STAT_ENTERING =
      false) ∧ (s.on F.PWR_STAT_WAKING = false)) ∧
    (∃ (tie : Bool) (s : State), (s.hostLive = true) ∧ (s.power ≠ 0 ∨ s.clk.ltOn = false)) ∧
    (∃ (found : SliceFacts) (facts : WFacts) (s : State) (t : Nat), (s.test.slices = [(9, t)])) ∧
    (∃ (domain : Fin 33) (found : SliceFacts) (facts : WFacts) (s : State) (t : Nat), (s.test.slices = [((domain.val), t)]) ∧
      (s.host.staged = []) ∧ (s.trw.crossing = []) ∧ (s.loc.ethRx = []) ∧ (s.loc.canRx = []) ∧ (found.valid = false)) ∧
    (∃ (domain : Fin 33) (found : SliceFacts) (facts : WFacts) (s : State) (t : Nat), (s.test.slices = [((domain.val), t)]) ∧
      (s.host.staged = []) ∧ (s.trw.crossing = []) ∧ (s.loc.ethRx = []) ∧ (s.loc.canRx = []) ∧ (s.test.stale.contains
      (domain.val) = true) ∧ (found.valid = true)) ∧
    (∃ (domain : Fin 33) (found : SliceFacts) (facts : WFacts) (s : State) (t : Nat), (s.test.slices = [((domain.val), t)]) ∧
      (s.host.staged = []) ∧ (s.trw.crossing = []) ∧ (s.loc.ethRx = []) ∧ (s.loc.canRx = []) ∧ (s.test.stale = []) ∧
      (found.valid = true) ∧ (found.mismatch = false) ∧ (s.get F.LBST_D_STAT_SLICE (domain.val) + 1 < runSlices (domain.val))) ∧
    (∃ (domain : Fin 33) (found : SliceFacts) (facts : WFacts) (s : State) (t : Nat), (s.test.slices = [((domain.val), t)]) ∧
      (s.host.staged = []) ∧ (s.trw.crossing = []) ∧ (s.loc.ethRx = []) ∧ (s.loc.canRx = []) ∧ (s.test.stale = []) ∧
      (found.valid = true) ∧ (found.mismatch = false) ∧ (s.get F.LBST_D_STAT_SLICE (domain.val) + 1 = runSlices (domain.val)) ∧
      ((domain.val) < 9) ∧ (s.on F.LANE_CFG = false)) ∧
    (∃ (domain : Fin 33) (found : SliceFacts) (facts : WFacts) (s : State) (t : Nat), (s.test.slices = [((domain.val), t)]) ∧
      (s.host.staged = []) ∧ (s.trw.crossing = []) ∧ (s.loc.ethRx = []) ∧ (s.loc.canRx = []) ∧ (s.test.stale = []) ∧
      (found.valid = true) ∧ (found.mismatch = true) ∧ ((s.get F.LBST_D_STAT_SLICE (domain.val) + 1) % 64 = 0) ∧ ((domain.val) ≠
      9) ∧ (9 < (domain.val))) ∧
    (∃ (domain : Fin 33) (found : SliceFacts) (facts : WFacts) (s : State) (t : Nat), (s.test.slices = [((domain.val), t)]) ∧
      (s.host.staged = []) ∧ (s.trw.crossing = []) ∧ (s.loc.ethRx = []) ∧ (s.loc.canRx = []) ∧ (s.test.stale = []) ∧
      (found.valid = true) ∧ (found.mismatch = true) ∧ ((s.get F.LBST_D_STAT_SLICE (domain.val) + 1) % 64 = 0) ∧ ((domain.val) ≠
      9) ∧ ((domain.val) < 9)) ∧
    (∃ (domain : Fin 33) (found : SliceFacts) (facts : WFacts) (s : State) (t : Nat), (s.test.slices = [((domain.val), t)]) ∧
      (s.host.staged = []) ∧ (s.trw.crossing = []) ∧ (s.loc.ethRx = []) ∧ (s.loc.canRx = []) ∧ (s.test.stale = []) ∧
      (found.valid = true) ∧ (found.mismatch = true) ∧ ((s.get F.LBST_D_STAT_SLICE (domain.val) + 1) % 64 = 0) ∧ ((domain.val) ≠
      9) ∧ (10 ≤ (domain.val)) ∧ ((domain.val) ≤ 17) ∧ (s.on F.LBST_CFG_LINTEL_HOLD = true) ∧ (s.lines.length = 8)) ∧
    (∃ (domain : Fin 33) (found : SliceFacts) (facts : WFacts) (s : State) (t : Nat), (s.test.slices = [((domain.val), t)]) ∧
      (s.host.staged = []) ∧ (s.trw.crossing = []) ∧ (s.loc.ethRx = []) ∧ (s.loc.canRx = []) ∧ (s.test.stale = []) ∧
      (found.valid = true) ∧ (found.mismatch = true) ∧ ((s.get F.LBST_D_STAT_SLICE (domain.val) + 1) % 64 = 0) ∧ ((domain.val) =
      9) ∧ (found.lane < 9)) ∧
    (∃ (domain : Fin 33) (s : State) (t : Nat), (s.hostLive = true) ∧ (List.find? (fun (x : Nat × Nat) => x.fst ==
      (domain.val)) s.test.due = some ((domain.val), t))) ∧
    (∃ (domain : Fin 33) (s : State), (s.hostLive = true) ∧ (List.find? (fun (x : Nat × Nat) => x.fst == (domain.val))
      s.test.due = none)) ∧
    (∃ (ifc : Ifc) (domain : Fin 33) (facts : WFacts) (s : State), (s.takes ifc 147724 = true) ∧ (s.domainOn (domain.val) =
      true)) ∧
    (∃ (ifc : Ifc) (domain : Fin 33) (facts : WFacts) (s : State), (s.takes ifc 147724 = true) ∧ (s.domainOn (domain.val) =
      false)) ∧
    (∃ (ifc : Ifc) (domain : Fin 33) (facts : WFacts) (s : State), (s.takes ifc 147724 = true) ∧ (10 ≤ (domain.val)) ∧
      ((domain.val) ≤ 17) ∧ (s.get F.LBST_D_STAT_STATE (domain.val) = 2) ∧ (s.on F.LBST_D_STAT_HELD (domain.val) = true) ∧
      (s.lines.length = 8) ∧ ((s.line ((domain.val) - 10)).map.isSome = true) ∧ (s.lintel ((domain.val) - 10) = 1)) ∧
    (∃ (ifc : Ifc) (domain : Fin 33) (facts : WFacts) (s : State), (s.takes ifc 147724 = true) ∧ ((domain.val) < 10 ∨ 17 <
      (domain.val) ∨ s.get F.LBST_D_STAT_STATE (domain.val) ≠ 2 ∨ s.on F.LBST_D_STAT_HELD (domain.val) = false)) :=
  ⟨⟨wt live fun t => { t with running := [8, 0] }, by decide +kernel⟩,
   ⟨((slp live 1).set F.SPK_CFG_GEN 2 1).set F.WAKE_LINE_EN 0, by decide +kernel⟩,
   ⟨true, live, by decide +kernel⟩,
   ⟨true, ((slp live 1).set F.SPK_CFG_GEN 2 1).set F.WAKE_LINE_EN 0, by decide +kernel⟩,
   ⟨⟨800, 800, 800, 0, true, false, 0⟩, facts0, sl live 9 3, 1000000000, by decide +kernel⟩,
   ⟨0, { vddMin := 800, vddMax := 800, vddLast := 800, freqErr := 0, pll := false, mismatch := false, lane := 0 }, facts0, sl
     live 0 (runSlices 0 - 1), 1000000000, by decide +kernel⟩,
   ⟨10, ⟨800, 800, 800, 0, true, false, 0⟩, facts0, wt (sl live 10 3) fun t => { t with stale := [10] }, 1000000000,
     by decide +kernel⟩,
   ⟨10, ⟨800, 800, 800, 0, true, false, 0⟩, facts0, sl live 10 3, 1000000000, by decide +kernel⟩,
   ⟨3, ⟨800, 800, 800, 0, true, false, 0⟩, facts0, (sl live 3 (runSlices 3 - 1)).set F.LANE_CFG 0, 1000000000,
     by decide +kernel⟩,
   ⟨10, ⟨800, 800, 800, 0, true, true, 0⟩, facts0, sl live 10 63, 1000000000, by decide +kernel⟩,
   ⟨3, ⟨800, 800, 800, 0, true, true, 0⟩, facts0, sl live 3 63, 1000000000, by decide +kernel⟩,
   ⟨10, ⟨800, 800, 800, 0, true, true, 0⟩, facts0, (sl live 10 63).set F.LBST_CFG_LINTEL_HOLD 1, 1000000000,
     by decide +kernel⟩,
   ⟨9, ⟨800, 800, 800, 0, true, true, 3⟩, facts0, sl live 9 63, 1000000000, by decide +kernel⟩,
   ⟨10, wt live fun t => { t with due := [(10, 5)] }, 5, by decide +kernel⟩,
   ⟨0, live, by decide +kernel⟩,
   ⟨Ifc.pcie, 0, facts0, live, by decide +kernel⟩,
   ⟨.pcie, 10, facts0, live.set F.LBST_CFG_EN 0, by decide +kernel⟩,
   ⟨.pcie, 10, facts0, mp (((live.set F.LBST_D_STAT_STATE 2 10).set F.LBST_D_STAT_HELD 1 10).set F.GRD_P_STAT_STATE 1 0) 0
     { Line.zero with map := some m0B }, by decide +kernel⟩,
   ⟨Ifc.pcie, 0, facts0, live, by decide +kernel⟩⟩

theorem witness_BranchesAndBabble :
    (∃ (port : Port) (s : State), (s.awake (port.val) = true)) ∧
    (∃ (port : Port) (slot : Fin 1024) (s : State), (s.awake (port.val) = true)) ∧
    (∃ (port : Port) (slot : Fin 1024) (src : BitVec 6) (s : State), (s.awake (port.val) = true) ∧ (s.gated (port.val) = true)
      ∧ (s.lines.length = 8) ∧ ((s.line (port.val)).violNow = false) ∧ (s.get F.HUB_BR_STAT_STATE (port.val) = 0) ∧ (s.get
      F.HUB_CFG_CUT_N ≤ (s.line (port.val)).violRun + 1)) ∧
    (∃ (port : Port) (slot : Fin 1024) (src : BitVec 6) (s : State), (s.awake (port.val) = true) ∧ (s.gated (port.val) = true)
      ∧ (s.lines.length = 8) ∧ ((s.line (port.val)).violNow = true ∨ (s.line (port.val)).violRun + 1 < s.get F.HUB_CFG_CUT_N)) ∧
    (∃ (port : Port) (slot : Fin 1024) (src : BitVec 6) (s : State), (s.awake (port.val) = true) ∧ (s.gated (port.val) =
      false)) ∧
    (∃ (port : Port) (s : State), (s.awake (port.val) = true) ∧ (s.get F.HUB_BR_STAT_STATE (port.val) ≠ 1 ∨ s.on F.HUB_BR_CFG
      (port.val) = true ∨ s.get F.HUB_BR_STAT_CLEAN (port.val) < s.get F.HUB_CFG_CLEAN_N)) ∧
    (∃ (port : Port) (s : State), (s.awake (port.val) = true) ∧ (s.get F.HUB_BR_STAT_STATE (port.val) = 1) ∧ (s.on
      F.HUB_BR_CFG (port.val) = false) ∧ (s.get F.HUB_CFG_CLEAN_N ≤ s.get F.HUB_BR_STAT_CLEAN (port.val))) :=
  ⟨⟨0, live, by decide +kernel⟩,
   ⟨0, 0, live, by decide +kernel⟩,
   ⟨2, 0, 0, hb1, by decide +kernel⟩,
   ⟨2, 0, 0, hb, by decide +kernel⟩,
   ⟨0, 0, 0, live, by decide +kernel⟩,
   ⟨0, live, by decide +kernel⟩,
   ⟨2, hb2, by decide +kernel⟩⟩

theorem witness_NetworkSleep :
    (∃ (s : State), (s.running = true) ∧ (s.actsDatum = true) ∧ (s.get F.WAKE_STAT_UNANIMOUS = 8) ∧ (s.pwr.announce = none)) ∧
    (∃ (s : State), (s.running = false ∨ s.actsDatum = false ∨ s.get F.WAKE_STAT_UNANIMOUS ≠ 8 ∨ s.pwr.announce ≠ none)) ∧
    (∃ (s : State), (s.awake 8 = false ∨ s.get F.WAKE_STOP = 0 ∨ s.power ≠ 0 ∨ s.on F.PWR_STAT_ENTERING = true ∨ s.on
      F.PWR_STAT_WAKING = true ∨ s.get F.WAKE_STOP ≠ s.course ∧ s.get F.WAKE_STOP ≠ s.course + 1)) ∧
    (∃ (s : State), (s.awake 8 = true) ∧ (s.get F.WAKE_STOP ≠ 0) ∧ (s.get F.WAKE_STOP = s.course) ∧ (s.power = 0) ∧ (s.on
      F.PWR_STAT_ENTERING = false) ∧ (s.on F.PWR_STAT_WAKING = false) ∧ (s.pwr.exiting = false) ∧ (s.votesSleep = true)) ∧
    (∃ (s : State), (s.awake 8 = true) ∧ (s.get F.WAKE_STOP ≠ 0) ∧ (s.get F.WAKE_STOP = s.course) ∧ (s.power = 0) ∧ (s.on
      F.PWR_STAT_ENTERING = false) ∧ (s.on F.PWR_STAT_WAKING = false) ∧ (s.pwr.exiting = false) ∧ (s.votesSleep = false) ∧
      (s.pins.main = true) ∧ (s.on F.TALY_STAT_SAVING = false) ∧ (s.isl.frozen.contains 29 = false)) ∧
    (∃ (port : Port) (s : State), (s.awake (port.val) = false ∨ s.awake 8 = false ∨ s.on F.PWR_STAT_WAKING = false ∨
      (s.serving.contains (port.val) && (s.up (port.val) || s.get F.SPK_CFG_GEN (port.val) == 1)) = false ∨ s.boot.twin = true ∧
      s.twin.roleLevel ≠ 1)) ∧
    (∃ (port : Port) (s : State), (s.awake (port.val) = true) ∧ (s.awake 8 = true) ∧ (s.on F.PWR_STAT_WAKING = true) ∧
      ((s.serving.contains (port.val) && (s.up (port.val) || s.get F.SPK_CFG_GEN (port.val) == 1)) = true) ∧ (s.boot.twin =
      false ∨ s.twin.roleLevel = 1)) ∧
    (∃ (port : Port) (s : State) (ack : Bool), (s.isl.started < 8 ∨ s.islandAsleep 29 = true)) ∧
    (∃ (port : Port) (s : State), (8 ≤ s.isl.started) ∧ (s.islandAsleep 29 = false) ∧ (s.pwr.wokeBy = some (port.val)) ∧
      (s.power = 0 ∨ s.pwr.exiting = true)) ∧
    (∃ (port : Port) (s : State), (8 ≤ s.isl.started) ∧ (s.islandAsleep 29 = false) ∧ (s.pwr.wokeBy ≠ some (port.val) ∨
      s.power ≠ 0 ∧ s.pwr.exiting = false)) ∧
    (∃ (port : Port) (s : State), (8 ≤ s.isl.started) ∧ (s.islandAsleep 29 = false) ∧ (s.up (port.val) = true) ∧
      (s.islandAsleep (port.val) = false) ∧ (s.power ≤ 1)) ∧
    (∃ (port : Port) (s : State), (8 ≤ s.isl.started) ∧ (s.islandAsleep 29 = false) ∧ (s.up (port.val) = false ∨
      s.islandAsleep (port.val) = true ∨ 1 < s.power)) :=
  ⟨⟨uni, by decide +kernel⟩,
   ⟨live, by decide +kernel⟩,
   ⟨live, by decide +kernel⟩,
   ⟨vs datum, by decide +kernel⟩,
   ⟨datum.set F.WAKE_STOP 17, by decide +kernel⟩,
   ⟨0, live, by decide +kernel⟩,
   ⟨0, datum.set F.PWR_STAT_WAKING 1, by decide +kernel⟩,
   ⟨0, fz, true, by decide +kernel⟩,
   ⟨1, wp live fun p => { p with wokeBy := some 1 }, by decide +kernel⟩,
   ⟨0, live, by decide +kernel⟩,
   ⟨0, datum, by decide +kernel⟩,
   ⟨0, live, by decide +kernel⟩⟩

theorem witness_ClampRule :
    (∃ (ifc : Ifc) (v : Reg) (facts : WFacts) (s : State), (s.takes ifc 20764 = true) ∧ (BitVec.toNat v % 256 ≠ 0) ∧
      (BitVec.toNat v < 256)) ∧
    (∃ (ifc : Ifc) (v : Reg) (facts : WFacts) (s : State), (s.takes ifc 20764 = true) ∧ (v = 0)) ∧
    (∃ (ifc : Ifc) (v : Reg) (facts : WFacts) (s : State), (s.takes ifc 20764 = true) ∧ (BitVec.toNat v % 256 ≠ 0) ∧ (256 ≤
      BitVec.toNat v)) ∧
    (∃ (ifc : Ifc) (v : Reg) (facts : WFacts) (s : State), (s.takes ifc 280 = true) ∧ (s.takes ifc 240 = true) ∧ (s.takes ifc
      260 = true) ∧ (BitVec.toNat v < 65536) ∧ (v ≠ 42330) ∧ (v ≠ 0)) ∧
    (∃ (ifc : Ifc) (v : Reg) (facts : WFacts) (s : State), (s.takes ifc 280 = true) ∧ (s.takes ifc 240 = true) ∧ (s.takes ifc
      260 = true)) ∧
    (∃ (ifc : Ifc) (v : Reg) (facts : WFacts) (s : State), (s.takes ifc 280 = true) ∧ (s.takes ifc 240 = true) ∧ (s.takes ifc
      260 = true)) ∧
    (∃ (s : State) (e : ClampEv), (e.page < 64) ∧ (e.off < 4096) ∧ (e.cause < 16) ∧ (e.field < 256)) ∧
    (∃ (s : State) (e : ClampEv), (e.page < 64) ∧ (e.off < 4096) ∧ (e.cause < 16) ∧ (e.field < 256)) ∧
    (∃ (s : State) (e : ClampEv), (e.page < 64) ∧ (e.off < 4096) ∧ (e.cause < 16) ∧ (e.field < 256)) ∧
    (∃ (s : State) (e : ClampEv), (e.page < 64) ∧ (e.off < 4096) ∧ (e.cause < 16) ∧ (e.field < 256)) ∧
    (∃ (s : State) (e : ClampEv), (e.page < 64) ∧ (e.off < 4096) ∧ (e.cause < 16) ∧ (e.field < 256)) ∧
    (∃ (s : State) (e : ClampEv), (e.page < 64) ∧ (e.off < 4096) ∧ (e.cause < 16) ∧ (e.field < 256)) ∧
    (∃ (s : State) (e : ClampEv), (e.page < 64) ∧ (e.off < 4096) ∧ (e.cause < 16) ∧ (e.field < 256)) ∧
    (∃ (s : State) (e : ClampEv), (e.page < 64) ∧ (e.off < 4096) ∧ (e.cause < 16) ∧ (e.field < 256)) ∧
    (∃ (s : State) (e : ClampEv), (e.page < 64) ∧ (e.off < 4096) ∧ (e.cause < 16) ∧ (e.field < 256) ∧ (s.isl.frozen.contains
      29 = false) ∧ (s.on F.PG_CTRL_FREEZE 1 = false)) ∧
    (∃ (s : State) (e : ClampEv), (e.page < 64) ∧ (e.off < 4096) ∧ (e.cause < 16) ∧ (e.field < 256) ∧ (s.isl.frozen.contains
      29 = false) ∧ (s.on F.PG_CTRL_FREEZE 1 = false)) ∧
    (∃ (s : State) (e : ClampEv), (e.page < 64) ∧ (e.off < 4096) ∧ (e.cause < 16) ∧ (e.field < 256) ∧ (s.isl.frozen.contains
      29 = false) ∧ (s.on F.PG_CTRL_FREEZE 1 = false)) ∧
    (∃ (s : State) (e : ClampEv), (e.page < 64) ∧ (e.off < 4096) ∧ (e.cause < 16) ∧ (e.field < 256) ∧ (s.isl.frozen.contains
      29 = false) ∧ (s.on F.PG_CTRL_FREEZE 1 = false)) ∧
    (∃ (s : State) (e : ClampEv), (e.page < 64) ∧ (e.off < 4096) ∧ (e.cause < 16) ∧ (e.field < 256) ∧ (s.isl.frozen.contains
      29 = false) ∧ (s.on F.PG_CTRL_FREEZE 1 = false)) ∧
    (∃ (s : State) (e : ClampEv), (e.page < 64) ∧ (e.off < 4096) ∧ (e.cause < 16) ∧ (e.field < 256) ∧ (s.isl.frozen.contains
      29 = false) ∧ (s.on F.PG_CTRL_FREEZE 1 = false)) ∧
    (∃ (s : State) (e : ClampEv), (e.page < 64) ∧ (e.off < 4096) ∧ (e.cause < 16) ∧ (e.field < 256) ∧ (s.isl.frozen.contains
      29 = false) ∧ (s.on F.PG_CTRL_FREEZE 1 = false)) :=
  ⟨⟨Ifc.pcie, 1, facts0, live, by decide +kernel⟩,
   ⟨Ifc.pcie, 0, facts0, live, by decide +kernel⟩,
   ⟨Ifc.pcie, 0x1ff, facts0, live, by decide +kernel⟩,
   ⟨Ifc.pcie, 1, facts0, live, by decide +kernel⟩,
   ⟨Ifc.pcie, 0, facts0, live, by decide +kernel⟩,
   ⟨Ifc.pcie, 0, facts0, live, by decide +kernel⟩,
   ⟨live, { page := 8, field := 0, cause := 0, off := 284, written := 0, applied := 1, master := 0 }, by decide +kernel⟩,
   ⟨live, { page := 8, field := 0, cause := 0, off := 284, written := 0, applied := 1, master := 0 }, by decide +kernel⟩,
   ⟨live, { page := 8, field := 0, cause := 0, off := 284, written := 0, applied := 1, master := 0 }, by decide +kernel⟩,
   ⟨live, { page := 8, field := 0, cause := 0, off := 284, written := 0, applied := 1, master := 0 }, by decide +kernel⟩,
   ⟨live, { page := 8, field := 0, cause := 0, off := 284, written := 0, applied := 1, master := 0 }, by decide +kernel⟩,
   ⟨live, { page := 8, field := 0, cause := 0, off := 284, written := 0, applied := 1, master := 0 }, by decide +kernel⟩,
   ⟨live, { page := 8, field := 0, cause := 0, off := 284, written := 0, applied := 1, master := 0 }, by decide +kernel⟩,
   ⟨live, { page := 8, field := 0, cause := 0, off := 284, written := 0, applied := 1, master := 0 }, by decide +kernel⟩,
   ⟨live, { page := 8, field := 0, cause := 0, off := 284, written := 0, applied := 1, master := 0 }, by decide +kernel⟩,
   ⟨live, { page := 8, field := 0, cause := 0, off := 284, written := 0, applied := 1, master := 0 }, by decide +kernel⟩,
   ⟨live, { page := 8, field := 0, cause := 0, off := 284, written := 0, applied := 1, master := 0 }, by decide +kernel⟩,
   ⟨live, { page := 8, field := 0, cause := 0, off := 284, written := 0, applied := 1, master := 0 }, by decide +kernel⟩,
   ⟨live, { page := 8, field := 0, cause := 0, off := 284, written := 0, applied := 1, master := 0 }, by decide +kernel⟩,
   ⟨live, { page := 8, field := 0, cause := 0, off := 284, written := 0, applied := 1, master := 0 }, by decide +kernel⟩,
   ⟨live, { page := 8, field := 0, cause := 0, off := 284, written := 0, applied := 1, master := 0 }, by decide +kernel⟩⟩

theorem witness_LocalSend :
    (∃ (port : Port) (s : State), (s.hostLive = true) ∧ (s.localActive = false ∨ s.on F.LETH_P_CFG_EN (port.val) = false ∨
      s.on F.LETH_P_STAT_UP (port.val) = false ∨ s.paused (port.val) = true ∨ List.find? (fun (x : Nat × Ptp) => x.fst ==
      (port.val)) s.loc.ptpTx = none ∧ nextTurn (look 65535 (4 * (port.val) + List.foldl (fun (m : Nat) (h : LocalTx) => max m
      h.cls) 0 (heads s.loc.ethTx (port.val))) s.loc.turn) (List.filter (fun (h : LocalTx) => h.cls == List.foldl (fun (m : Nat)
      (h : LocalTx) => max m h.cls) 0 (heads s.loc.ethTx (port.val))) (heads s.loc.ethTx (port.val))) = none)) ∧
    (∃ (port : Port) (s : State) (m : Nat × Ptp), (s.hostLive = true) ∧ (s.localActive = true) ∧ (s.on F.LETH_P_CFG_EN
      (port.val) = true) ∧ (s.on F.LETH_P_STAT_UP (port.val) = true) ∧ (s.paused (port.val) = false) ∧ (List.find? (fun (x : Nat
      × Ptp) => x.fst == (port.val)) s.loc.ptpTx = some m)) ∧
    (∃ (port : Port) (s : State) (t : LocalTx), (s.hostLive = true) ∧ (s.localActive = true) ∧ (s.on F.LETH_P_CFG_EN
      (port.val) = true) ∧ (s.on F.LETH_P_STAT_UP (port.val) = true) ∧ (s.paused (port.val) = false) ∧ (List.find? (fun (x : Nat
      × Ptp) => x.fst == (port.val)) s.loc.ptpTx = none) ∧ (nextTurn (look 65535 (4 * (port.val) + List.foldl (fun (m : Nat) (h
      : LocalTx) => max m h.cls) 0 (heads s.loc.ethTx (port.val))) s.loc.turn) (List.filter (fun (h : LocalTx) => h.cls ==
      List.foldl (fun (m : Nat) (h : LocalTx) => max m h.cls) 0 (heads s.loc.ethTx (port.val))) (heads s.loc.ethTx
      (port.val))) = some t)) ∧
    (∃ (port : Port) (s : State), (s.hostLive = true)) ∧
    (∃ (ifc : Ifc) (port : Fin 12) (facts : WFacts) (s : State), ((port.val) < 8) ∧ (s.takes ifc (229888 + 64 * (port.val)) =
      true)) ∧
    (∃ (ifc : Ifc) (port : Fin 12) (facts : WFacts) (s : State), (8 ≤ (port.val)) ∧ (s.takes ifc (233984 + 64 * ((port.val) -
      8)) = true)) :=
  ⟨⟨0, live, by decide +kernel⟩,
   ⟨1, wl (leth live) fun l => { l with ptpTx := [(1, ⟨0, 1, 2, 3, [], [], 0, 0, 0x88F7⟩)] }, (1, ⟨0, 1, 2, 3, [], [], 0, 0,
     0x88F7⟩), by decide +kernel⟩,
   ⟨1, lc (lp live),
     { src := 3, cls := 1, data := [0, 1, 2, 3, 4, 5, 6, 7, 8, 9, 10, 11, 12, 13, 14, 15, 16, 17, 18, 19, 20, 21, 22, 23, 24, 25, 26, 27, 28, 29, 30, 31, 32, 33, 34, 35, 36, 37, 38, 39, 40, 41, 42, 43, 44, 45, 46, 47, 48, 49, 50, 51, 52, 53, 54, 55, 56, 57, 58, 59, 60, 61, 62, 63, 64, 65, 66, 67, 68, 69], idx := 0, desc := [0, 0, 0, 0, 0, 0, 0, 0, 0, 0, 0, 0, 0, 0, 0, 0, 0, 0, 0, 0, 0, 0, 0, 0, 0, 0, 0, 0, 0, 0, 0, 0] },
     by decide +kernel⟩,
   ⟨0, live, by decide +kernel⟩,
   ⟨Ifc.pcie, 0, facts0, live, by decide +kernel⟩,
   ⟨Ifc.pcie, 8, facts0, live, by decide +kernel⟩⟩

theorem witness_WakesThatStartTheExit :
    (∃ (s : State) (ifc : Ifc) (facts : WFacts), (s.power ≠ 0) ∧ (s.power ≠ 5) ∧ (s.pins.main = true) ∧ (s.on
      F.TALY_STAT_SAVING = false) ∧ (s.isl.frozen.contains 29 = false) ∧ (s.on F.PWR_STAT_ENTERING = false) ∧ (s.pwr.exiting =
      false) ∧ (8 ≤ s.isl.started) ∧ (s.takes ifc 12544 = true) ∧ (s.power ≤ 2)) ∧
    (∃ (s : State), (s.power ≠ 0) ∧ (s.power ≠ 5) ∧ (s.pins.main = true) ∧ (s.on F.TALY_STAT_SAVING = false) ∧
      (s.isl.frozen.contains 29 = false) ∧ (s.on F.PWR_STAT_ENTERING = false) ∧ (s.pwr.exiting = false) ∧ (8 ≤ s.isl.started)) ∧
    (∃ (s : State) (switch : Fin 4) (level : Bool), (s.power ≠ 0) ∧ (s.power ≠ 5) ∧ (s.pins.main = true) ∧ (s.on
      F.TALY_STAT_SAVING = false) ∧ (s.isl.frozen.contains 29 = false) ∧ (s.on F.PWR_STAT_ENTERING = false) ∧ (s.pwr.exiting =
      false) ∧ (8 ≤ s.isl.started) ∧ (s.get (F.WAKE_SW_CFG_MODE (switch.val)) = if level = true then 2 else 1)) ∧
    (∃ (s : State) (switch : Fin 4) (level : Bool), (s.power ≠ 0) ∧ (s.power ≠ 5) ∧ (s.pins.main = true) ∧ (s.on
      F.TALY_STAT_SAVING = false) ∧ (s.isl.frozen.contains 29 = false) ∧ (s.on F.PWR_STAT_ENTERING = false) ∧ (s.pwr.exiting =
      false) ∧ (8 ≤ s.isl.started) ∧ (s.get (F.WAKE_SW_CFG_MODE (switch.val)) ≠ if level = true then 2 else 1)) ∧
    (∃ (s : State) (port : Port), (s.power ≠ 0) ∧ (s.power ≠ 5) ∧ (s.pins.main = true) ∧ (s.on F.TALY_STAT_SAVING = false) ∧
      (s.isl.frozen.contains 29 = false) ∧ (s.on F.PWR_STAT_ENTERING = false) ∧ (s.pwr.exiting = false) ∧ (8 ≤ s.isl.started) ∧
      (s.islandAsleep 29 = false) ∧ (s.imageGet F.SPK_CFG_GEN (port.val) ≠ 0) ∧ (bit (s.get F.WAKE_LINE_EN) (port.val) = true) ∧
      (s.pwr.backoff = none)) ∧
    (∃ (s : State) (port : Port), (s.power ≠ 0) ∧ (s.power ≠ 5) ∧ (s.pins.main = true) ∧ (s.on F.TALY_STAT_SAVING = false) ∧
      (s.isl.frozen.contains 29 = false) ∧ (s.on F.PWR_STAT_ENTERING = false) ∧ (s.pwr.exiting = false) ∧ (8 ≤ s.isl.started) ∧
      (s.islandAsleep 29 = false) ∧ (s.imageGet F.SPK_CFG_GEN (port.val) ≠ 0) ∧ (bit (s.get F.WAKE_LINE_EN) (port.val) = true) ∧
      (s.pwr.backoff ≠ none)) ∧
    (∃ (port : Port) (s : State), (s.isl.started < 8 ∨ s.islandAsleep 29 = true ∨ s.power = 0 ∧ s.on F.PWR_STAT_ENTERING =
      false ∨ s.imageGet F.SPK_CFG_GEN (port.val) = 0 ∨ bit (s.get F.WAKE_LINE_EN) (port.val) = false)) ∧
    (∃ (ifc : Ifc) (facts : WFacts) (s : State), (s.on F.PWR_STAT_ENTERING = true) ∧ (s.power = 0) ∧ (s.pins.main = true) ∧
      (s.on F.TALY_STAT_SAVING = false) ∧ (s.isl.frozen.contains 29 = false) ∧ (s.takes ifc 12544 = true)) ∧
    (∃ (ifc : Ifc) (facts : WFacts) (s : State), (s.on F.PWR_STAT_ENTERING = true) ∧ (s.power = 0) ∧ (s.pins.main = true) ∧
      (s.on F.TALY_STAT_SAVING = false) ∧ (s.isl.frozen.contains 29 = false) ∧ (8 ≤ s.isl.started)) ∧
    (∃ (s : State), (s.isl.started < 8)) ∧
    (∃ (s : State) (switch : Fin 4) (level : Bool), (s.isl.started < 8)) ∧
    (∃ (s : State), (8 ≤ s.isl.started) ∧ (s.power = 0 ∧ s.on F.PWR_STAT_ENTERING = false ∨ s.power = 5 ∨ s.pins.main = false
      ∨ s.on F.TALY_STAT_SAVING = true ∨ s.isl.frozen.contains 29 = true)) ∧
    (∃ (s : State) (ifc : Ifc) (facts : WFacts), (s.takes ifc 12544 = true) ∧ (s.power = 0) ∧ (s.on F.PWR_STAT_ENTERING =
      false)) :=
  ⟨⟨((slp live 1).set F.SPK_CFG_GEN 2 1).set F.WAKE_LINE_EN 0, Ifc.pcie, facts0, by decide +kernel⟩,
   ⟨((slp live 1).set F.SPK_CFG_GEN 2 1).set F.WAKE_LINE_EN 0, by decide +kernel⟩,
   ⟨sw (slp live 3), 1, true, by decide +kernel⟩,
   ⟨((slp live 1).set F.SPK_CFG_GEN 2 1).set F.WAKE_LINE_EN 0, 0, true, by decide +kernel⟩,
   ⟨live.set F.PWR_STAT_STATE 1, 0, by decide +kernel⟩,
   ⟨wp (lns (slp live 2)) fun p => { p with backoff := some 77 }, 0, by decide +kernel⟩,
   ⟨0, live, by decide +kernel⟩,
   ⟨Ifc.pcie, facts0, ent live 1, by decide +kernel⟩,
   ⟨Ifc.pcie, facts0, ent live 1, by decide +kernel⟩,
   ⟨State.reset, by decide +kernel⟩,
   ⟨State.reset, 0, true, by decide +kernel⟩,
   ⟨live, by decide +kernel⟩,
   ⟨live, Ifc.pcie, facts0, by decide +kernel⟩⟩

theorem witness_MarchAndRepair :
    (∃ (ifc : Ifc) (bank : Bank) (mode : Bool) (full : Bool) (facts : WFacts) (s : State) (b : Nat), (s.takes ifc 139520 =
      true) ∧ (s.on F.MRCH_STAT_BUSY = false) ∧ (s.bank (bank.val) = 2) ∧ (s.bankGuarded (bank.val) = false ∨ mode = true) ∧
      (b < 64) ∧ (b ≠ (bank.val))) ∧
    (∃ (ifc : Ifc) (bank : Bank) (mode : Bool) (full : Bool) (facts : WFacts) (s : State) (k : Nat), (s.takes ifc 139520 =
      true) ∧ (s.on F.MRCH_STAT_BUSY = false) ∧ (s.bank (bank.val) = 2) ∧ (s.bankGuarded (bank.val) = false ∨ mode = true) ∧
      (mode = true ∨ k / 1048576 ≠ (bank.val))) ∧
    (∃ (ifc : Ifc) (bank : Bank) (mode : Bool) (full : Bool) (facts : WFacts) (s : State) (k : Nat), (s.takes ifc 139520 =
      true) ∧ (s.on F.MRCH_STAT_BUSY = false) ∧ (s.bank (bank.val) = 2) ∧ (s.bankGuarded (bank.val) = false ∨ mode = true) ∧
      (mode = false) ∧ (k / 1048576 = (bank.val))) ∧
    (∃ (ifc : Ifc) (facts : WFacts) (s : State) (r : MarchRun), (s.takes ifc 139520 = true) ∧ (s.on F.MRCH_STAT_BUSY = true) ∧
      (s.qry.march = some r)) ∧
    (∃ (s : State) (r : MarchRun), (s.answers 9 5 = true) ∧ (s.qry.march = some r) ∧ (r.destructive = false) ∧ (r.inSegment =
      false) ∧ (r.aborting = false) ∧ (r.segment < 256) ∧ (r.segEnd ≤ s.clk.now)) ∧
    (∃ (s : State) (r : MarchRun), (s.answers 9 5 = true) ∧ (s.qry.march = some r) ∧ (r.destructive = true)) ∧
    (∃ (s : State) (r : MarchRun), (s.answers 9 5 = true) ∧ (s.qry.march = some r) ∧ (r.destructive = false) ∧ (r.aborting =
      true) ∧ (r.inSegment = true) ∧ (s.qry.held = [])) ∧
    (∃ (s : State) (r : MarchRun), (s.answers 9 5 = true) ∧ (s.qry.march = some r) ∧ (r.destructive = false) ∧ (r.aborting =
      false) ∧ (r.inSegment = true) ∧ (r.segment + 1 < 256) ∧ (s.qry.held = [])) ∧
    (∃ (s : State), (s.answers 9 5 = true) ∧ (s.qry.march = none)) ∧
    (∃ (found : MarchFacts) (s : State) (r : MarchRun), (s.answers 9 5 = true) ∧ (s.qry.march = some r) ∧ (s.qry.held = []) ∧
      (r.destructive = true) ∧ (r.bank < 64) ∧ (s.bank r.bank = 4) ∧ (r.aborting = true)) ∧
    (∃ (found : MarchFacts) (s : State) (r : MarchRun) (k : Nat), (s.answers 9 5 = true) ∧ (s.qry.march = some r) ∧
      (s.qry.held = []) ∧ (r.destructive = true) ∧ (r.bank < 64) ∧ (s.bank r.bank = 4) ∧ (r.aborting = false) ∧ (found.cells =
      []) ∧ (found.badSpares = []) ∧ (k / 1048576 = r.bank)) ∧
    (∃ (found : MarchFacts) (s : State) (r : MarchRun), (s.answers 9 5 = true) ∧ (s.qry.march = some r) ∧ (s.qry.held = []) ∧
      (r.destructive = false) ∧ (r.bank < 64) ∧ (s.bank r.bank = 5) ∧ (r.aborting = false) ∧ (found.cells ≠ []) ∧ (found.again =
      false)) ∧
    (∃ (found : MarchFacts) (s : State) (r : MarchRun), (s.answers 9 5 = true) ∧ (s.qry.march = some r) ∧ (s.qry.held = []) ∧
      (r.destructive = false) ∧ (r.bank < 64) ∧ (s.bank r.bank = 5) ∧ (r.aborting = true)) ∧
    (∃ (found : MarchFacts) (s : State) (r : MarchRun), (s.answers 9 5 = true) ∧ (s.qry.march = some r) ∧ (s.qry.held = []) ∧
      (r.destructive = false) ∧ (r.bank < 64) ∧ (s.bank r.bank = 5) ∧ (r.aborting = false) ∧ (found.cells = []) ∧
      (found.badSpares = [])) ∧
    (∃ (ifc : Ifc) (entry : Fin 768) (facts : WFacts) (s : State) (row : Nat), (s.takes ifc (143872 + 4 * (entry.val)) = true)
      ∧ (s.rprValid (entry.val) = false) ∧ (s.rprFused (entry.val) = false) ∧ (s.rprBad (entry.val) = false) ∧ (row < 2048) ∧
      ((entry.val) % 12 < 8) ∧ (s.bank ((entry.val) / 12) = 2 ∨ s.bank ((entry.val) / 12) = 5 ∨ s.bank ((entry.val) / 12) = 7)) ∧
    (∃ (ifc : Ifc) (entry : Fin 768) (facts : WFacts) (s : State) (row : Nat), (s.takes ifc (143872 + 4 * (entry.val)) = true)
      ∧ (s.rprValid (entry.val) = false) ∧ (s.rprFused (entry.val) = false) ∧ (s.rprBad (entry.val) = false) ∧ (row < 2048) ∧
      ((entry.val) % 12 < 8) ∧ (s.bank ((entry.val) / 12) ≤ 1)) ∧
    (∃ (ifc : Ifc) (entry : Fin 768) (facts : WFacts) (s : State) (col : Nat) (slice : Nat), (s.takes ifc (143872 + 4 *
      (entry.val)) = true) ∧ (s.rprValid (entry.val) = false) ∧ (s.rprFused (entry.val) = false) ∧ (s.rprBad (entry.val) =
      false) ∧ (col < 64) ∧ (slice < 72) ∧ (8 ≤ (entry.val) % 12) ∧ (s.bank ((entry.val) / 12) = 2)) ∧
    (∃ (ifc : Ifc) (entry : Fin 768) (facts : WFacts) (s : State) (row : Nat), (s.takes ifc (143872 + 4 * (entry.val)) = true)
      ∧ (s.rprValid (entry.val) = false) ∧ (s.rprFused (entry.val) = false) ∧ (s.rprBad (entry.val) = true) ∧ (row < 2048) ∧
      ((entry.val) % 12 < 8)) ∧
    (∃ (entry : Fin 768) (s : State), (s.answers 9 5 = true) ∧ (s.qry.copies = [(entry.val)]) ∧ (s.bank ((entry.val) / 12) =
      7)) ∧
    (∃ (entry : Fin 768) (s : State), (s.answers 9 5 = true) ∧ (s.qry.copies = [(entry.val)]) ∧ (s.bank ((entry.val) / 12) =
      2)) ∧
    (∃ (ifc : Ifc) (vfuse : Nat) (tj : Int) (facts : WFacts) (s : State), (s.takes ifc 143616 = true) ∧ (1710 ≤ vfuse) ∧
      (vfuse ≤ 1890) ∧ (0 ≤ tj) ∧ (tj ≤ 850) ∧ (s.burning = false)) ∧
    (∃ (ifc : Ifc) (vfuse : Nat) (tj : Int) (facts : WFacts) (s : State), (s.takes ifc 143616 = true) ∧ (vfuse < 1710 ∨ 1890 <
      vfuse ∨ tj < 0 ∨ 850 < tj ∨ s.burning = true)) ∧
    (∃ (ifc : Ifc) (vfuse : Nat) (tj : Int) (facts : WFacts) (s : State), (s.takes ifc 106772 = true) ∧ (1710 ≤ vfuse) ∧
      (vfuse ≤ 1890) ∧ (0 ≤ tj) ∧ (tj ≤ 850) ∧ (s.burning = false) ∧ (s.softLanes ≠ [])) ∧
    (∃ (ifc : Ifc) (vfuse : Nat) (tj : Int) (facts : WFacts) (s : State), (s.takes ifc 106772 = true) ∧ (vfuse < 1710 ∨ 1890 <
      vfuse ∨ tj < 0 ∨ 850 < tj ∨ s.burning = true ∨ s.softLanes = [])) ∧
    (∃ (s : State) (k : Nat), (s.answers 31 6 = true) ∧ (s.burning = true) ∧ (s.on F.RPR_STAT_BURNING = true) ∧
      (s.qry.burnRpr = [k]) ∧ (s.qry.burnLn = []) ∧ (look 0 (k / 12) s.fuse.spent < 16) ∧ (k < 768)) :=
  ⟨⟨Ifc.pcie, 0, true, true, facts0, live, 1, by decide +kernel⟩,
   ⟨Ifc.pcie, 0, true, true, facts0, live, 0, by decide +kernel⟩,
   ⟨Ifc.pcie, 0, false, true, facts0, live, 0, by decide +kernel⟩,
   ⟨Ifc.pcie, facts0, mst (filled live) (mr 3 false 5 false false),
     { bank := 3, destructive := false, full := true, background := 0, segment := 5, segEnd := 0, inSegment := false, aborting := false },
     by decide +kernel⟩,
   ⟨mst (filled live) (mr 3 false 5 false false),
     { bank := 3, destructive := false, full := true, background := 0, segment := 5, segEnd := 0, inSegment := false, aborting := false },
     by decide +kernel⟩,
   ⟨mst live (mr 3 true 5 true false), (mr 3 true 5 true false), by decide +kernel⟩,
   ⟨mst live (mr 3 false 5 true true), (mr 3 false 5 true true), by decide +kernel⟩,
   ⟨mst live (mr 3 false 5 true false), (mr 3 false 5 true false), by decide +kernel⟩,
   ⟨live, by decide +kernel⟩,
   ⟨⟨5, [], [], 0, false⟩, mst live (mr 3 true 5 true true), (mr 3 true 5 true true), by decide +kernel⟩,
   ⟨⟨5, [], [], 0, false⟩, mst live (mr 3 true 255 true false), (mr 3 true 255 true false), 0x300000, by decide +kernel⟩,
   ⟨⟨5, [], [⟨5, 1, 2⟩], 0, false⟩, mst live (mr 3 false 255 true false), (mr 3 false 255 true false), by decide +kernel⟩,
   ⟨{ bank := 5, badSpares := [], cells := [], element := 0, again := false }, mst (filled live) (mr 3 false 5 false true),
     { bank := 3, destructive := false, full := true, background := 0, segment := 5, segEnd := 0, inSegment := false, aborting := true },
     by decide +kernel⟩,
   ⟨{ bank := 5, badSpares := [], cells := [], element := 0, again := false }, mst (filled live) (mr 3 false 5 false false),
     { bank := 3, destructive := false, full := true, background := 0, segment := 5, segEnd := 0, inSegment := false, aborting := false },
     by decide +kernel⟩,
   ⟨Ifc.pcie, 0, facts0, live, 0, by decide +kernel⟩,
   ⟨Ifc.pcie, 0, facts0, List.foldl (fun s b => s.setBank b 1) live (List.range 64), 0, by decide +kernel⟩,
   ⟨Ifc.pcie, 8, facts0, live, 0, 0, by decide +kernel⟩,
   ⟨Ifc.pcie, 0, facts0, live.set F.RPR_ROW_SPARE_BAD 1, 0, by decide +kernel⟩,
   ⟨0, cp 0, by decide +kernel⟩,
   ⟨0, wq live fun q => { q with copies := [0] }, by decide +kernel⟩,
   ⟨.pcie, 1800, 250, facts0, live, by decide +kernel⟩,
   ⟨Ifc.pcie, 0, 0, facts0, live, by decide +kernel⟩,
   ⟨.pcie, 1800, 250, facts0, soft, by decide +kernel⟩,
   ⟨Ifc.pcie, 0, 0, facts0, live, by decide +kernel⟩,
   ⟨bu, 63, by decide +kernel⟩⟩

theorem witness_PatrolAndBankPower :
    (∃ (s : State) (found : Upset) (hard : Bool), (s.answers 9 5 = true) ∧ (s.on F.QRY_CFG_SCRUB_EN = true) ∧ (∀ (b : Nat),
      b < 64 → s.bank b ≠ 2)) ∧
    (∃ (s : State) (k : Nat) (hard : Bool), (s.answers 9 5 = true) ∧ (s.on F.QRY_CFG_SCRUB_EN = true) ∧ (s.scrubNext
      s.qry.scrub = some k) ∧ ((s.qry.ue.any fun (p : Nat × Nat) => p.fst == k) = false)) ∧
    (∃ (s : State) (k : Nat) (hard : Bool) (syn : Nat), (s.answers 9 5 = true) ∧ (s.on F.QRY_CFG_SCRUB_EN = true) ∧
      (s.scrubNext s.qry.scrub = some k) ∧ ((s.qry.ue.any fun (p : Nat × Nat) => p.fst == k) = false)) ∧
    (∃ (s : State) (k : Nat) (e : Nat) (syn : Nat), (s.answers 9 5 = true) ∧ (s.on F.QRY_CFG_SCRUB_EN = true) ∧ (s.scrubNext
      s.qry.scrub = some k) ∧ ((s.qry.ue.any fun (p : Nat × Nat) => p.fst == k) = false) ∧ (s.on F.QRY_CFG_AUTO_REPAIR = true) ∧
      (List.find? (fun (e : Nat) => s.rprFree (12 * (k / 131072) + e)) (List.range 8) = some e)) ∧
    (∃ (s : State) (k : Nat) (syn : Nat) (hard : Bool), (s.answers 9 5 = true) ∧ (s.on F.QRY_CFG_SCRUB_EN = true) ∧
      (s.scrubNext s.qry.scrub = some k)) ∧
    (∃ (ifc : Ifc) (index : Fin 4) (value : Reg) (facts : WFacts) (s : State) (b : Nat), (s.takes ifc (131344 + 4 *
      (index.val)) = true) ∧ (s.power ≤ 1) ∧ (s.bankCodes ((index.val)) 2 (BitVec.toNat value) = (BitVec.toNat value, none)) ∧
      (b < 64) ∧ (b / 16 ≠ (index.val))) ∧
    (∃ (ifc : Ifc) (index : Fin 4) (value : Reg) (facts : WFacts) (s : State) (b : Nat), (s.takes ifc (131344 + 4 *
      (index.val)) = true) ∧ (s.power ≤ 1) ∧ (s.bankCodes ((index.val)) 2 (BitVec.toNat value) = (BitVec.toNat value, none)) ∧
      (b < 64) ∧ (b / 16 = (index.val))) ∧
    (∃ (ifc : Ifc) (index : Fin 4) (value : Reg) (facts : WFacts) (s : State) (b : Nat) (k : Nat), (s.takes ifc (131344 + 4 *
      (index.val)) = true) ∧ (s.power ≤ 1) ∧ (s.bankCodes ((index.val)) 2 (BitVec.toNat value) = (BitVec.toNat value, none)) ∧
      (b < 64) ∧ (b / 16 ≠ (index.val) ∨ bits (BitVec.toNat value) (2 * (b % 16)) 2 ≠ 0 ∧ s.bank b ≠ 0) ∧ (k / 1048576 = b)) ∧
    (∃ (bank : Bank) (s : State) (b : Nat), (s.answers 9 5 = true) ∧ (s.bank (bank.val) = 3) ∧ (b < 64) ∧ (b ≠ (bank.val))) ∧
    (∃ (bank : Bank) (s : State), (s.answers 9 5 = true) ∧ (s.bank (bank.val) = 3) ∧ (∀ (b : Nat), b < 64 → b ≠ (bank.val) →
      s.bank b ≠ 3)) :=
  ⟨⟨List.foldl (fun s b => s.setBank b 1) live (List.range 64), Upset.none, true, by decide +kernel⟩,
   ⟨live, 0, true, by decide +kernel⟩,
   ⟨live, 0, true, 0, by decide +kernel⟩,
   ⟨live, 0, 0, 0, by decide +kernel⟩,
   ⟨live, 0, 0, true, by decide +kernel⟩,
   ⟨Ifc.pcie, 1, 0, facts0, live, 0, by decide +kernel⟩,
   ⟨Ifc.pcie, 0, 0, facts0, live, 0, by decide +kernel⟩,
   ⟨Ifc.pcie, 0, 1, facts0, live, 0, 0, by decide +kernel⟩,
   ⟨0, live.setBank 0 3, 1, by decide +kernel⟩,
   ⟨0, live.setBank 0 3, by decide +kernel⟩⟩

theorem witness_DmaCopiesAndEnds :
    (∃ (ifc : Ifc) (channel : Fin 4) (facts : WFacts) (s : State), (s.takes ifc (21012 + 32 * (channel.val)) = true) ∧ (s.on
      F.DMA_STAT_BUSY (channel.val) = false)) ∧
    (∃ (ifc : Ifc) (channel : Fin 4) (facts : WFacts) (s : State), (s.takes ifc (21012 + 32 * (channel.val)) = true) ∧ (s.on
      F.DMA_STAT_BUSY (channel.val) = false)) ∧
    (∃ (ifc : Ifc) (channel : Fin 4) (facts : WFacts) (s : State), (s.takes ifc (21012 + 32 * (channel.val)) = true) ∧ (s.on
      F.DMA_STAT_BUSY (channel.val) = true)) ∧
    (∃ (ifc : Ifc) (channel : Fin 4) (facts : WFacts) (s : State), (s.takes ifc (21012 + 32 * (channel.val)) = true) ∧ (s.on
      F.DMA_STAT_BUSY (channel.val) = true) ∧ (facts.units = 0)) ∧
    (∃ (channel : Fin 4) (host : List Byte) (s : State), (s.on F.DMA_STAT_BUSY (channel.val) = false ∨ s.dumping = true ∨
      s.islandAsleep 26 = true)) ∧
    (∃ (channel : Fin 4) (host : List Byte) (s : State) (k : Nat), (s.on F.DMA_STAT_BUSY (channel.val) = true) ∧ (s.dumping =
      false) ∧ (s.islandAsleep 26 = false) ∧ (s.get F.DMA_LEN (channel.val) = 1) ∧ (look 0 ((channel.val)) s.host.dmaDone = 0) ∧
      (if (s.dmaAddr ((channel.val)) false).fst = true then s.bmOk (s.dmaAddr ((channel.val)) false).snd 8 = true ∧ 8 ≤
      host.length else s.qRefuse (4 + (channel.val)) (s.dmaAddr ((channel.val)) false).snd 8 false = none ∧ s.ueIn (s.dmaAddr
      ((channel.val)) false).snd 8 = none) ∧ ((s.dmaAddr ((channel.val)) true).fst = false) ∧ (s.qRefuse (4 + (channel.val))
      (s.dmaAddr ((channel.val)) true).snd 8 true = none) ∧ (∀ (i : Nat), i < 8 → k ≠ s.qKey ((s.dmaAddr ((channel.val))
      true).snd + i))) ∧
    (∃ (channel : Fin 4) (host : List Byte) (s : State), (s.on F.DMA_STAT_BUSY (channel.val) = true) ∧ (s.dumping = false) ∧
      (s.islandAsleep 26 = false) ∧ (s.get F.DMA_LEN (channel.val) = 1) ∧ (look 0 ((channel.val)) s.host.dmaDone = 0) ∧ (if
      (s.dmaAddr ((channel.val)) false).fst = true then s.bmOk (s.dmaAddr ((channel.val)) false).snd 8 = true ∧ 8 ≤ host.length
      else s.qRefuse (4 + (channel.val)) (s.dmaAddr ((channel.val)) false).snd 8 false = none ∧ s.ueIn (s.dmaAddr
      ((channel.val)) false).snd 8 = none) ∧ ((s.dmaAddr ((channel.val)) true).fst = true) ∧ (s.bmOk (s.dmaAddr ((channel.val))
      true).snd 8 = true)) ∧
    (∃ (channel : Fin 4) (host : List Byte) (s : State) (deny : Deny), (s.on F.DMA_STAT_BUSY (channel.val) = true) ∧
      (s.dumping = false) ∧ (s.islandAsleep 26 = false) ∧ (s.get F.DMA_LEN (channel.val) = 1) ∧ (look 0 ((channel.val))
      s.host.dmaDone = 0) ∧ ((s.dmaAddr ((channel.val)) false).fst = false) ∧ (s.qRefuse (4 + (channel.val)) (s.dmaAddr
      ((channel.val)) false).snd 8 false = some deny)) ∧
    (∃ (channel : Fin 4) (host : List Byte) (s : State), (s.on F.DMA_STAT_BUSY (channel.val) = true) ∧ (s.dumping = false) ∧
      (s.islandAsleep 26 = false) ∧ (s.get F.DMA_LEN (channel.val) = 1) ∧ (look 0 ((channel.val)) s.host.dmaDone = 0) ∧
      ((s.dmaAddr ((channel.val)) false).fst = false) ∧ (s.qRefuse (4 + (channel.val)) (s.dmaAddr ((channel.val)) false).snd 8
      false = none) ∧ (s.ueIn (s.dmaAddr ((channel.val)) false).snd 8 ≠ none)) ∧
    (∃ (channel : Fin 4) (host : List Byte) (s : State) (deny : Deny), (s.on F.DMA_STAT_BUSY (channel.val) = true) ∧
      (s.dumping = false) ∧ (s.islandAsleep 26 = false) ∧ (s.get F.DMA_LEN (channel.val) = 1) ∧ (look 0 ((channel.val))
      s.host.dmaDone = 0) ∧ (if (s.dmaAddr ((channel.val)) false).fst = true then s.bmOk (s.dmaAddr ((channel.val)) false).snd
      8 = true ∧ 8 ≤ host.length else s.qRefuse (4 + (channel.val)) (s.dmaAddr ((channel.val)) false).snd 8 false = none ∧
      s.ueIn (s.dmaAddr ((channel.val)) false).snd 8 = none) ∧ ((s.dmaAddr ((channel.val)) true).fst = false) ∧ (s.qRefuse (4 +
      (channel.val)) (s.dmaAddr ((channel.val)) true).snd 8 true = some deny)) ∧
    (∃ (channel : Fin 4) (host : List Byte) (s : State), (s.on F.DMA_STAT_BUSY (channel.val) = true) ∧ (s.dumping = false) ∧
      (s.islandAsleep 26 = false) ∧ (s.get F.DMA_LEN (channel.val) = 1) ∧ (look 0 ((channel.val)) s.host.dmaDone = 0) ∧
      ((s.dmaAddr ((channel.val)) false).fst = true ∧ s.bmOk (s.dmaAddr ((channel.val)) false).snd 8 = false ∨ (if (s.dmaAddr
      ((channel.val)) false).fst = true then s.bmOk (s.dmaAddr ((channel.val)) false).snd 8 = true ∧ 8 ≤ host.length else
      s.qRefuse (4 + (channel.val)) (s.dmaAddr ((channel.val)) false).snd 8 false = none ∧ s.ueIn (s.dmaAddr ((channel.val))
      false).snd 8 = none) ∧ (s.dmaAddr ((channel.val)) true).fst = true ∧ s.bmOk (s.dmaAddr ((channel.val)) true).snd 8 =
      false)) :=
  ⟨⟨Ifc.pcie, 0, facts0, live, by decide +kernel⟩,
   ⟨Ifc.pcie, 0, facts0, live, by decide +kernel⟩,
   ⟨Ifc.pcie, 1, facts0, ((dmaS live).set F.DMA_SRC_HI_SPACE 1 1).set F.DMA_SRC_LO 64 1, by decide +kernel⟩,
   ⟨Ifc.pcie, 1, facts0, ((dmaS live).set F.DMA_SRC_HI_SPACE 1 1).set F.DMA_SRC_LO 64 1, by decide +kernel⟩,
   ⟨0, [], live, by decide +kernel⟩,
   ⟨1, [], dq live, 0, by decide +kernel⟩,
   ⟨1, w (List.range 8), ((dmaHost 0xFFFFF).set F.DMA_SRC_HI_SPACE 1 1).set F.DMA_DST_HI_SPACE 1 1, by decide +kernel⟩,
   ⟨1, [], (dq live).set F.RGN_FENCED 65535, Deny.fenced, by decide +kernel⟩,
   ⟨1, [], wq ((live.set F.DMA_STAT_BUSY 1 1).set F.DMA_LEN 1 1) fun q => { q with ue := [(0, 3)] }, by decide +kernel⟩,
   ⟨1, [], ((live.set F.DMA_STAT_BUSY 1 1).set F.DMA_LEN 1 1).set F.DMA_DST_LO (0x3A00000 / 8) 1 |>.setBank 58 6, .guard,
     by decide +kernel⟩,
   ⟨1, [], ((live.set F.DMA_STAT_BUSY 1 1).set F.DMA_LEN 1 1).set F.DMA_SRC_HI_SPACE 1 1, by decide +kernel⟩⟩

theorem witness_CanPorts :
    (∃ (port : CanPort) (stamp : DWord) (frame : CanFrame) (rx : CanRx) (short : Bool) (desc : List Byte) (s : State), (s.hostLive = true) ∧
      (s.on F.LC_P_CFG_EN (port.val) = true) ∧ (s.power = 0) ∧ (s.get F.LC_P_STAT_STATE (port.val) ≠ 2) ∧ (64 ≤ s.canHeld
      (port.val))) ∧
    (∃ (port : CanPort) (stamp : DWord) (frame : CanFrame) (rx : CanRx) (short : Bool) (desc : List Byte) (s : State), (s.hostLive = true) ∧
      (s.on F.LC_P_CFG_EN (port.val) = true) ∧ (s.power = 0) ∧ (s.get F.LC_P_STAT_STATE (port.val) ≠ 2) ∧ (s.canHeld
      (port.val) < 64) ∧ (rx ≠ CanRx.intact ∨ frame.fdf = true ∧ s.on F.LC_P_CFG_FD_EN (port.val) = false)) ∧
    (∃ (port : CanPort) (stamp : DWord) (frame : CanFrame) (rx : CanRx) (short : Bool) (desc : List Byte) (s : State), (s.hostLive = true) ∧
      (s.on F.LC_P_CFG_EN (port.val) = true) ∧ (s.power = 0) ∧ (s.get F.LC_P_STAT_STATE (port.val) ≠ 2) ∧ (s.canHeld
      (port.val) < 64) ∧ (frame.fdf = false ∨ s.on F.LC_P_CFG_FD_EN (port.val) = true) ∧ (s.localHeld = true)) ∧
    (∃ (port : CanPort) (stamp : DWord) (frame : CanFrame) (rx : CanRx) (short : Bool) (desc : List Byte) (s : State), (s.hostLive = true) ∧
      (s.on F.LC_P_CFG_EN (port.val) = true) ∧ (s.power = 0) ∧ (s.get F.LC_P_STAT_STATE (port.val) ≠ 2) ∧ (s.canHeld
      (port.val) < 64) ∧ (frame.fdf = false ∨ s.on F.LC_P_CFG_FD_EN (port.val) = true) ∧ (s.localHeld = false) ∧ (s.fallsShort short = true)) ∧
    (∃ (port : CanPort) (stamp : DWord) (frame : CanFrame) (rx : CanRx) (short : Bool) (desc : List Byte) (s : State), (s.hostLive = true) ∧
      (s.on F.LC_P_CFG_EN (port.val) = true) ∧ (s.power = 0) ∧ (s.get F.LC_P_STAT_STATE (port.val) ≠ 2) ∧ (s.canHeld
      (port.val) < 64) ∧ (frame.fdf = false ∨ s.on F.LC_P_CFG_FD_EN (port.val) = true) ∧ (s.localHeld = false) ∧ (s.fallsShort short = false) ∧ (((((s.inc
      F.LC_P_RX_OK (port.val)).set F.LC_P_STAT_REC (if 127 < s.get F.LC_P_STAT_REC (port.val) then 119 + Config.canRec s.clk.now
      % 9 else s.get F.LC_P_STAT_REC (port.val) - 1) (port.val)).canState (port.val)).ctxAlloc 10 1 (536870912 +
      (port.val))).fst = true)) ∧
    (∃ (port : CanPort) (stamp : DWord) (s : State) (t : LocalTx), (s.hostLive = true) ∧ (s.localActive = true) ∧ (s.on
      F.LC_P_CFG_EN (port.val) = true) ∧ (s.canMonitor (port.val) = false) ∧ (s.get F.LC_P_STAT_STATE (port.val) ≠ 2) ∧
      (lowestCan (List.filter (fun (h : LocalTx) => s.on F.LC_P_CFG_FD_EN (port.val) || !bit (leVal (List.take 4 h.data)) 31)
      (heads s.loc.canTx (port.val))) = some t)) ∧
    (∃ (port : CanPort) (stamp : DWord) (s : State) (t : LocalTx) (e : CanEnd) (n : Nat), (s.hostLive = true) ∧
      (s.localActive = true) ∧ (s.on F.LC_P_CFG_EN (port.val) = true) ∧ (s.canMonitor (port.val) = false) ∧ (s.get
      F.LC_P_STAT_STATE (port.val) ≠ 2) ∧ (lowestCan (List.filter (fun (h : LocalTx) => s.on F.LC_P_CFG_FD_EN (port.val) || !bit
      (leVal (List.take 4 h.data)) 31) (heads s.loc.canTx (port.val))) = some t) ∧ (e = CanEnd.error ∧ n = 8 ∨ e =
      CanEnd.unacked ∧ n = if s.get F.LC_P_STAT_STATE (port.val) = 1 then 0 else 8) ∧ (s.get F.LC_P_STAT_TEC (port.val) + n ≤
      255)) ∧
    (∃ (port : CanPort) (stamp : DWord) (s : State) (t : LocalTx) (e : CanEnd) (n : Nat), (s.hostLive = true) ∧
      (s.localActive = true) ∧ (s.on F.LC_P_CFG_EN (port.val) = true) ∧ (s.canMonitor (port.val) = false) ∧ (s.get
      F.LC_P_STAT_STATE (port.val) ≠ 2) ∧ (lowestCan (List.filter (fun (h : LocalTx) => s.on F.LC_P_CFG_FD_EN (port.val) || !bit
      (leVal (List.take 4 h.data)) 31) (heads s.loc.canTx (port.val))) = some t) ∧ (e = CanEnd.error ∧ n = 8 ∨ e =
      CanEnd.unacked ∧ n = if s.get F.LC_P_STAT_STATE (port.val) = 1 then 0 else 8) ∧ (255 < s.get F.LC_P_STAT_TEC (port.val) +
      n)) ∧
    (∃ (port : CanPort) (stamp : DWord) (s : State) (t : LocalTx), (s.hostLive = true) ∧ (s.localActive = true) ∧ (s.on
      F.LC_P_CFG_EN (port.val) = true) ∧ (s.canMonitor (port.val) = false) ∧ (s.get F.LC_P_STAT_STATE (port.val) ≠ 2) ∧
      (lowestCan (List.filter (fun (h : LocalTx) => s.on F.LC_P_CFG_FD_EN (port.val) || !bit (leVal (List.take 4 h.data)) 31)
      (heads s.loc.canTx (port.val))) = some t)) ∧
    (∃ (port : CanPort) (s : State), (s.hostLive = true) ∧ (s.busOff (port.val) = true) ∧ (s.on F.LC_P_CFG_AUTO_REC
      (port.val) = true ∨ (port.val) ∈ s.loc.recover)) ∧
    (∃ (ifc : Ifc) (port : CanPort) (facts : WFacts) (s : State), (s.takes ifc (234004 + 64 * (port.val)) = true) ∧ (s.busOff
      (port.val) = true)) ∧
    (∃ (ifc : Ifc) (port : CanPort) (facts : WFacts) (s : State), (s.takes ifc (234004 + 64 * (port.val)) = true) ∧ (s.busOff
      (port.val) = false)) :=
  ⟨⟨1, 0, canF, .intact, false, [], wl (((lc live).set F.LC_P_CFG_EN 1 1)) (fun l =>
     { l with canRx := List.replicate 64 (1, 0, canF, []) }), by decide +kernel⟩,
   ⟨1, 0,
     { id := 291, ide := false, rtr := false, fdf := false, dlc := 8, brs := false, esi := false, data := [0, 1, 2, 3, 4, 5, 6, 7] },
     CanRx.error, false, [], (lc live).set F.LC_P_STAT_TEC 250 1, by decide +kernel⟩,
   ⟨1, 0, canF, .intact, false, [], sl (((lc live).set F.LC_P_CFG_EN 1 1)) 9 3, by decide +kernel⟩,
   ⟨1, 0, canF, .intact, true, [], ((lc live).set F.LC_P_CFG_EN 1 1).set F.TRW_WHEEL_STAT_SHORT 1, by decide +kernel⟩,
   ⟨1, 0,
     { id := 291, ide := false, rtr := false, fdf := false, dlc := 8, brs := false, esi := false, data := [0, 1, 2, 3, 4, 5, 6, 7] },
     CanRx.intact, false, [], (lc live).set F.LC_P_STAT_TEC 250 1, by decide +kernel⟩,
   ⟨1, 0, (lc live).set F.LC_P_STAT_TEC 250 1,
     { src := 3, cls := 0, data := [5, 1, 0, 0, 7, 7, 7, 7, 7, 7, 7, 7, 7, 7, 7, 7, 7, 7, 7, 7, 7, 7, 7, 7], idx := 0, desc := [0, 0, 0, 0, 0, 0, 0, 0, 0, 0, 0, 0, 0, 0, 0, 0, 0, 0, 0, 0, 0, 0, 0, 0, 0, 0, 0, 0, 0, 0, 0, 0] },
     by decide +kernel⟩,
   ⟨1, 0, lc (lp live),
     { src := 3, cls := 0, data := [5, 1, 0, 0, 7, 7, 7, 7, 7, 7, 7, 7, 7, 7, 7, 7, 7, 7, 7, 7, 7, 7, 7, 7], idx := 0, desc := [0, 0, 0, 0, 0, 0, 0, 0, 0, 0, 0, 0, 0, 0, 0, 0, 0, 0, 0, 0, 0, 0, 0, 0, 0, 0, 0, 0, 0, 0, 0, 0] },
     CanEnd.error, 8, by decide +kernel⟩,
   ⟨1, 0, (lc live).set F.LC_P_STAT_TEC 250 1,
     { src := 3, cls := 0, data := [5, 1, 0, 0, 7, 7, 7, 7, 7, 7, 7, 7, 7, 7, 7, 7, 7, 7, 7, 7, 7, 7, 7, 7], idx := 0, desc := [0, 0, 0, 0, 0, 0, 0, 0, 0, 0, 0, 0, 0, 0, 0, 0, 0, 0, 0, 0, 0, 0, 0, 0, 0, 0, 0, 0, 0, 0, 0, 0] },
     CanEnd.error, 8, by decide +kernel⟩,
   ⟨1, 0, (lc live).set F.LC_P_STAT_TEC 250 1,
     { src := 3, cls := 0, data := [5, 1, 0, 0, 7, 7, 7, 7, 7, 7, 7, 7, 7, 7, 7, 7, 7, 7, 7, 7, 7, 7, 7, 7], idx := 0, desc := [0, 0, 0, 0, 0, 0, 0, 0, 0, 0, 0, 0, 0, 0, 0, 0, 0, 0, 0, 0, 0, 0, 0, 0, 0, 0, 0, 0, 0, 0, 0, 0] },
     by decide +kernel⟩,
   ⟨1, wl (boff live) (fun l => { l with busOff := [1] }), by decide +kernel⟩,
   ⟨.pcie, 1, facts0, wl (boff live) (fun l => { l with busOff := [1] }), by decide +kernel⟩,
   ⟨Ifc.pcie, 0, facts0, live, by decide +kernel⟩⟩

theorem witness_EndpointLinksAndResets :
    (∃ (speed : BitVec 2) (width : BitVec 2) (s : State), (s.hostUp = true) ∧ (s.host.perst = true) ∧ (s.on F.HOST_IF_PCIE =
      true) ∧ (s.isl.pllLost.contains 11 = false) ∧ (s.on F.HOST_STAT_LINK_UP = false)) ∧
    (∃ (speed : BitVec 2) (width : BitVec 2) (s : State), (s.hostUp = false ∨ s.host.perst = false ∨ s.on F.HOST_IF_PCIE =
      false ∨ s.isl.pllLost.contains 11 = true ∨ s.on F.HOST_STAT_LINK_UP = true)) ∧
    (∃ (bme : Bool) (msix : Bool) (fmask : Bool) (d3hot : Bool) (s : State), (s.hostUp = true) ∧ (s.on F.HOST_STAT_LINK_UP =
      true)) ∧
    (∃ (bme : Bool) (msix : Bool) (fmask : Bool) (d3hot : Bool) (s : State), (s.hostUp = false ∨ s.on F.HOST_STAT_LINK_UP =
      false)) ∧
    (∃ (kind : BitVec 2) (s : State), (s.hostUp = true)) ∧
    (∃ (kind : BitVec 2) (s : State), (s.hostUp = true) ∧ (kind ≠ 3)) ∧
    (∃ (kind : BitVec 2) (s : State), (s.hostUp = true) ∧ (kind = 3)) ∧
    (∃ (kind : BitVec 2) (s : State), (s.hostUp = false)) ∧
    (∃ (addr : BitVec 23) (found : Upset) (s : State) (write : Bool), (s.ifcOn Ifc.pcie = false)) ∧
    (∃ (addr : BitVec 23) (found : Upset) (s : State), (s.ifcOn Ifc.pcie = true)) ∧
    (∃ (addr : BitVec 23) (found : Upset) (s : State), (s.ifcOn Ifc.pcie = true) ∧ (s.vaultAsleep = true ∨ 7340032 ≤
      addr.toNat / 4 * 4)) ∧
    (∃ (addr : BitVec 23) (found : Upset) (s : State), (s.ifcOn Ifc.pcie = true) ∧ (s.vaultAsleep = false) ∧ (addr.toNat / 4 *
      4 < 7340032) ∧ (s.vault.ue.contains (s.vKey (addr.toNat / 4 * 4 / 8 * 8) / 8) = false) ∧ (found = Upset.none)) ∧
    (∃ (addr : BitVec 23) (found : Upset) (s : State) (b : Nat), (s.ifcOn Ifc.pcie = true) ∧ (s.vaultAsleep = false) ∧
      (addr.toNat / 4 * 4 < 7340032) ∧ (s.vault.ue.contains (s.vKey (addr.toNat / 4 * 4 / 8 * 8) / 8) = false) ∧ (found =
      Upset.single b)) ∧
    (∃ (addr : BitVec 23) (found : Upset) (s : State), (s.ifcOn Ifc.pcie = true) ∧ (s.vaultAsleep = false) ∧ (addr.toNat / 4 *
      4 < 7340032) ∧ (s.vault.ue.contains (s.vKey (addr.toNat / 4 * 4 / 8 * 8) / 8) = true ∨ ∃ (b : Nat), found = Upset.multi
      b)) ∧
    (∃ (index : Fin 64) (s : State) (dma : Bool), (s.hostLive = false)) ∧
    (∃ (index : Fin 64) (s : State), (s.hostLive = true) ∧ (s.on F.DMA_STAT_BUSY ((index.val) % 4) = false ∨ (s.dmaAddr
      ((index.val) % 4) false).fst = false)) ∧
    (∃ (index : Fin 64) (s : State), (s.hostLive = true) ∧ (s.on F.DMA_STAT_BUSY ((index.val) % 4) = true) ∧ ((s.dmaAddr
      ((index.val) % 4) false).fst = true) ∧ (s.bmOk ((s.dmaAddr ((index.val) % 4) false).snd + look 0 ((index.val) % 4)
      s.host.dmaDone) 8 = true) ∧ (look 0 ((index.val) % 4) s.host.dmaDone / 8 < s.get F.DMA_LEN ((index.val) % 4))) ∧
    (∃ (index : Fin 64) (s : State), (s.hostLive = true) ∧ (s.on F.Q_BASE_HI_LOC (index.val) = false ∨ s.islandAsleep 8 =
      true)) ∧
    (∃ (index : Fin 64) (s : State), (s.hostLive = true) ∧ (s.on F.Q_BASE_HI_LOC (index.val) = true) ∧ (s.islandAsleep 8 =
      false)) :=
  ⟨⟨0, 0, dn live, by decide +kernel⟩,
   ⟨0, 0, live, by decide +kernel⟩,
   ⟨true, true, true, true, live, by decide +kernel⟩,
   ⟨true, true, true, true, State.reset, by decide +kernel⟩,
   ⟨0, live, by decide +kernel⟩,
   ⟨0, live, by decide +kernel⟩,
   ⟨3, live, by decide +kernel⟩,
   ⟨0, State.reset, by decide +kernel⟩,
   ⟨0, Upset.none, State.reset, true, by decide +kernel⟩,
   ⟨0, Upset.none, live, by decide +kernel⟩,
   ⟨0x700000, Upset.none, live, by decide +kernel⟩,
   ⟨0, Upset.none, live, by decide +kernel⟩,
   ⟨0, Upset.single 3, live, 3, by decide +kernel⟩,
   ⟨0, Upset.multi 5, live, by decide +kernel, by decide +kernel, by decide +kernel, .inr ⟨5, rfl⟩⟩,
   ⟨0, fz, true, by decide +kernel⟩,
   ⟨0, live, by decide +kernel⟩,
   ⟨1, ((dmaS live).set F.DMA_SRC_HI_SPACE 1 1).set F.DMA_SRC_LO 64 1, by decide +kernel⟩,
   ⟨0, live, by decide +kernel⟩,
   ⟨1, q1, by decide +kernel⟩⟩

theorem witness_LinksComeUpAndGoDown :
    (∃ (port : Port) (s : State), (s.phyOn (port.val) = true) ∧ (s.up (port.val) = false) ∧ (s.phyDrives = true) ∧ ((s.line
      (port.val)).attempt = none) ∧ (s.lines.length = 8)) ∧
    (∃ (port : Port) (gen : BitVec 2) (master : Bool) (s : State) (e : Nat) (g : Nat) (m : Bool), (s.phyOn (port.val) = true)
      ∧ (s.phyDrives = true) ∧ ((s.line (port.val)).attempt = some (e, g, m)) ∧ (s.up (port.val) = false) ∧ (g < 4)) ∧
    (∃ (port : Port) (s : State), (8 ≤ s.isl.started) ∧ (s.islandAsleep (port.val) = false) ∧ (2 ≤ s.get F.SPK_CFG_GEN
      (port.val)) ∧ (s.get F.SPK_CFG_GEN (port.val) ≤ 4) ∧ (s.up (port.val) = true)) ∧
    (∃ (port : Port) (s : State), (s.awake (port.val) = true) ∧ (s.get F.SPK_CFG_GEN (port.val) = 1) ∧ (s.up (port.val) =
      true) ∧ (s.inFlight (s.asLine ((s.line (port.val)).lastRx + 30000001)) = false)) :=
  ⟨⟨0, live, by decide +kernel⟩,
   ⟨0, 0, true, lat, 1000500000, 2, true, by decide +kernel⟩,
   ⟨0, datum, by decide +kernel⟩,
   ⟨0, aport, by decide +kernel⟩⟩

theorem witness_PartsHeldAndLatched :
    (∃ (ifc : Ifc) (addr : BitVec 18) (v : Reg) (facts : WFacts) (s : State) (r : Row) (m : Nat) (b : Nat), (s.takes ifc
      addr.toNat = true) ∧ (addr.toNat % 4 = 0) ∧ (rowAt (addr.toNat / 4096) (addr.toNat % 4096) = some r) ∧ ((r.fields.all fun
      (d : FieldDef) => d.acc == Acc.ro) = false) ∧ ((writeGroup addr.toNat).getLast? ≠ some addr.toNat) ∧ (writeGroup
      addr.toNat ≠ []) ∧ (fitsRow r = true) ∧ (m ≠ ifc.id ∨ b ≠ addr.toNat)) ∧
    (∃ (ifc : Ifc) (addr : BitVec 18) (facts : WFacts) (s : State), (s.ifcTakes ifc (addr.toNat / 4096) = true) ∧ (addr.toNat
      % 4 = 0) ∧ (s.pageSilent addr.toNat = false) ∧ ((regGroup addr.toNat).head? = some addr.toNat)) ∧
    (∃ (ifc : Ifc) (facts : WFacts) (s : State), (s.ifcTakes ifc 50 = true) ∧ (s.pageSilent 205056 = false) ∧ (s.testing 50
      256 = false) ∧ (s.on F.PG_CTRL_FREEZE 50 = false)) :=
  ⟨⟨Ifc.pcie, 0x15108, 0, facts0, live,
     { off := 264, stride := 4, count := 4, fields := [{ fld := { base := 86280, stride := 4, lo := 0, width := 32, reset := Rst.v 0 }, acc := Acc.wo, legal := Legal.dep (Dep.key3) }] },
     0, 0, by decide +kernel⟩,
   ⟨Ifc.pcie, 0x104, facts0, live, by decide +kernel⟩,
   ⟨Ifc.pcie, facts0, live, by decide +kernel⟩⟩

theorem witness_WheelAppliedAtTheWrap :
    (∃ (ifc : Ifc) (facts : WFacts) (s : State), (s.takes ifc 98632 = true) ∧ (s.shortOf s.shareOf = none)) ∧
    (∃ (ifc : Ifc) (facts : WFacts) (s : State) (c : Nat), (s.takes ifc 98632 = true) ∧ (s.shortOf s.shareOf = some c)) ∧
    (∃ (s : State), (s.awake 8 = true) ∧ (s.engineHeld = true)) ∧
    (∃ (s : State) (e : Nat), (s.awake 8 = true) ∧ (s.engineHeld = false) ∧ (s.tieFlush.on F.TRW_WHEEL_STAT_PENDING = true) ∧
      (e < 64)) ∧
    (∃ (s : State), (s.awake 8 = true) ∧ (s.engineHeld = false) ∧ (s.tieFlush.on F.TRW_WHEEL_STAT_PENDING = false) ∧
      (s.tieFlush.trw.withdraw = [])) ∧
    (∃ (s : State) (l : Nat) (p : Nat) (h : Nat), (s.awake 8 = true) ∧ (s.engineHeld = false) ∧ (s.tieFlush.on
      F.TRW_WHEEL_STAT_PENDING = false) ∧ (s.tieFlush.trw.rotate = false) ∧ (s.tieFlush.trw.withdraw = [l]) ∧
      (s.tieFlush.posOfLane l = some p) ∧ (List.find? (fun (p : Nat) => s.tieFlush.get (F.LANE_MAP_P p) != 15) (List.range
      8).reverse = some h) ∧ (p ≠ h)) :=
  ⟨⟨Ifc.pcie, facts0, live, by decide +kernel⟩,
   ⟨.pcie, facts0, wz, 1, by decide +kernel⟩,
   ⟨sl live 9 3, by decide +kernel⟩,
   ⟨live.set F.TRW_WHEEL_STAT_PENDING 1, 0, by decide +kernel⟩,
   ⟨live, by decide +kernel⟩,
   ⟨wtB live fun t => { t with withdraw := [3] }, 3, (live.posOfLane 3).getD 0, 7, by decide +kernel⟩⟩

theorem witness_ChannelTimersAndCommands :
    (∃ (chan : Chan) (s : State) (t : Nat), (s.awake 27 = true) ∧ (s.loads.length = 48) ∧ ((s.chan (chan.val)).provenAt = some
      t) ∧ ((s.chan (chan.val)).status = 2) ∧ (∀ (w : LWin), w ∈ (s.chan (chan.val)).windows → w.kind = 2 → ∀ (c : Nat),
      w.close = some c → (s.elapseTo (t + 1000000 * s.lds F.LDS_TIME_PROOF_AGE (chan.val))).clk.lt - ((s.elapseTo (t + 1000000 *
      s.lds F.LDS_TIME_PROOF_AGE (chan.val))).clk.now - (t + 1000000 * s.lds F.LDS_TIME_PROOF_AGE (chan.val))) ≤ c)) ∧
    (∃ (chan : Chan) (s : State) (t : Nat), (s.awake 27 = true) ∧ (s.loads.length = 48) ∧ ((s.chan (chan.val)).provenAt = some
      t) ∧ ((s.chan (chan.val)).status ≠ 2 ∨ ∃ (w : LWin), w ∈ (s.chan (chan.val)).windows ∧ w.kind = 2 ∧ ∃ (c : Nat), w.close =
      some c ∧ c < (s.elapseTo (t + 1000000 * s.lds F.LDS_TIME_PROOF_AGE (chan.val))).clk.lt - ((s.elapseTo (t + 1000000 * s.lds
      F.LDS_TIME_PROOF_AGE (chan.val))).clk.now - (t + 1000000 * s.lds F.LDS_TIME_PROOF_AGE (chan.val))))) ∧
    (∃ (chan : Chan) (s : State), (s.awake 27 = true) ∧ (s.loads.length = 48) ∧ ((s.chan (chan.val)).provenAt = none)) ∧
    (∃ (chan : Chan) (s : State), (s.awake 27 = true) ∧ (s.loads.length = 48) ∧ ((s.chan (chan.val)).settleTo = none)) ∧
    (∃ (chan : Chan) (s : State) (t : Nat), (s.awake 27 = true) ∧ (s.loads.length = 48) ∧ ((s.chan (chan.val)).settleTo = some
      t) ∧ (s.kind (chan.val) ≠ 3)) ∧
    (∃ (chan : Chan) (s : State), (s.awake 27 = true) ∧ (s.loads.length = 48) ∧ (s.kind (chan.val) ≠ 2 ∨ s.ldsOn
      F.LDS_STAT_NO_MAINS (chan.val) = true)) ∧
    (∃ (chan : Chan) (s : State), (s.awake 27 = true) ∧ (s.loads.length = 48) ∧ ((s.chan (chan.val)).overAt = none ∨ s.kind
      (chan.val) ≠ 3 ∨ s.ldsOn F.LDS_STAT_GATE (chan.val) = false)) ∧
    (∃ (chan : Chan) (s : State), (s.awake 27 = true) ∧ (s.loads.length = 48) ∧ ((s.chan (chan.val)).retryAt = none ∨ (s.chan
      (chan.val)).phase ≠ 2)) ∧
    (∃ (chan : Chan) (s : State), (s.awake 27 = true) ∧ (s.loads.length = 48) ∧ (s.kind (chan.val) ≠ 3 ∨ (s.chan
      (chan.val)).phase ≠ 1 ∨ s.ldsOn F.LDS_STAT_GATE (chan.val) = false)) ∧
    (∃ (chan : Chan) (s : State) (t : Nat), (s.awake 27 = true) ∧ (s.loads.length = 48) ∧ ((s.chan (chan.val)).settleTo = some
      t) ∧ (s.kind (chan.val) = 3)) ∧
    (∃ (chan : Chan) (s : State), (s.awake 27 = true) ∧ (s.loads.length = 48) ∧ (s.kind (chan.val) = 2) ∧ (s.ldsOn
      F.LDS_STAT_NO_MAINS (chan.val) = false)) ∧
    (∃ (chan : Chan) (s : State) (t : Nat), (s.awake 27 = true) ∧ (s.loads.length = 48) ∧ ((s.chan (chan.val)).overAt = some
      t) ∧ (s.kind (chan.val) = 3) ∧ (s.ldsOn F.LDS_STAT_GATE (chan.val) = true) ∧ ((s.chan (chan.val)).phase = 1)) ∧
    (∃ (chan : Chan) (s : State) (t : Nat), (s.awake 27 = true) ∧ (s.loads.length = 48) ∧ ((s.chan (chan.val)).retryAt = some
      t) ∧ ((s.chan (chan.val)).phase = 2) ∧ (s.kind (chan.val) = 3)) ∧
    (∃ (chan : Chan) (s : State), (s.awake 27 = true) ∧ (s.loads.length = 48) ∧ (s.kind (chan.val) = 3) ∧ ((s.chan
      (chan.val)).phase = 1) ∧ (s.ldsOn F.LDS_STAT_GATE (chan.val) = true)) ∧
    (∃ (ifc : Ifc) (chan : Chan) (facts : WFacts) (s : State), (s.takes ifc (F.LDS_CTRL_LEARN.addr (ldsIx (chan.val))) = true)
      ∧ (s.cmdOn (chan.val) = true) ∧ (s.kind (chan.val) ≠ 0)) ∧
    (∃ (ifc : Ifc) (chan : Chan) (facts : WFacts) (s : State), (s.takes ifc (F.LDS_CTRL_LEARN.addr (ldsIx (chan.val))) = true)
      ∧ (s.cmdOn (chan.val) = false ∨ s.kind (chan.val) = 0)) ∧
    (∃ (ifc : Ifc) (chan : Chan) (facts : WFacts) (s : State), (s.takes ifc (F.LDS_CTRL_LEARN.addr (ldsIx (chan.val))) = true)
      ∧ (s.lds F.LDS_STAT_STATUS (chan.val) = 13 ∨ s.view F.LDS_STAT_SAFE_HELD (ldsIx (chan.val)) = 1)) ∧
    (∃ (ifc : Ifc) (chan : Chan) (facts : WFacts) (s : State), (s.takes ifc (F.LDS_CTRL_LEARN.addr (ldsIx (chan.val))) = true)
      ∧ (s.lds F.LDS_STAT_STATUS (chan.val) ≠ 13) ∧ (s.view F.LDS_STAT_SAFE_HELD (ldsIx (chan.val)) ≠ 1)) ∧
    (∃ (ifc : Ifc) (chan : Chan) (facts : WFacts) (s : State), (s.takes ifc 184600 = true)) :=
  ⟨⟨0, al K fun c => { c with status := 2, provenAt := some 900000000 }, 900000000, by decide +kernel⟩,
   ⟨3, al K fun c => { c with status := 1, provenAt := some 900000000 }, 900000000, by decide +kernel⟩,
   ⟨0, live, by decide +kernel⟩,
   ⟨0, live, by decide +kernel⟩,
   ⟨0, al K fun c => { c with settleTo := some 1000500000 }, 1000500000, by decide +kernel⟩,
   ⟨0, live, by decide +kernel⟩,
   ⟨0, live, by decide +kernel⟩,
   ⟨0, live, by decide +kernel⟩,
   ⟨0, live, by decide +kernel⟩,
   ⟨13, al K fun c => { c with settleTo := some 1000500000 }, 1000500000, by decide +kernel⟩,
   ⟨47, K, by decide +kernel⟩,
   ⟨13, al (g1 K) fun c => { c with phase := 1, overAt := some 999000000 }, 999000000, by decide +kernel⟩,
   ⟨13, al K fun c => { c with phase := 2, retryAt := some 1000500000 }, 1000500000, by decide +kernel⟩,
   ⟨13, al (g1 K) fun c => { c with phase := 1, overAt := some 999000000 }, by decide +kernel⟩,
   ⟨Ifc.pcie, 13, facts0, List.foldl (fun s n => s.setLds F.LDS_CMD_NOW_CMD n 1) K [3, 13, 47], by decide +kernel⟩,
   ⟨Ifc.pcie, 0, facts0, live, by decide +kernel⟩,
   ⟨Ifc.pcie, 0, facts0, off, by decide +kernel⟩,
   ⟨Ifc.pcie, 0, facts0, live, by decide +kernel⟩,
   ⟨Ifc.pcie, 0, facts0, live, by decide +kernel⟩⟩

theorem witness_ThermalAndTestPins :
    (∃ (tj : Int) (s : State), (s.pins.main = false)) ∧
    (∃ (tj : Int) (s : State), (s.pins.main = true)) :=
  ⟨⟨0, mo (live.set F.PWR_STAT_STATE 5), by decide +kernel⟩,
   ⟨0, live, by decide +kernel⟩⟩

theorem witness_VaultCommands :
    (∃ (ifc : Ifc) (facts : WFacts) (s : State), (s.takes ifc 217348 = true) ∧ (s.on F.VLT_STAT_HOST_BUSY = true ∨
      s.vaultTarget = false)) ∧
    (∃ (ifc : Ifc) (facts : WFacts) (s : State), (s.takes ifc 217348 = true) ∧ (s.on F.VLT_STAT_HOST_BUSY = true ∨
      s.vaultTarget = false)) ∧
    (∃ (ifc : Ifc) (facts : WFacts) (s : State), (s.takes ifc 217348 = true) ∧ (s.on F.VLT_STAT_HOST_BUSY = false) ∧
      (s.vaultTarget = true) ∧ (s.vaultRo = true)) ∧
    (∃ (ifc : Ifc) (facts : WFacts) (s : State), (s.takes ifc 217348 = true) ∧ (s.on F.VLT_STAT_HOST_BUSY = false) ∧
      (s.vaultTarget = true) ∧ (s.vaultRo = true)) ∧
    (∃ (ifc : Ifc) (facts : WFacts) (s : State), (s.takes ifc 217348 = true) ∧ (s.on F.VLT_STAT_HOST_BUSY = false) ∧
      (s.vaultTarget = true) ∧ (s.vaultRo = false)) ∧
    (∃ (ifc : Ifc) (facts : WFacts) (s : State), (s.takes ifc 217348 = true) ∧ (s.on F.VLT_STAT_HOST_BUSY = false) ∧
      (s.vaultTarget = true) ∧ (s.vaultRo = false) ∧ (s.qRefuse 14 (s.get F.VLT_SRC * 8) (s.get F.VLT_LEN) false = none) ∧
      (s.ueIn (s.get F.VLT_SRC * 8) (s.get F.VLT_LEN) = none)) ∧
    (∃ (ifc : Ifc) (facts : WFacts) (s : State) (d : Deny), (s.takes ifc 217348 = true) ∧ (s.on F.VLT_STAT_HOST_BUSY = false)
      ∧ (s.vaultTarget = true) ∧ (s.vaultRo = false) ∧ (s.qRefuse 14 (s.get F.VLT_SRC * 8) (s.get F.VLT_LEN) false = some d)) ∧
    (∃ (ifc : Ifc) (facts : WFacts) (s : State), (s.takes ifc 217348 = true) ∧ (s.on F.VLT_STAT_HOST_BUSY = false)) ∧
    (∃ (ifc : Ifc) (facts : WFacts) (s : State) (o : VOp), (s.takes ifc 217348 = true) ∧ (s.on F.VLT_STAT_HOST_BUSY = true) ∧
      (s.vault.ops = [o]) ∧ (o.purpose.cls = 6) ∧ (o.erase = true ∨ o.rows ≠ [])) ∧
    (∃ (ifc : Ifc) (facts : WFacts) (s : State) (o : VOp), (s.takes ifc 217348 = true) ∧ (s.on F.VLT_STAT_HOST_BUSY = true) ∧
      (s.vault.ops = [o]) ∧ (o.purpose.cls = 6) ∧ (o.erase = false) ∧ (o.rows = [])) ∧
    (∃ (ifc : Ifc) (facts : WFacts) (s : State) (o : VOp) (h : VOp), (s.takes ifc 217348 = true) ∧ (s.on
      F.VLT_STAT_HOST_BUSY = true) ∧ (s.vault.ops = [o, h]) ∧ (h.purpose.cls = 6) ∧ (1 ≤ o.purpose.cls) ∧ (o.purpose.cls < 6)) ∧
    (∃ (ifc : Ifc) (facts : WFacts) (s : State), (s.takes ifc 217364 = true)) ∧
    (∃ (s : State), (s.vault.bootKey = none)) ∧
    (∃ (s : State) (t : Nat), (s.vault.bootKey = some t)) ∧
    (∃ (pulses : Nat) (verify : Verify) (tj : Int) (erased : Bool) (bad : Nat) (ue : Nat) (s : State), (s.answers 31 6 =
      false)) ∧
    (∃ (pulses : Nat) (verify : Verify) (tj : Int) (erased : Bool) (bad : Nat) (ue : Nat) (s : State), (s.answers 31 6 =
      false)) ∧
    (∃ (pulses : Nat) (verify : Verify) (tj : Int) (erased : Bool) (bad : Nat) (ue : Nat) (s : State), (s.answers 31 6 =
      false)) ∧
    (∃ (pulses : Nat) (verify : Verify) (tj : Int) (erased : Bool) (bad : Nat) (ue : Nat) (s : State), (s.answers 31 6 = true)
      ∧ (vNext s.vault.ops = none ∨ ∃ (o : VOp), vNext s.vault.ops = some o ∧ o.erase = true)) ∧
    (∃ (pulses : Nat) (verify : Verify) (tj : Int) (erased : Bool) (bad : Nat) (ue : Nat) (s : State), (s.answers 31 6 = true)
      ∧ (vNext s.vault.ops = none ∨ ∃ (o : VOp), vNext s.vault.ops = some o ∧ o.erase = false)) ∧
    (∃ (pulses : Nat) (verify : Verify) (tj : Int) (erased : Bool) (bad : Nat) (ue : Nat) (s : State), (s.answers 31 6 = true)
      ∧ (vNext s.vault.ops = none ∨ ∃ (o : VOp), vNext s.vault.ops = some o ∧ o.purpose.cls ≠ 2)) ∧
    (∃ (pulses : Nat) (s : State) (o : VOp) (x0 : Nat) (bs : List Nat) (k : Nat), (s.answers 31 6 = true) ∧ (s.vault.ops =
      [o]) ∧ (o.purpose = VPurpose.host ∨ o.purpose = VPurpose.aborting) ∧ (o.erase = false) ∧ (o.rows = [(x0, bs)]) ∧
      ((s.physInfo (s.phys (x0 / 4096))).state ≠ PhysState.failed) ∧ (x0 % 4096 + bs.length ≤ 4096) ∧ (∀ (b : Nat), b ∈ bs → b <
      256) ∧ (s.vErased x0 bs.length = true) ∧ (∀ (i : Nat), i < bs.length → k ≠ s.vKey (x0 + i))) ∧
    (∃ (pulses : Nat) (s : State) (o : VOp) (x0 : Nat) (bs : List Nat) (v : Verify), (s.answers 31 6 = true) ∧ (s.vault.ops =
      [o]) ∧ (o.purpose = VPurpose.host ∨ o.purpose = VPurpose.aborting) ∧ (o.erase = false) ∧ (o.rows = [(x0, bs)]) ∧
      ((s.physInfo (s.phys (x0 / 4096))).state ≠ PhysState.failed) ∧ (x0 % 4096 + bs.length ≤ 4096) ∧ (∀ (b : Nat), b ∈ bs → b <
      256) ∧ (s.vErased x0 bs.length = true) ∧ (v ≠ Verify.clean) ∧ (s.spares ≠ 0) ∧ (s.vaultRo = false)) ∧
    (∃ (pulses : Nat) (s : State) (o : VOp) (x0 : Nat) (bs : List Nat) (v : Verify), (s.answers 31 6 = true) ∧ (s.vault.ops =
      [o]) ∧ (o.purpose = VPurpose.host ∨ o.purpose = VPurpose.aborting) ∧ (o.erase = false) ∧ (o.rows = [(x0, bs)]) ∧
      ((s.physInfo (s.phys (x0 / 4096))).state ≠ PhysState.failed) ∧ (x0 % 4096 + bs.length ≤ 4096) ∧ (∀ (b : Nat), b ∈ bs → b <
      256) ∧ (s.vErased x0 bs.length = true) ∧ (v ≠ Verify.clean) ∧ (s.spares = 0 ∨ s.vaultRo = true)) ∧
    (∃ (pulses : Nat) (s : State) (o : VOp) (x0 : Nat) (bs : List Nat) (v : Verify), (s.answers 31 6 = true) ∧ (s.vault.ops =
      [o]) ∧ (o.purpose = VPurpose.host ∨ o.purpose = VPurpose.aborting) ∧ (o.erase = false) ∧ (o.rows = [(x0, bs)]) ∧
      ((s.physInfo (s.phys (x0 / 4096))).state ≠ PhysState.failed) ∧ (x0 % 4096 + bs.length ≤ 4096) ∧ (∀ (b : Nat), b ∈ bs → b <
      256) ∧ (s.vErased x0 bs.length = false)) ∧
    (∃ (tj : Int) (s : State) (o : VOp) (k : Nat), (s.answers 31 6 = true) ∧ (s.vault.ops = [o]) ∧ (o.purpose =
      VPurpose.hostErase) ∧ (o.erase = true) ∧ ((s.physInfo (s.phys o.sector)).state ≠ PhysState.failed) ∧ (k / 4096 = s.phys
      o.sector)) ∧
    (∃ (tj : Int) (s : State) (o : VOp) (k : Nat), (s.answers 31 6 = true) ∧ (s.vault.ops = [o]) ∧ (o.purpose =
      VPurpose.hostErase) ∧ (o.erase = true) ∧ ((s.physInfo (s.phys o.sector)).state ≠ PhysState.failed) ∧ (k / 4096 ≠ s.phys
      o.sector)) ∧
    (∃ (tj : Int) (s : State) (o : VOp), (s.answers 31 6 = true) ∧ (s.vault.ops = [o]) ∧ (o.purpose = VPurpose.hostErase) ∧
      (o.erase = true) ∧ ((s.physInfo (s.phys o.sector)).state ≠ PhysState.failed) ∧ (o.pulses = 0)) ∧
    (∃ (tj : Int) (s : State) (o : VOp) (k : Nat), (s.answers 31 6 = true) ∧ (s.vault.ops = [o]) ∧ (o.purpose =
      VPurpose.hostErase) ∧ (o.erase = true) ∧ ((s.physInfo (s.phys o.sector)).state ≠ PhysState.failed) ∧ (o.pulses < 9) ∧ (k /
      4096 ≠ s.phys o.sector)) ∧
    (∃ (tj : Int) (s : State) (o : VOp), (s.answers 31 6 = true) ∧ (s.vault.ops = [o]) ∧ (o.purpose = VPurpose.hostErase) ∧
      (o.erase = true) ∧ ((s.physInfo (s.phys o.sector)).state ≠ PhysState.failed) ∧ (9 ≤ o.pulses) ∧ (s.spares ≠ 0) ∧
      (s.vaultRo = false)) ∧
    (∃ (tj : Int) (s : State) (o : VOp), (s.answers 31 6 = true) ∧ (s.vault.ops = [o]) ∧ (o.purpose = VPurpose.hostErase) ∧
      (o.erase = true) ∧ ((s.physInfo (s.phys o.sector)).state ≠ PhysState.failed) ∧ (9 ≤ o.pulses) ∧ (s.spares = 0 ∨
      s.vaultRo = true)) ∧
    (∃ (s : State) (l : Nat) (cause : Nat) (ue : Nat) (hs : List VOp) (q : Nat), (s.answers 31 6 = true) ∧ (s.vault.ops = hs
      ++ [{ purpose := VPurpose.retire l cause, rows := [], sector := l, erase := false, pulses := 0, retired := false : VOp }])
      ∧ (hs = [] ∨ ∃ (x0 : Nat), ∃ (p : Nat), hs =
      [{ purpose := VPurpose.host, rows := [], sector := x0, erase := false, pulses := p, retired := true : VOp }]) ∧
      (s.pickSpare = some q) ∧ (s.phys l ≠ q) ∧ (hs ≠ [])) ∧
    (∃ (s : State) (l : Nat) (cause : Nat) (ue : Nat) (hs : List VOp), (s.answers 31 6 = true) ∧ (s.vault.ops = hs ++
      [{ purpose := VPurpose.retire l cause, rows := [], sector := l, erase := false, pulses := 0, retired := false : VOp }]) ∧
      (hs = [] ∨ ∃ (x0 : Nat), ∃ (p : Nat), hs =
      [{ purpose := VPurpose.host, rows := [], sector := x0, erase := false, pulses := p, retired := true : VOp }]) ∧
      (s.pickSpare = none) ∧ (hs ≠ [])) :=
  ⟨⟨Ifc.pcie, facts0, live, by decide +kernel⟩,
   ⟨Ifc.pcie, facts0, live, by decide +kernel⟩,
   ⟨Ifc.pcie, facts0, ((tgt live).set F.VLT_ADDR (524288 / 8)).set F.VLT_STAT_EXHAUSTED 1, by decide +kernel⟩,
   ⟨Ifc.pcie, facts0, ((tgt live).set F.VLT_ADDR (524288 / 8)).set F.VLT_STAT_EXHAUSTED 1, by decide +kernel⟩,
   ⟨Ifc.pcie, facts0, (tgt live).set F.VLT_ADDR (524288 / 8), by decide +kernel⟩,
   ⟨Ifc.pcie, facts0, (tgt live).set F.VLT_ADDR (524288 / 8), by decide +kernel⟩,
   ⟨.pcie, facts0, ((tgt live).set F.VLT_ADDR (0x90000 / 8)).set F.RGN_FENCED 0x4000, .fenced, by decide +kernel⟩,
   ⟨Ifc.pcie, facts0, live, by decide +kernel⟩,
   ⟨Ifc.pcie, facts0, ops (fill live) [o0],
     { purpose := VPurpose.host, rows := [(1048576, [1, 2, 3, 4, 5, 6, 7, 8])], sector := 256, erase := false, pulses := 0, retired := false },
     by decide +kernel⟩,
   ⟨.pcie, facts0, ops live [⟨.host, [], 0x100, false, 0, false⟩], ⟨.host, [], 0x100, false, 0, false⟩, by decide +kernel⟩,
   ⟨.pcie, facts0, ops live [⟨.mirror 1, [], 0x100, false, 0, false⟩, o0], ⟨.mirror 1, [], 0x100, false, 0, false⟩, o0,
     by decide +kernel⟩,
   ⟨Ifc.pcie, facts0, live, by decide +kernel⟩,
   ⟨live, by decide +kernel⟩,
   ⟨wv live fun v => { v with bootKey := some (1000000000 - 500000) }, 999500000, by decide +kernel⟩,
   ⟨0, Verify.clean, 0, true, 0, 0, fz, by decide +kernel⟩,
   ⟨0, Verify.clean, 0, true, 0, 0, fz, by decide +kernel⟩,
   ⟨0, Verify.clean, 0, true, 0, 0, fz, by decide +kernel⟩,
   ⟨0, Verify.clean, 0, true, 0, 0, live, by decide +kernel⟩,
   ⟨0, Verify.clean, 0, true, 0, 0, live, by decide +kernel⟩,
   ⟨0, Verify.clean, 0, true, 0, 0, live, by decide +kernel⟩,
   ⟨0, ops (fill live) [o0],
     { purpose := VPurpose.host, rows := [(1048576, [1, 2, 3, 4, 5, 6, 7, 8])], sector := 256, erase := false, pulses := 0, retired := false },
     1048576, [1, 2, 3, 4, 5, 6, 7, 8], 0, by decide +kernel⟩,
   ⟨0, ops (fill live) [o0],
     { purpose := VPurpose.host, rows := [(1048576, [1, 2, 3, 4, 5, 6, 7, 8])], sector := 256, erase := false, pulses := 0, retired := false },
     1048576, [1, 2, 3, 4, 5, 6, 7, 8], Verify.corrected, by decide +kernel⟩,
   ⟨5, (ops live [o0]).set F.VLT_STAT_SPARES_LEFT 0, o0, 0x100000, [1, 2, 3, 4, 5, 6, 7, 8], .failed, by decide +kernel⟩,
   ⟨0, ops (fill0 live) [o0],
     { purpose := VPurpose.host, rows := [(1048576, [1, 2, 3, 4, 5, 6, 7, 8])], sector := 256, erase := false, pulses := 0, retired := false },
     1048576, [1, 2, 3, 4, 5, 6, 7, 8], Verify.clean, by decide +kernel⟩,
   ⟨250, ops live [o1], o1, 0x100000, by decide +kernel⟩,
   ⟨0, ops (fill live) [o1],
     { purpose := VPurpose.hostErase, rows := [], sector := 256, erase := true, pulses := 0, retired := false }, 0,
     by decide +kernel⟩,
   ⟨0, ops (fill live) [o1],
     { purpose := VPurpose.hostErase, rows := [], sector := 256, erase := true, pulses := 0, retired := false },
     by decide +kernel⟩,
   ⟨0, ops (fill live) [o1],
     { purpose := VPurpose.hostErase, rows := [], sector := 256, erase := true, pulses := 0, retired := false }, 0,
     by decide +kernel⟩,
   ⟨250, (ops live [{ o1 with pulses := 9 }]).set F.VLT_STAT_SPARES_LEFT 5, { o1 with pulses := 9 }, by decide +kernel⟩,
   ⟨250, (ops live [{ o1 with pulses := 9 }]).set F.VLT_STAT_SPARES_LEFT 0, { o1 with pulses := 9 }, by decide +kernel⟩,
   ⟨wv live fun v => { v with ops := [⟨.host, [], 5, false, 0, true⟩, o3] }, 0x100, 1, 0, [⟨.host, [], 5, false, 0, true⟩],
     1792, by decide +kernel, by decide +kernel, .inr ⟨5, 0, rfl⟩, by decide +kernel, by decide +kernel, by decide +kernel⟩,
   ⟨wv live fun v =>
     { v with ops := [⟨.host, [], 5, false, 0, true⟩, o3], wear := (List.range 256).map (fun i => (1792 + i, ⟨0, .retired, false, false, false⟩)) },
     0x100, 1, 0, [⟨.host, [], 5, false, 0, true⟩], by decide +kernel, by decide +kernel, .inr ⟨5, 0, rfl⟩, by decide +kernel,
     by decide +kernel⟩⟩

theorem witness_LegalPortConfigTaken :
    (∃ (ifc : Ifc) (port : Port) (value : Reg) (facts : WFacts) (s : State), (s.takes ifc (33024 + 4096 * (port.val)) = true)
      ∧ (BitVec.toNat value < 32) ∧ (BitVec.toNat value % 8 ≤ 4) ∧ (BitVec.toNat value % 8 = 1 → (port.val) < 2) ∧ (BitVec.toNat
      value % 8 ≠ s.get F.SPK_CFG_GEN (port.val)) ∧ (s.get F.SPK_TEST (port.val) = 0)) ∧
    (∃ (ifc : Ifc) (port : Port) (mode : BitVec 4) (facts : WFacts) (s : State), (s.takes ifc (33028 + 4096 * (port.val)) =
      true) ∧ (mode.toNat = 0 ∨ (pmaModes (s.get F.SPK_CFG_GEN (port.val))).contains mode.toNat = true) ∧ (mode.toNat ≠ s.get
      F.SPK_TEST (port.val))) :=
  ⟨⟨Ifc.pcie, 0, 0, facts0, live, by decide +kernel⟩,
   ⟨Ifc.pcie, 0, 1, facts0, datum, by decide +kernel⟩⟩

theorem witness_SoftReset :
    (∃ (ifc : Ifc) (page : Page) (facts : WFacts) (s : State), (s.takes ifc ((page.val) * 4096 + 8) = true) ∧ (pageCapEn
      (page.val) = true)) ∧
    (∃ (page : Page) (took : Nat) (facts : WFacts) (s : State) (t : Nat), (List.find? (fun (r : Nat × Nat) => r.fst ==
      (page.val)) s.host.reset = some ((page.val), t))) ∧
    (∃ (took : Nat) (facts : WFacts) (s : State) (t : Nat), (s.host.reset = [(33, t)]) ∧ (s.host.staged = [])) :=
  ⟨⟨.pcie, 33, facts0, live, by decide +kernel⟩,
   ⟨5, 5, facts0, reset5, 1000000, by decide +kernel⟩,
   ⟨0, facts0, { live with host := { live.host with reset := [(33, 1000)] } }, 1000, by decide +kernel⟩⟩

theorem witness_PowerEntry :
    (∃ (ifc : Ifc) (target : BitVec 3) (facts : WFacts) (s : State), (s.takes ifc 12544 = true) ∧ (1 ≤ target.toNat) ∧
      (s.soState = 0) ∧ (s.power = 0) ∧ (s.on F.PWR_STAT_ENTERING = false) ∧ (s.pwr.exiting = false) ∧ (4 < target.toNat)) ∧
    (∃ (ifc : Ifc) (target : BitVec 3) (facts : WFacts) (s : State) (n : Nat), (s.takes ifc 12544 = true) ∧ (1 ≤ target.toNat)
      ∧ (s.soState = 0) ∧ (s.power = 0) ∧ (s.on F.PWR_STAT_ENTERING = false) ∧ (s.pwr.exiting = false) ∧ (n < 8)) ∧
    (∃ (ifc : Ifc) (target : BitVec 3) (facts : WFacts) (s : State), (s.takes ifc 12544 = true) ∧ (1 ≤ target.toNat) ∧
      (s.soState = 0) ∧ (s.power ≠ 0 ∨ s.on F.PWR_STAT_ENTERING = true ∨ s.pwr.exiting = true)) ∧
    (∃ (ifc : Ifc) (target : BitVec 3) (facts : WFacts) (s : State), (s.takes ifc 12544 = true) ∧ (1 ≤ target.toNat) ∧
      (s.soState ≠ 0)) ∧
    (∃ (took : Nat) (s : State), (s.on F.PWR_STAT_ENTERING = true) ∧ (1 ≤ s.pwr.target) ∧ (s.pwr.target ≤ 4) ∧ (s.pwr.target =
      1 ∨ s.pwr.step < 8)) ∧
    (∃ (took : Nat) (s : State), (s.on F.PWR_STAT_ENTERING = false ∨ s.pwr.target = 5)) :=
  ⟨⟨Ifc.pcie, 5, facts0, live, by decide +kernel⟩,
   ⟨Ifc.pcie, 1, facts0, live, 0, by decide +kernel⟩,
   ⟨Ifc.pcie, 1, facts0, ((slp live 1).set F.SPK_CFG_GEN 2 1).set F.WAKE_LINE_EN 0, by decide +kernel⟩,
   ⟨Ifc.pcie, 1, facts0, datum, by decide +kernel⟩,
   ⟨0, ent live 1, by decide +kernel⟩,
   ⟨0, live, by decide +kernel⟩⟩

theorem witness_SettingOut :
    (∃ (port : Fin 2) (level : Bool) (s : State), (s.awake 8 = true) ∧ (bit s.so.cpl (port.val) = !level)) ∧
    (∃ (port : Fin 2) (level : Bool) (s : State), (s.awake 8 = false)) ∧
    (∃ (level : Bool) (s : State), (s.awake 8 = false ∨ s.wayside = true)) ∧
    (∃ (level : Bool) (s : State), (s.awake 8 = true) ∧ (s.wayside = false) ∧ (s.count ≠ 1) ∧ (s.pos ≠ 1) ∧ (s.pos ≠ s.count)
      ∧ (s.so.cab = !level)) ∧
    (∃ (level : Bool) (s : State), (s.awake 8 = true) ∧ (s.wayside = false) ∧ (s.count ≠ 1) ∧ (s.pos = 1 ∨ s.pos = s.count) ∧
      (s.arbiter = false) ∧ (s.so.cab = !level)) ∧
    (∃ (ifc : Ifc) (facts : WFacts) (s : State), (s.takes ifc 69892 = true) ∧ (s.standby = false) ∧ (s.isOut = false)) ∧
    (∃ (s : State), (s.running = true) ∧ (s.isSource = false) ∧ (3 ≤ s.get F.LINE_STAT_SYNC_MISS) ∧ (1 ≤ s.soState) ∧
      (s.soState ≤ 5) ∧ (s.inFlight ↑s.base = false) ∧ (s.standby = false) ∧ (s.arbiter = false)) ∧
    (∃ (s : State), (s.running = true) ∧ (s.isSource = false) ∧ (3 ≤ s.get F.LINE_STAT_SYNC_MISS) ∧ (1 ≤ s.soState) ∧
      (s.soState ≤ 5) ∧ (s.inFlight ↑s.base = false)) ∧
    (∃ (s : State) (e : List Nat) (c : Nat), (s.running = true) ∧ (s.so.event = some e) ∧ (s.so.sentAt = some c) ∧ (c + 3 ≤
      s.course) ∧ (s.inFlight ↑s.base = false)) ∧
    (∃ (s : State) (c : Nat), (s.running = true) ∧ (s.so.orphanAt = some c) ∧ (s.soState = 5) ∧ (c + 3 ≤ s.course) ∧
      (s.so.plan = none) ∧ (s.so.alt = 0) ∧ (s.so.provis = false) ∧ (s.so.probes = []) ∧ (s.inFlight ↑s.base = false)) ∧
    (∃ (s : State) (p : Plan), (s.running = true) ∧ (s.so.plan = some p) ∧ (p.joining = true) ∧ (∀ (k t0 t1 : Nat),
      s.so.syncs = [(k + 1, t1), (k, t0)] → s.on F.LINE_STAT_THETA_VALID = false)) ∧
    (∃ (s : State) (p : Plan) (k : Nat) (t0 : Nat) (t1 : Nat), (s.running = true) ∧ (s.so.plan = some p) ∧ (p.joining = true)
      ∧ (s.so.syncs = [(k + 1, t1), (k, t0)]) ∧ (s.on F.LINE_STAT_THETA_VALID = true)) :=
  ⟨⟨0, true, live, by decide +kernel⟩,
   ⟨0, true, fz, by decide +kernel⟩,
   ⟨true, fz, by decide +kernel⟩,
   ⟨true, mem3, by decide +kernel⟩,
   ⟨true, mem3.set F.SETO_STAT_POSITION 3, by decide +kernel⟩,
   ⟨Ifc.pcie, facts0, live, by decide +kernel⟩,
   ⟨mem3.set F.LINE_STAT_SYNC_MISS 3, by decide +kernel⟩,
   ⟨mem3.set F.LINE_STAT_SYNC_MISS 3, by decide +kernel⟩,
   ⟨wo mem3 fun x => { x with event := some [1, 2, 3, 4, 5, 6], sentAt := some 14 }, [1, 2, 3, 4, 5, 6], 14,
     by decide +kernel⟩,
   ⟨wo (mem3.set F.SETO_STAT_STATE 5) fun x => { x with orphanAt := some 14 }, 14, by decide +kernel⟩,
   ⟨jn, pl, by decide +kernel, by decide +kernel, by decide +kernel, fun _ _ _ h =>
     by rw [show jn.so.syncs = [] by decide +kernel] at h; cases h⟩,
   ⟨jn2, pl, 10, 5000000, 15000000, by decide +kernel⟩⟩

theorem witness_KeysAndLineTime :
    (∃ (ifc : Ifc) (high : Reg) (facts : WFacts) (s : State) (h0 : Nat) (h1 : Nat) (h2 : Nat), (s.takes ifc 86292 = true) ∧
      (s.heldPart ifc.id 86280 = some h0) ∧ (s.heldPart ifc.id 86284 = some h1) ∧ (s.heldPart ifc.id 86288 = some h2) ∧ (h0 < 2
      ^ 32) ∧ (h1 < 2 ^ 32) ∧ (h2 < 2 ^ 32)) ∧
    (∃ (ifc : Ifc) (high : Reg) (facts : WFacts) (s : State), (s.takes ifc 86292 = true) ∧ (s.heldPart ifc.id 86280 = none ∨
      s.heldPart ifc.id 86284 = none ∨ s.heldPart ifc.id 86288 = none) ∧ (high ≠ 0)) ∧
    (∃ (ifc : Ifc) (high : Reg) (facts : WFacts) (s : State) (b : Nat), (s.takes ifc 86292 = true) ∧ (s.heldPart ifc.id
      86280 = none ∨ s.heldPart ifc.id 86284 = none ∨ s.heldPart ifc.id 86288 = none) ∧ (b ∈ [86280, 86284, 86288])) ∧
    (∃ (ifc : Ifc) (slot : BitVec 2) (facts : WFacts) (s : State) (m : Nat) (b : Nat), (s.takes ifc 86276 = true) ∧
      (slot.toNat ≠ s.get F.ADM_KEYSEL) ∧ (b ∈ [86280, 86284, 86288])) ∧
    (∃ (ifc : Ifc) (facts : WFacts) (s : State), (s.takes ifc 86300 = true) ∧ (s.isDatum = true)) ∧
    (∃ (ifc : Ifc) (facts : WFacts) (s : State), (s.takes ifc 86300 = true) ∧ (s.isDatum = false)) ∧
    (∃ (ifc : Ifc) (facts : WFacts) (s : State), (s.takes ifc 86300 = true)) ∧
    (∃ (ifc : Ifc) (facts : WFacts) (s : State), (s.takes ifc 86300 = true)) ∧
    (∃ (ifc : Ifc) (facts : WFacts) (s : State), (s.takes ifc 65796 = true) ∧ (s.soState = 0)) ∧
    (∃ (ifc : Ifc) (facts : WFacts) (s : State), (s.takes ifc 65796 = true) ∧ (s.soState ≠ 0)) ∧
    (∃ (ifc : Ifc) (facts : WFacts) (s : State), (s.takes ifc 65796 = true)) :=
  ⟨⟨Ifc.pcie, 0, facts0, parts live, 7, 1, 4294967295, by decide +kernel⟩,
   ⟨Ifc.pcie, 1, facts0, live, by decide +kernel⟩,
   ⟨.pcie, 5, facts0, live, 0x15108, by decide +kernel⟩,
   ⟨.pcie, 1, facts0, live, 0, 0x15108, by decide +kernel⟩,
   ⟨Ifc.pcie, facts0, live, by decide +kernel⟩,
   ⟨Ifc.pcie, facts0, mem3, by decide +kernel⟩,
   ⟨Ifc.pcie, facts0, live, by decide +kernel⟩,
   ⟨Ifc.pcie, facts0, live, by decide +kernel⟩,
   ⟨.pcie, facts0, live, by decide +kernel⟩,
   ⟨Ifc.pcie, facts0, datum, by decide +kernel⟩,
   ⟨Ifc.pcie, facts0, live, by decide +kernel⟩⟩

theorem witness_QuarryAccess :
    (∃ (master : Master) (addr : BitVec 26) (s : State) (be : BitVec 8), (s.masterOn (master.val) = true) ∧ (5 ≤
      s.isl.started) ∧ (s.qDeny ((master.val)) (addr.toNat / 8 * 8 + (beSpan be.toNat).fst) (beSpan be.toNat).snd false = none)
      ∧ ((s.qry.ue.any fun (p : Nat × Nat) => p.fst == s.qKey (addr.toNat / 8 * 8) / 8) = false)) ∧
    (∃ (master : Master) (addr : BitVec 26) (s : State) (data : DWord) (found : Upset) (i : Nat), (s.masterOn (master.val) =
      true) ∧ (5 ≤ s.isl.started) ∧ (s.qDeny ((master.val)) (addr.toNat / 8 * 8) 8 true = none) ∧ (i < 8)) ∧
    (∃ (master : Master) (addr : BitVec 26) (s : State) (data : DWord) (found : Upset) (k : Nat), (s.masterOn (master.val) =
      true) ∧ (5 ≤ s.isl.started) ∧ (s.qDeny ((master.val)) (addr.toNat / 8 * 8) 8 true = none) ∧ (∀ (i : Nat), i < 8 → k ≠
      s.qKey (addr.toNat / 8 * 8 + i))) ∧
    (∃ (master : Master) (addr : BitVec 26) (s : State) (data : DWord) (found : Upset), (s.masterOn (master.val) = true) ∧
      (5 ≤ s.isl.started) ∧ (s.qDeny ((master.val)) (addr.toNat / 8 * 8) 8 true = none) ∧ (Memory.wf 0 s.qry.mem = true)) ∧
    (∃ (master : Master) (addr : BitVec 26) (s : State) (be : BitVec 8) (data : DWord), (s.masterOn (master.val) = true) ∧
      (5 ≤ s.isl.started) ∧ (be ≠ 255) ∧ (s.qDeny ((master.val)) (addr.toNat / 8 * 8 + (beSpan be.toNat).fst) (beSpan
      be.toNat).snd true = none) ∧ ((s.qry.ue.any fun (p : Nat × Nat) => p.fst == s.qKey (addr.toNat / 8 * 8) / 8) = false)) ∧
    (∃ (master : Master) (addr : BitVec 26) (s : State) (be : BitVec 8) (data : Option DWord) (found : Upset), (s.masterOn
      (master.val) = true) ∧ (5 ≤ s.isl.started) ∧ (s.qDeny ((master.val)) (addr.toNat / 8 * 8 + (beSpan be.toNat).fst) (beSpan
      be.toNat).snd data.isSome = some Deny.held)) ∧
    (∃ (master : Master) (addr : BitVec 26) (be : BitVec 8) (data : Option DWord) (found : Upset) (s : State), (s.masterOn
      (master.val) = false)) ∧
    (∃ (master : Master) (addr : BitVec 26) (s : State) (be : BitVec 8) (data : Option DWord) (found : Upset) (d : Deny),
      (s.masterOn (master.val) = true) ∧ (5 ≤ s.isl.started) ∧ (d ≠ Deny.held) ∧ (s.qDeny ((master.val)) (addr.toNat / 8 * 8 +
      (beSpan be.toNat).fst) (beSpan be.toNat).snd data.isSome = some d)) ∧
    (∃ (master : Master) (addr : BitVec 26) (s : State) (be : BitVec 8) (syn : Nat), (s.masterOn (master.val) = true) ∧ (5 ≤
      s.isl.started) ∧ (s.qDeny ((master.val)) (addr.toNat / 8 * 8 + (beSpan be.toNat).fst) (beSpan be.toNat).snd false = none)
      ∧ ((s.qry.ue.any fun (p : Nat × Nat) => p.fst == s.qKey (addr.toNat / 8 * 8) / 8) = false)) ∧
    (∃ (master : Master) (addr : BitVec 26) (s : State) (be : BitVec 8) (syn : Nat), (s.masterOn (master.val) = true) ∧ (5 ≤
      s.isl.started) ∧ (s.qDeny ((master.val)) (addr.toNat / 8 * 8 + (beSpan be.toNat).fst) (beSpan be.toNat).snd false = none)
      ∧ ((s.qry.ue.any fun (p : Nat × Nat) => p.fst == s.qKey (addr.toNat / 8 * 8) / 8) = false)) ∧
    (∃ (master : Master) (addr : BitVec 26) (s : State) (be : BitVec 8) (data : DWord) (syn : Nat), (s.masterOn (master.val) =
      true) ∧ (5 ≤ s.isl.started) ∧ (be ≠ 255) ∧ (s.qDeny ((master.val)) (addr.toNat / 8 * 8 + (beSpan be.toNat).fst) (beSpan
      be.toNat).snd true = none) ∧ ((s.qry.ue.any fun (p : Nat × Nat) => p.fst == s.qKey (addr.toNat / 8 * 8) / 8) = false)) :=
  ⟨⟨0, 0, live, 0, by decide +kernel⟩,
   ⟨0, 0, live, 0, Upset.none, 0, by decide +kernel⟩,
   ⟨0, 0, live, 0, Upset.none, 8, by decide +kernel⟩,
   ⟨0, 0, live, 0, Upset.none, by decide +kernel⟩,
   ⟨0, 0, live, 0, 0, by decide +kernel⟩,
   ⟨0, 0, cp 0, 1, none, Upset.none, by decide +kernel⟩,
   ⟨3, 0, 0, none, Upset.none, fz, by decide +kernel⟩,
   ⟨4, 0x100, fenced, 255, none, .none, .fenced, by decide +kernel⟩,
   ⟨0, 0, live, 0, 0, by decide +kernel⟩,
   ⟨0, 0, live, 0, 0, by decide +kernel⟩,
   ⟨0, 0, live, 0, 0, 0, by decide +kernel⟩⟩

theorem witness_DumpStartsAndEnds :
    (∃ (ifc : Ifc) (facts : WFacts) (s : State), (s.takes ifc 221440 = true) ∧ (s.get F.DUMP_STAT_STATE = 0) ∧ (s.on
      F.TALY_STAT_SAVING = false) ∧ (s.power ≤ 1) ∧ (s.test.slices = [])) ∧
    (∃ (ifc : Ifc) (facts : WFacts) (s : State), (s.takes ifc 221440 = true) ∧ (s.get F.DUMP_STAT_STATE ≠ 0)) ∧
    (∃ (ifc : Ifc) (facts : WFacts) (s : State), (s.takes ifc 221440 = true) ∧ (s.get F.DUMP_STAT_STATE = 0) ∧ (s.on
      F.TALY_STAT_SAVING = true)) ∧
    (∃ (ifc : Ifc) (facts : WFacts) (s : State), (s.ifcTakes ifc 54 = true) ∧ (s.islandAsleep (regIsland 54 256) = true) ∧
      (s.power = 2) ∧ (s.get F.DUMP_STAT_STATE = 0) ∧ (s.on F.TALY_STAT_SAVING = false) ∧ (s.pins.main = true) ∧
      (s.isl.frozen.contains 29 = false) ∧ (s.on F.PWR_STAT_ENTERING = false) ∧ (s.pwr.exiting = false)) ∧
    (∃ (s : State) (auto : Bool), (s.dump.held = some auto) ∧ (s.power = 0) ∧ (s.pwr.exiting = false) ∧ (s.on
      F.PWR_STAT_ENTERING = false) ∧ (s.on F.TALY_STAT_SAVING = false)) ∧
    (∃ (s : State), (s.dump.held = none ∨ s.power ≠ 0 ∨ s.pwr.exiting = true ∨ s.on F.PWR_STAT_ENTERING = true ∨ s.on
      F.TALY_STAT_SAVING = true)) ∧
    (∃ (islands : Reg) (s : State), (s.get F.DUMP_STAT_STATE ≠ 2)) ∧
    (∃ (islands : Reg) (s : State), (s.get F.DUMP_STAT_STATE = 2)) ∧
    (∃ (latencies : List Word) (took : Nat) (facts : StartFacts) (s : State), (s.get F.DUMP_STAT_STATE < 2)) ∧
    (∃ (latencies : List Word) (took : Nat) (facts : StartFacts) (s : State), (4 ≤ s.get F.DUMP_STAT_STATE)) ∧
    (∃ (latencies : List Word) (took : Nat) (facts : StartFacts) (s : State) (k : Nat), (s.get F.DUMP_STAT_STATE = 2 ∨ s.get
      F.DUMP_STAT_STATE = 3) ∧ (s.isl.frozen.contains 31 = true) ∧ (s.mFenced 12 = false) ∧ (s.bank 63 ≠ 6) ∧ (s.dump.swrst =
      false) ∧ (k / 1048576 ≠ 63)) ∧
    (∃ (latencies : List Word) (took : Nat) (facts : StartFacts) (s : State), (s.get F.DUMP_STAT_STATE = 2 ∨ s.get
      F.DUMP_STAT_STATE = 3) ∧ (s.isl.frozen.contains 31 = true) ∧ (s.mFenced 12 = true ∨ s.bank 63 = 6) ∧ (s.dump.swrst =
      false)) ∧
    (∃ (latencies : List Word) (took : Nat) (facts : StartFacts) (s : State), (s.get F.DUMP_STAT_STATE = 2 ∨ s.get
      F.DUMP_STAT_STATE = 3) ∧ (s.isl.frozen.contains 31 = true) ∧ (s.dump.swrst = true) ∧ (s.pins.main = true)) ∧
    (∃ (good : Nat) (hot : Bool) (took : Nat) (s : State), (s.get F.DUMP_STAT_STATE ≠ 4)) ∧
    (∃ (good : Nat) (hot : Bool) (took : Nat) (s : State), (s.get F.DUMP_STAT_STATE = 4) ∧ (good < (s.dump.subset.length +
      4095) / 4096) ∧ (s.spares = 0 ∨ s.vaultRo = true)) ∧
    (∃ (good : Nat) (hot : Bool) (took : Nat) (s : State), (s.get F.DUMP_STAT_STATE = 4) ∧ (¬good < (s.dump.subset.length +
      4095) / 4096 ∨ s.spares ≠ 0 ∧ s.vaultRo = false)) ∧
    (∃ (good : Nat) (hot : Bool) (took : Nat) (s : State), (s.get F.DUMP_STAT_STATE = 4) ∧ (¬good < (s.dump.subset.length +
      4095) / 4096) ∧ (s.dump.subset.length ≤ 65536) ∧ (∀ (i : Nat), i < 16 → ∀ (j : Nat), j < 16 → s.phys ((7077888 + s.get
      F.DUMP_STAT_SLOT * 65536) / 4096 + i) = s.phys ((7077888 + s.get F.DUMP_STAT_SLOT * 65536) / 4096 + j) → i = j)) ∧
    (∃ (ifc : Ifc) (facts : WFacts) (s : State) (k : Nat), (s.takes ifc 221464 = true) ∧ (s.get F.DUMP_STAT_STATE = 0 ∨ s.get
      F.DUMP_STAT_STATE = 5) ∧ (s.qKey 66846720 ≤ k) ∧ (k < s.qKey 66846720 + 262144)) ∧
    (∃ (ifc : Ifc) (facts : WFacts) (s : State) (k : Nat), (s.takes ifc 221464 = true) ∧ (s.get F.DUMP_STAT_STATE = 0 ∨ s.get
      F.DUMP_STAT_STATE = 5) ∧ (k < s.qKey 66846720 ∨ s.qKey 66846720 + 262144 ≤ k)) ∧
    (∃ (ifc : Ifc) (facts : WFacts) (s : State), (s.takes ifc 221464 = true) ∧ (s.get F.DUMP_STAT_STATE ≠ 0) ∧ (s.get
      F.DUMP_STAT_STATE ≠ 5)) ∧
    (∃ (ifc : Ifc) (facts : WFacts) (s : State) (mask : BitVec 4), (s.takes ifc 221464 = true) ∧ (s.get F.DUMP_STAT_STATE =
      0)) ∧
    (∃ (ifc : Ifc) (facts : WFacts) (s : State) (mask : BitVec 4), (s.takes ifc 221464 = true) ∧ (s.get F.DUMP_STAT_STATE ≠ 0)
      ∧ (mask ≠ 0)) :=
  ⟨⟨Ifc.pcie, facts0, live, by decide +kernel⟩,
   ⟨Ifc.pcie, facts0, fz, by decide +kernel⟩,
   ⟨Ifc.pcie, facts0, sav, by decide +kernel⟩,
   ⟨Ifc.pcie, facts0, wp (lns (slp live 2)) fun p => { p with backoff := some 77 }, by decide +kernel⟩,
   ⟨wd live fun d => { d with held := some true }, true, by decide +kernel⟩,
   ⟨live, by decide +kernel⟩,
   ⟨0, live, by decide +kernel⟩,
   ⟨0, fz, by decide +kernel⟩,
   ⟨[], 0, sf0, live, by decide +kernel⟩,
   ⟨[], 0, sf0, wd (live.set F.DUMP_STAT_STATE 4) fun d => { d with subset := List.range 5000 }, by decide +kernel⟩,
   ⟨[], 0, sf0, fz, 0, by decide +kernel⟩,
   ⟨[], 5, sf0, (d3 live).set F.RGN_FENCED 0xFFFF, by decide +kernel⟩,
   ⟨[], 5, sf0, wd (d3 live) fun d => { d with swrst := true }, by decide +kernel⟩,
   ⟨0, true, 0, live, by decide +kernel⟩,
   ⟨0, false, 5, wd ((live.set F.DUMP_STAT_STATE 4).set F.VLT_STAT_SPARES_LEFT 0) fun d => { d with subset := [1] },
     by decide +kernel⟩,
   ⟨0, true, 0, wd (live.set F.DUMP_STAT_STATE 4) fun d => { d with subset := List.range 5000 }, by decide +kernel⟩,
   ⟨2, true, 0, wd (live.set F.DUMP_STAT_STATE 4) fun d => { d with subset := List.range 5000 }, by decide +kernel⟩,
   ⟨.pcie, facts0, live, live.qKey 0x3FC0000, by decide +kernel⟩,
   ⟨Ifc.pcie, facts0, live, 0, by decide +kernel⟩,
   ⟨Ifc.pcie, facts0, fz, by decide +kernel⟩,
   ⟨Ifc.pcie, facts0, live, 0, by decide +kernel⟩,
   ⟨Ifc.pcie, facts0, fz, 1, by decide +kernel⟩⟩

theorem witness_HubCommand :
    (∃ (ifc : Ifc) (mask : BitVec 8) (facts : WFacts) (s : State) (n : Nat), (s.takes ifc 82180 = true) ∧ (s.standby = false)
      ∧ (s.isOut = false) ∧ (n < 8)) ∧
    (∃ (ifc : Ifc) (mask : BitVec 8) (facts : WFacts) (s : State) (n : Nat), (s.takes ifc 82180 = true) ∧ (s.standby = false)
      ∧ (s.isOut = false) ∧ (n < 8)) ∧
    (∃ (ifc : Ifc) (mask : BitVec 8) (facts : WFacts) (s : State) (n : Nat), (s.takes ifc 82180 = true) ∧ (s.standby = true ∨
      s.isOut = true) ∧ (n < 8)) ∧
    (∃ (ifc : Ifc) (mask : BitVec 8) (facts : WFacts) (s : State) (n : Nat), (s.takes ifc 82180 = true) ∧ (s.standby = true ∨
      s.isOut = true) ∧ (n < 8)) :=
  ⟨⟨Ifc.pcie, 0, facts0, live, 0, by decide +kernel⟩,
   ⟨Ifc.pcie, 0, facts0, live, 0, by decide +kernel⟩,
   ⟨Ifc.pcie, 0, facts0, A, 0, by decide +kernel⟩,
   ⟨Ifc.pcie, 0, facts0, A, 0, by decide +kernel⟩⟩

theorem witness_ClaimCommands :
    (∃ (ifc : Ifc) (facts : WFacts) (s : State), (s.takes ifc 74024 = true) ∧ (s.standby = false) ∧ (s.isOut = false)) ∧
    (∃ (ifc : Ifc) (facts : WFacts) (s : State), (s.takes ifc 74024 = true) ∧ (s.standby = false) ∧ (s.isOut = false) ∧
      (s.ownQuoin.isSome = true)) ∧
    (∃ (ifc : Ifc) (facts : WFacts) (s : State), (s.takes ifc 74024 = true) ∧ (s.standby = false) ∧ (s.isOut = false) ∧
      (s.ownQuoin = none)) :=
  ⟨⟨Ifc.pcie, facts0, live, by decide +kernel⟩,
   ⟨.pcie, facts0, wo live fun x => { x with quoins := [(5, live.uid)] }, by decide +kernel⟩,
   ⟨Ifc.pcie, facts0, live, by decide +kernel⟩⟩

theorem witness_RtcCountsAndSets :
    (∃ (s : State), ((if ((s.clk.sec + if s.clk.sub = 0 then 0 else 1) + 31) / 32 * 32 = s.clk.trimmed then ((s.clk.sec + if
      s.clk.sub = 0 then 0 else 1) + 31) / 32 * 32 + 32 else ((s.clk.sec + if s.clk.sub = 0 then 0 else 1) + 31) / 32 * 32) ≤
      (s.elapse (s.untilRtc (if ((s.clk.sec + if s.clk.sub = 0 then 0 else 1) + 31) / 32 * 32 = s.clk.trimmed then ((s.clk.sec +
      if s.clk.sub = 0 then 0 else 1) + 31) / 32 * 32 + 32 else ((s.clk.sec + if s.clk.sub = 0 then 0 else 1) + 31) / 32 *
      32))).clk.sec) ∧ (0 ≤ signed 8 (s.get F.RTC_CAL))) ∧
    (∃ (s : State), ((if ((s.clk.sec + if s.clk.sub = 0 then 0 else 1) + 31) / 32 * 32 = s.clk.trimmed then ((s.clk.sec + if
      s.clk.sub = 0 then 0 else 1) + 31) / 32 * 32 + 32 else ((s.clk.sec + if s.clk.sub = 0 then 0 else 1) + 31) / 32 * 32) ≤
      (s.elapse (s.untilRtc (if ((s.clk.sec + if s.clk.sub = 0 then 0 else 1) + 31) / 32 * 32 = s.clk.trimmed then ((s.clk.sec +
      if s.clk.sub = 0 then 0 else 1) + 31) / 32 * 32 + 32 else ((s.clk.sec + if s.clk.sub = 0 then 0 else 1) + 31) / 32 *
      32))).clk.sec) ∧ (signed 8 (s.get F.RTC_CAL) < 0)) ∧
    (∃ (s : State), ((s.elapse (s.untilRtc (if ((s.clk.sec + if s.clk.sub = 0 then 0 else 1) + 31) / 32 * 32 = s.clk.trimmed
      then ((s.clk.sec + if s.clk.sub = 0 then 0 else 1) + 31) / 32 * 32 + 32 else ((s.clk.sec + if s.clk.sub = 0 then 0 else 1)
      + 31) / 32 * 32))).clk.sec < if ((s.clk.sec + if s.clk.sub = 0 then 0 else 1) + 31) / 32 * 32 = s.clk.trimmed then
      ((s.clk.sec + if s.clk.sub = 0 then 0 else 1) + 31) / 32 * 32 + 32 else ((s.clk.sec + if s.clk.sub = 0 then 0 else 1) +
      31) / 32 * 32)) ∧
    (∃ (s : State), (calEnd ≤ (s.elapse (s.untilRtc calEnd)).clk.sec) ∧ (s.on F.RTC_STAT_CAL_END = false)) ∧
    (∃ (s : State), (calEnd ≤ (s.elapse (s.untilRtc calEnd)).clk.sec) ∧ (s.on F.RTC_STAT_CAL_END = true)) ∧
    (∃ (s : State), ((s.elapse (s.untilRtc calEnd)).clk.sec < calEnd)) ∧
    (∃ (ifc : Ifc) (force : Bool) (form : Bool) (atCourse : Bool) (facts : WFacts) (s : State), (s.takes ifc 205100 = true) ∧
      (s.commitRefused force atCourse s.course = false) ∧ (atCourse = false)) ∧
    (∃ (ifc : Ifc) (force : Bool) (form : Bool) (atCourse : Bool) (facts : WFacts) (s : State), (s.takes ifc 205100 = true) ∧
      (s.commitRefused force atCourse s.course = false) ∧ (atCourse = true)) ∧
    (∃ (ifc : Ifc) (force : Bool) (form : Bool) (atCourse : Bool) (facts : WFacts) (s : State), (s.takes ifc 205100 = true) ∧
      (s.commitRefused force atCourse s.course = true)) ∧
    (∃ (s : State), (s.on F.RTC_STAT_PENDING = true) ∧ (s.get F.RTC_SET_COURSE = s.course)) ∧
    (∃ (s : State), (s.on F.RTC_STAT_PENDING = false ∨ s.get F.RTC_SET_COURSE ≠ s.course)) ∧
    (∃ (ifc : Ifc) (facts : WFacts) (s : State), (s.takes ifc 205100 = true)) ∧
    (∃ (ifc : Ifc) (facts : WFacts) (s : State), (s.takes ifc 205100 = true) ∧ (s.on F.RTC_STAT_PENDING = false) ∧
      (s.timeValid = true) ∧ (s.clk.sub < 32768) ∧ (s.clk.sec < 2 ^ 40) ∧ (s.clk.sec < calEnd)) ∧
    (∃ (ifc : Ifc) (facts : WFacts) (s : State), (s.takes ifc 205100 = true) ∧ (s.on F.RTC_STAT_PENDING = false) ∧
      (s.timeValid = false)) ∧
    (∃ (ifc : Ifc) (facts : WFacts) (s : State), (s.takes ifc 205100 = true) ∧ (s.on F.RTC_STAT_PENDING = true)) ∧
    (∃ (s : State), (s.on F.RTC_ALARM_HI_ARMED = true) ∧ (s.timeValid = true) ∧ (s.islandAsleep 29 = false) ∧ (s.alarmAt ≤
      (s.elapse (s.untilRtc s.alarmAt)).clk.sec)) ∧
    (∃ (s : State), (s.on F.RTC_ALARM_HI_ARMED = true) ∧ (s.timeValid = true) ∧ (s.islandAsleep 29 = false) ∧ ((s.elapse
      (s.untilRtc s.alarmAt)).clk.sec < s.alarmAt)) ∧
    (∃ (s : State), (s.on F.RTC_ALARM_HI_ARMED = false ∨ s.timeValid = false ∨ s.islandAsleep 29 = true)) :=
  ⟨⟨live, by decide +kernel⟩,
   ⟨R (live.set F.RTC_CAL 133), by decide +kernel⟩,
   ⟨ck live fun c => { c with xtal := false }, by decide +kernel⟩,
   ⟨live, by decide +kernel⟩,
   ⟨(ck live fun c => { c with sec := calEnd }).set F.RTC_STAT_CAL_END 1, by decide +kernel⟩,
   ⟨ck live fun c => { c with xtal := false }, by decide +kernel⟩,
   ⟨Ifc.pcie, true, true, false, facts0, live, by decide +kernel⟩,
   ⟨Ifc.pcie, true, true, true, facts0, live.set F.RTC_SET_COURSE 1, by decide +kernel⟩,
   ⟨Ifc.pcie, true, true, true, facts0, live, by decide +kernel⟩,
   ⟨(live.set F.RTC_STAT_PENDING 1).set F.RTC_SET_COURSE 0, by decide +kernel⟩,
   ⟨live, by decide +kernel⟩,
   ⟨Ifc.pcie, facts0, live, by decide +kernel⟩,
   ⟨Ifc.pcie, facts0, (((R live).set F.RTC_STAT_TIME_VALID 1).set F.RTC_ALARM_HI_ARMED 1).set F.RTC_ALARM_LO 64,
     by decide +kernel⟩,
   ⟨Ifc.pcie, facts0, live, by decide +kernel⟩,
   ⟨Ifc.pcie, facts0, (live.set F.RTC_STAT_PENDING 1).set F.RTC_SET_COURSE 0, by decide +kernel⟩,
   ⟨(((R live).set F.RTC_STAT_TIME_VALID 1).set F.RTC_ALARM_HI_ARMED 1).set F.RTC_ALARM_LO 64, by decide +kernel⟩,
   ⟨ck (((live.set F.RTC_STAT_TIME_VALID 1).set F.RTC_ALARM_HI_ARMED 1).set F.RTC_ALARM_LO 64) fun c =>
     { c with xtal := false }, by decide +kernel⟩,
   ⟨live, by decide +kernel⟩⟩

theorem witness_MarksRecordedAndMirrored :
    (∃ (code : BitVec 12) (bytes : List Byte) (deferred : Bool) (s : State), (s.islandAsleep 29 = true ∨ s.isl.frozen.contains
      31 = true)) ∧
    (∃ (code : BitVec 12) (bytes : List Byte) (deferred : Bool) (s : State), (s.islandAsleep 29 = false) ∧
      (s.isl.frozen.contains 31 = false) ∧ (s.vaultAsleep = true ∨ s.on F.TALY_STAT_SAVING = true) ∧ (s.marks.held.length < 8)) ∧
    (∃ (code : BitVec 12) (bytes : List Byte) (deferred : Bool) (s : State), (s.islandAsleep 29 = false) ∧
      (s.isl.frozen.contains 31 = false) ∧ (s.vaultAsleep = true ∨ s.on F.TALY_STAT_SAVING = true) ∧ (8 ≤ s.marks.held.length)) ∧
    (∃ (code : BitVec 12) (bytes : List Byte) (deferred : Bool) (s : State), (s.islandAsleep 29 = false) ∧
      (s.isl.frozen.contains 31 = false) ∧ (s.vaultAsleep = false) ∧ (s.on F.TALY_STAT_SAVING = false) ∧ (markAlways
      code.toNat = true ∨ 1000000000 ≤ s.refill.marks.tokens) ∧ (s.marks.queue.length < 64)) ∧
    (∃ (code : BitVec 12) (bytes : List Byte) (deferred : Bool) (s : State), (s.islandAsleep 29 = false) ∧
      (s.isl.frozen.contains 31 = false) ∧ (s.vaultAsleep = false) ∧ (s.on F.TALY_STAT_SAVING = false) ∧ (markAlways
      code.toNat = true ∨ 1000000000 ≤ s.refill.marks.tokens) ∧ (64 ≤ s.marks.queue.length)) ∧
    (∃ (code : BitVec 12) (bytes : List Byte) (deferred : Bool) (s : State), (s.islandAsleep 29 = false) ∧
      (s.isl.frozen.contains 31 = false) ∧ (s.vaultAsleep = false) ∧ (s.on F.TALY_STAT_SAVING = false) ∧ (markAlways
      code.toNat = false) ∧ (s.refill.marks.tokens < 1000000000)) ∧
    (∃ (s : State), (s.answers 31 8 = false ∨ s.marks.live = false ∨ s.marks.queue = [])) ∧
    (∃ (s : State) (m : Mark) (t : List Mark), (s.answers 31 8 = true) ∧ (s.marks.live = true) ∧ (s.marks.queue = m :: t)) ∧
    (∃ (s : State) (m : Mark) (t : List Mark), (s.answers 31 8 = true) ∧ (s.marks.live = true) ∧ (s.marks.queue = m :: t) ∧
      (s.on F.MARK_STAT_SEQ_END = false) ∧ (s.ownSeq (s.get F.MARK_NEXT_SEQ) < 4294967294)) ∧
    (∃ (s : State) (m : Mark) (t : List Mark), (s.answers 31 8 = true) ∧ (s.marks.live = true) ∧ (s.marks.queue = m :: t) ∧
      (s.on F.MARK_STAT_SEQ_END = true ∨ 4294967295 < s.ownSeq (s.get F.MARK_NEXT_SEQ))) ∧
    (∃ (ifc : Ifc) (code : BitVec 12) (len : BitVec 5) (facts : WFacts) (s : State), (s.takes ifc 213296 = true) ∧ (2048 ≤
      code.toNat) ∧ (len.toNat ≤ 24) ∧ (len.toNat % 2 = 0)) ∧
    (∃ (ifc : Ifc) (code : BitVec 12) (len : BitVec 5) (facts : WFacts) (s : State), (s.takes ifc 213296 = true) ∧
      (code.toNat < 2048 ∨ 24 < len.toNat ∨ len.toNat % 2 = 1)) ∧
    (∃ (s : State), (s.answers 31 8 = false)) ∧
    (∃ (s : State), (s.answers 31 8 = true) ∧ (s.marks.supN = 0) ∧ (s.marks.dropN = 0)) ∧
    (∃ (s : State), (s.answers 31 8 = true) ∧ (s.marks.supN ≠ 0 ∨ s.marks.dropN ≠ 0)) ∧
    (∃ (s : State), (s.answers 31 8 = false ∨ s.on F.MARK_CFG_MIRROR_EN = false)) ∧
    (∃ (s : State), (s.answers 31 8 = true) ∧ (s.on F.MARK_CFG_MIRROR_EN = true) ∧ (s.marks.gapFrom = 0) ∧ (s.marks.toMirror =
      [])) ∧
    (∃ (s : State), (s.answers 31 8 = true) ∧ (s.on F.MARK_CFG_MIRROR_EN = true) ∧ (s.marks.gapFrom ≠ 0) ∧
      (({ s with marks := { s.marks with gapFrom := 0, gapTo := 0 : Marks } : State }.record
      { code := 3, deferred := false, invalid := !s.timeValid, bytes := rtcBytes s.clk.sec s.clk.sub ++ le 4 s.marks.gapFrom ++ le 4 s.marks.gapTo : Mark }).marks.gapFrom =
      0)) ∧
    (∃ (s : State) (r : MarkRec) (t : List MarkRec), (s.answers 31 8 = true) ∧ (s.on F.MARK_CFG_MIRROR_EN = true) ∧
      (s.marks.gapFrom = 0) ∧ (s.marks.toMirror = r :: t) ∧ (r.off ≠ 0) ∧ ((s.qRead 14 (markBase + r.off) r.bytes.length).fst ≠
      QStat.ok)) ∧
    (∃ (s : State) (r : MarkRec) (t : List MarkRec), (s.answers 31 8 = true) ∧ (s.on F.MARK_CFG_MIRROR_EN = true) ∧
      (s.marks.gapFrom = 0) ∧ (s.marks.toMirror = r :: t) ∧ (r.off = 0 ∨ (s.qRead 14 (markBase + r.off) r.bytes.length).fst =
      QStat.ok) ∧ (r.first = true ∧ mirrorPlace s.marks.vFirstOff r.bytes.length % 4096 = 32 ∧ s.marksBlank (mirrorPlace
      s.marks.vFirstOff r.bytes.length / 4096) = false → s.on F.MARK_STAT_FIRST_ONLY = true) ∧ (¬(s.on F.MARK_STAT_FIRST_ONLY =
      false ∧ mirrorPlace (if 4194304 ≤ mirrorPlace (s.ringWrap s.marks.vRecentOff) r.bytes.length then 16 * s.marks.fInForce *
      4096 else s.ringWrap s.marks.vRecentOff) r.bytes.length % 4096 = 32 ∧ s.marksBlank (mirrorPlace (if 4194304 ≤ mirrorPlace
      (s.ringWrap s.marks.vRecentOff) r.bytes.length then 16 * s.marks.fInForce * 4096 else s.ringWrap s.marks.vRecentOff)
      r.bytes.length / 4096) = false))) ∧
    (∃ (s : State) (r : MarkRec) (t : List MarkRec), (s.answers 31 8 = true) ∧ (s.on F.MARK_CFG_MIRROR_EN = true) ∧
      (s.marks.gapFrom = 0) ∧ (s.marks.toMirror = r :: t) ∧ (r.off = 0 ∨ (s.qRead 14 (markBase + r.off) r.bytes.length).fst =
      QStat.ok) ∧ (r.first = true ∧ mirrorPlace s.marks.vFirstOff r.bytes.length % 4096 = 32 ∧ s.marksBlank (mirrorPlace
      s.marks.vFirstOff r.bytes.length / 4096) = false) ∧ (s.on F.MARK_STAT_FIRST_ONLY = false)) ∧
    (∃ (s : State) (r : MarkRec) (t : List MarkRec), (s.answers 31 8 = true) ∧ (s.on F.MARK_CFG_MIRROR_EN = true) ∧
      (s.marks.gapFrom = 0) ∧ (s.marks.toMirror = r :: t) ∧ (r.off = 0 ∨ (s.qRead 14 (markBase + r.off) r.bytes.length).fst =
      QStat.ok) ∧ (¬(r.first = true ∧ mirrorPlace s.marks.vFirstOff r.bytes.length % 4096 = 32 ∧ s.marksBlank (mirrorPlace
      s.marks.vFirstOff r.bytes.length / 4096) = false)) ∧ (s.on F.MARK_STAT_FIRST_ONLY = false ∧ mirrorPlace (if 4194304 ≤
      mirrorPlace (s.ringWrap s.marks.vRecentOff) r.bytes.length then 16 * s.marks.fInForce * 4096 else s.ringWrap
      s.marks.vRecentOff) r.bytes.length % 4096 = 32 ∧ s.marksBlank (mirrorPlace (if 4194304 ≤ mirrorPlace (s.ringWrap
      s.marks.vRecentOff) r.bytes.length then 16 * s.marks.fInForce * 4096 else s.ringWrap s.marks.vRecentOff) r.bytes.length /
      4096) = false)) ∧
    (∃ (ifc : Ifc) (part : BitVec 2) (facts : WFacts) (s : State), (s.takes ifc 213272 = true) ∧ (part = 0)) ∧
    (∃ (ifc : Ifc) (part : BitVec 2) (facts : WFacts) (s : State), (s.takes ifc 213272 = true) ∧ (bit (if part = 0 then 3 else
      part.toNat) 0 = true)) ∧
    (∃ (ifc : Ifc) (part : BitVec 2) (facts : WFacts) (s : State), (s.takes ifc 213272 = true) ∧ (bit (if part = 0 then 3 else
      part.toNat) 1 = true)) :=
  ⟨⟨0, [], true, fz, by decide +kernel⟩,
   ⟨0, [], true, sav, by decide +kernel⟩,
   ⟨0x801, [], false, wmB sav fun k => { k with held := List.replicate 8 m1 }, by decide +kernel⟩,
   ⟨0, [], true, live, by decide +kernel⟩,
   ⟨0x81, [], false, wmB T0 fun k => { k with queue := List.replicate 64 m0 }, by decide +kernel⟩,
   ⟨0, [], true, State.reset, by decide +kernel⟩,
   ⟨live, by decide +kernel⟩,
   ⟨qd T0, { code := 129, deferred := false, invalid := false, bytes := [0, 1, 2, 3, 4, 5, 6, 7, 1, 0] },
     [{ code := 2049, deferred := false, invalid := true, bytes := [0, 1, 2, 3, 4, 5, 6, 7, 1, 0] }], by decide +kernel⟩,
   ⟨qd T0, { code := 129, deferred := false, invalid := false, bytes := [0, 1, 2, 3, 4, 5, 6, 7, 1, 0] },
     [{ code := 2049, deferred := false, invalid := true, bytes := [0, 1, 2, 3, 4, 5, 6, 7, 1, 0] }], by decide +kernel⟩,
   ⟨(qd T0).set F.MARK_STAT_SEQ_END 1, m0, [m1], by decide +kernel⟩,
   ⟨Ifc.pcie, 0x801, 0, facts0, live, by decide +kernel⟩,
   ⟨Ifc.pcie, 0, 0, facts0, live, by decide +kernel⟩,
   ⟨fz, by decide +kernel⟩,
   ⟨live, by decide +kernel⟩,
   ⟨wmB T0 fun m => { m with supN := 3, supCode := 129 }, by decide +kernel⟩,
   ⟨fz, by decide +kernel⟩,
   ⟨live, by decide +kernel⟩,
   ⟨wmB (mi T0) fun k => { k with gapFrom := 5, gapTo := 7 }, by decide +kernel⟩,
   ⟨mue T0,
     { seq := 7, bytes := [0, 1, 2, 3, 4, 5, 6, 7, 8, 9, 10, 11, 12, 13, 14, 15, 16, 17, 18, 19, 20, 21, 22, 23, 24, 25, 26, 27, 28, 29, 30, 31, 32, 33, 34, 35, 36, 37, 38, 39], off := 512, first := false },
     [{ seq := 7, bytes := [0, 1, 2, 3, 4, 5, 6, 7, 8, 9, 10, 11, 12, 13, 14, 15, 16, 17, 18, 19, 20, 21, 22, 23, 24, 25, 26, 27, 28, 29, 30, 31], off := 0, first := true }],
     by decide +kernel⟩,
   ⟨mi1 T0,
     { seq := 7, bytes := [0, 1, 2, 3, 4, 5, 6, 7, 8, 9, 10, 11, 12, 13, 14, 15, 16, 17, 18, 19, 20, 21, 22, 23, 24, 25, 26, 27, 28, 29, 30, 31, 32, 33, 34, 35, 36, 37, 38, 39], off := 512, first := false },
     [], by decide +kernel⟩,
   ⟨wv (wmB (mi T0) fun k => { k with toMirror := [r1], vFirstOff := 0 }) fun v =>
     { v with mem := memWrite 0xFF marksBase [0] v.mem }, r1, [], by decide +kernel⟩,
   ⟨wv (wmB (mi T0) fun k => { k with toMirror := [r0], fInForce := 1, vRecentOff := 65536 }) fun v =>
     { v with mem := memWrite 0xFF (marksBase + 65536) [0] v.mem }, r0, [], by decide +kernel⟩,
   ⟨Ifc.pcie, 0, facts0, live, by decide +kernel⟩,
   ⟨Ifc.pcie, 0, facts0, live, by decide +kernel⟩,
   ⟨Ifc.pcie, 0, facts0, live, by decide +kernel⟩⟩

theorem witness_ScheduleCommands :
    (∃ (ifc : Ifc) (facts : WFacts) (s : State), (s.takes ifc 73996 = true) ∧ (s.on F.SCHD_RESULT_BUSY = true)) ∧
    (∃ (ifc : Ifc) (facts : WFacts) (s : State), (s.takes ifc 73996 = true) ∧ (s.on F.SCHD_RESULT_BUSY = false) ∧ (s.on
      F.SCHD_SRC = true)) ∧
    (∃ (ifc : Ifc) (facts : WFacts) (s : State), (s.takes ifc 73996 = true) ∧ (s.on F.SCHD_RESULT_BUSY = false) ∧ (s.on
      F.SCHD_SRC = false)) ∧
    (∃ (s : State) (im : List Nat), (s.awake 8 = true) ∧ (s.loading = some im) ∧ ((validate im im.length (s.boot.straps %
      2)).fst = 0)) ∧
    (∃ (s : State) (im : List Nat), (s.awake 8 = true) ∧ (s.loading = some im) ∧ ((validate im im.length (s.boot.straps %
      2)).fst ≠ 0)) ∧
    (∃ (ifc : Ifc) (facts : WFacts) (s : State), (s.takes ifc 73996 = true)) :=
  ⟨⟨Ifc.pcie, facts0, ld [], by decide +kernel⟩,
   ⟨Ifc.pcie, facts0, live.set F.SCHD_SRC 1, by decide +kernel⟩,
   ⟨Ifc.pcie, facts0, live, by decide +kernel⟩,
   ⟨ldB, [85, 76, 82, 83, 1, 0, 64, 0, 68, 1, 0, 0, 1, 0, 0, 0, 16, 39, 0, 0, 16, 0, 230, 1, 7, 2, 0, 0, 0, 0, 0, 0, 64, 0, 0,
     0, 64, 1, 0, 0, 0, 0, 0, 0, 0, 0, 0, 0, 0, 0, 0, 0, 0, 0, 0, 0, 0, 0, 0, 0, 0, 0, 0, 0, 0, 0, 0, 0, 240, 73, 2, 0, 1, 3, 0,
     63, 4, 0, 255, 255, 240, 73, 2, 0, 160, 217, 8, 0, 2, 4, 0, 63, 10, 0, 255, 255, 144, 35, 11, 0, 160, 217, 8, 0, 2, 4, 0,
     63, 10, 0, 255, 255, 48, 253, 19, 0, 184, 249, 2, 0, 2, 3, 0, 63, 10, 0, 255, 255, 232, 246, 22, 0, 184, 249, 2, 0, 2, 0,
     0, 63, 10, 0, 255, 255, 160, 240, 25, 0, 8, 159, 8, 0, 3, 4, 0, 63, 8, 0, 255, 255, 168, 143, 34, 0, 32, 191, 2, 0, 4, 3,
     0, 63, 8, 0, 255, 255, 200, 78, 37, 0, 240, 73, 2, 0, 5, 3, 0, 63, 4, 0, 255, 255, 184, 152, 39, 0, 232, 3, 0, 0, 0, 0, 0,
     63, 0, 0, 255, 255, 160, 156, 39, 0, 232, 3, 0, 0, 0, 0, 0, 63, 0, 0, 255, 255, 136, 160, 39, 0, 232, 3, 0, 0, 0, 0, 0, 63,
     0, 0, 255, 255, 112, 164, 39, 0, 232, 3, 0, 0, 0, 0, 0, 63, 0, 0, 255, 255, 88, 168, 39, 0, 232, 3, 0, 0, 0, 0, 0, 63, 0,
     0, 255, 255, 64, 172, 39, 0, 232, 3, 0, 0, 0, 0, 0, 63, 0, 0, 255, 255, 40, 176, 39, 0, 232, 3, 0, 0, 0, 0, 0, 63, 0, 0,
     255, 255, 16, 180, 39, 0, 232, 3, 0, 0, 0, 0, 0, 63, 0, 0, 255, 255, 243, 98, 5, 250], by decide +kernel⟩,
   ⟨ld [], [], by decide +kernel⟩,
   ⟨Ifc.pcie, facts0, live, by decide +kernel⟩⟩

theorem witness_KillLatchSetsAndClears :
    (∃ (low : Nat) (taken : Bool) (s : State), (low < 10 ∨ low < 30 ∧ taken = false)) ∧
    (∃ (low : Nat) (taken : Bool) (s : State), (10 ≤ low) ∧ (30 ≤ low ∨ taken = true) ∧ (s.isl.started < 8 ∨ 3 ≤ s.power)) ∧
    (∃ (low : Nat) (taken : Bool) (s : State) (n : Nat), (10 ≤ low) ∧ (30 ≤ low ∨ taken = true) ∧ (8 ≤ s.isl.started) ∧
      (s.power < 3) ∧ (s.killed = false) ∧ (s.lines.length = 8) ∧ (n < 8)) ∧
    (∃ (s : State) (n : Nat), (8 ≤ s.isl.started) ∧ (s.power < 3) ∧ (s.killed = true) ∧ (n < 8)) :=
  ⟨⟨0, true, live, by decide +kernel⟩,
   ⟨12, true, State.reset, by decide +kernel⟩,
   ⟨12, true, live, 0, by decide +kernel⟩,
   ⟨after (Instr.killAssert 30 true) a1, 0, by decide +kernel⟩⟩

theorem witness_FencesAndSemaphores :
    (∃ (ifc : Ifc) (mask : Word) (facts : WFacts) (s : State) (i : Nat), (s.takes ifc 135424 = true) ∧ (s.takes ifc 135428 =
      true) ∧ (i < 256)) ∧
    (∃ (ifc : Ifc) (mask : Word) (facts : WFacts) (s : State), (s.takes ifc 135424 = true) ∧ (s.takes ifc 135428 = true) ∧
      ((s.get F.RGN_FENCED).lor (BitVec.toNat mask) ≠ s.get F.RGN_FENCED)) ∧
    (∃ (ifc : Ifc) (mask : Word) (facts : WFacts) (s : State) (m : Nat), (s.takes ifc 135424 = true) ∧ (s.takes ifc 135428 =
      true) ∧ (bit (BitVec.toNat mask) ifc.id = false) ∧ (m < 16)) ∧
    (∃ (ifc : Ifc) (index : Fin 64) (tag : Word) (lease : BitVec 8) (facts : WFacts) (s : State), (s.takes ifc (132096 + 4 *
      (index.val)) = true) ∧ (s.mFenced ifc.id = false) ∧ (s.semExpired (index.val) = true)) ∧
    (∃ (ifc : Ifc) (index : Fin 64) (tag : Word) (lease : BitVec 8) (facts : WFacts) (s : State), (s.takes ifc (132096 + 4 *
      (index.val)) = true) ∧ (s.mFenced ifc.id = true) ∧ (s.semExpired (index.val) = false) ∧ (lease ≠ 0)) ∧
    (∃ (ifc : Ifc) (index : Fin 64) (tag : Word) (lease : BitVec 8) (facts : WFacts) (s : State), (s.takes ifc (132096 + 4 *
      (index.val)) = true) ∧ (s.semExpired (index.val) = false) ∧ (s.semHolds ((index.val)) ifc.id (BitVec.toNat tag) = false) ∧
      (lease ≠ 0)) ∧
    (∃ (ifc : Ifc) (index : Fin 64) (tag : Word) (lease : BitVec 8) (facts : WFacts) (s : State), (s.takes ifc (132096 + 4 *
      (index.val)) = true) ∧ (s.semExpired (index.val) = false) ∧ (s.semHolds ((index.val)) ifc.id (BitVec.toNat tag) = true)) ∧
    (∃ (ifc : Ifc) (index : Fin 64) (tag : Word) (lease : BitVec 8) (facts : WFacts) (s : State), (s.takes ifc (132096 + 4 *
      (index.val)) = true) ∧ (s.mFenced ifc.id = false) ∧ (s.semExpired (index.val) = false) ∧ (s.on F.QRY_SEMN_HELD
      (index.val) = false)) ∧
    (∃ (ifc : Ifc) (index : Fin 64) (tag : Word) (lease : BitVec 8) (facts : WFacts) (s : State), (s.takes ifc (132096 + 4 *
      (index.val)) = true) ∧ (s.mFenced ifc.id = false) ∧ (s.semExpired (index.val) = false) ∧ (s.on F.QRY_SEMN_HELD
      (index.val) = true) ∧ (s.semHolds ((index.val)) ifc.id (BitVec.toNat tag) = false)) ∧
    (∃ (ifc : Ifc) (index : Fin 64) (tag : Word) (lease : BitVec 8) (facts : WFacts) (s : State), (s.takes ifc (132096 + 4 *
      (index.val)) = true) ∧ (s.mFenced ifc.id = false) ∧ (s.semExpired (index.val) = false) ∧ (s.semHolds ((index.val)) ifc.id
      (BitVec.toNat tag) = true)) ∧
    (∃ (ifc : Ifc) (index : Fin 64) (tag : Word) (lease : BitVec 8) (facts : WFacts) (s : State), (s.takes ifc (132096 + 4 *
      (index.val)) = true) ∧ (s.mFenced ifc.id = false) ∧ (s.semExpired (index.val) = false) ∧ (s.semHolds ((index.val)) ifc.id
      (BitVec.toNat tag) = true)) ∧
    (∃ (index : Fin 64) (s : State), (s.islandAsleep 9 = false) ∧ (s.on F.QRY_SEMN_HELD (index.val) = true) ∧
      (s.isl.frozen.contains 9 = false)) ∧
    (∃ (ifc : Ifc) (mask : Word) (facts : WFacts) (s : State) (n : Nat), (s.takes ifc 131440 = true) ∧ ((BitVec.toNat
      mask).land (s.get F.RGN_FENCED) = BitVec.toNat mask) ∧ (n < 64)) :=
  ⟨⟨Ifc.pcie, 0, facts0, live, 0, by decide +kernel⟩,
   ⟨Ifc.pcie, 1, facts0, live, by decide +kernel⟩,
   ⟨Ifc.pcie, 0, facts0, live, 0, by decide +kernel⟩,
   ⟨.pcie, 5, 5, 1, facts0, ck (sem live 5 0 5) fun c => { c with q0Ns := 5000000000 }, by decide +kernel⟩,
   ⟨Ifc.pcie, 0, 0, 1, facts0, fenced, by decide +kernel⟩,
   ⟨Ifc.pcie, 0, 0, 1, facts0, live, by decide +kernel⟩,
   ⟨Ifc.pcie, 5, 5, 0, facts0, sem live 5 0 5, by decide +kernel⟩,
   ⟨Ifc.pcie, 0, 0, 0, facts0, live, by decide +kernel⟩,
   ⟨Ifc.pcie, 5, 0, 0, facts0, sem live 5 0 5, by decide +kernel⟩,
   ⟨Ifc.pcie, 5, 5, 0, facts0, sem live 5 0 5, by decide +kernel⟩,
   ⟨Ifc.pcie, 5, 5, 0, facts0, sem live 5 0 5, by decide +kernel⟩,
   ⟨5, sem live 5 0 5, by decide +kernel⟩,
   ⟨Ifc.pcie, 0, facts0, live, 0, by decide +kernel⟩⟩

theorem witness_CourseClock :
    (∃ (s : State), (s.clk.ltOn = true) ∧ (8 ≤ s.isl.started) ∧ (s.on F.PWR_STAT_WAKING = false) ∧ (s.power = 0) ∧ (s.on
      F.PWR_STAT_ENTERING = false) ∧ ((s.elapseLt (s.base + s.courseNs)).correct.fst = true)) ∧
    (∃ (s : State), (s.clk.ltOn = true) ∧ (8 ≤ s.isl.started) ∧ (s.on F.PWR_STAT_WAKING = false) ∧ (s.power = 0) ∧ (s.on
      F.PWR_STAT_ENTERING = false) ∧ ((s.elapseLt (s.base + s.courseNs)).correct.fst = false)) ∧
    (∃ (s : State), (s.clk.ltOn = true) ∧ (8 ≤ s.isl.started) ∧ (s.on F.PWR_STAT_WAKING = false) ∧ (s.power = 0) ∧ (s.on
      F.PWR_STAT_ENTERING = false) ∧ (s.isSource = true)) ∧
    (∃ (s : State), (s.clk.ltOn = true) ∧ (8 ≤ s.isl.started) ∧ (s.on F.PWR_STAT_WAKING = false) ∧ (s.power ≤ 2) ∧ (s.power ≠
      0 ∨ s.on F.PWR_STAT_ENTERING = true)) ∧
    (∃ (s : State), (s.clk.ltOn = false) ∧ (s.portsLive = false)) ∧
    (∃ (s : State) (m : RxMsg), (s.awake 8 = true) ∧ (s.inFlight ↑s.base = false) ∧ (s.trw.rx = [m]) ∧ (m.course + 16 ≤
      s.course) ∧ (s.trw.ctxs = [])) :=
  ⟨⟨live, by decide +kernel⟩,
   ⟨{ mem3 with pace := { mem3.pace with syncEps := some (-1000000) } }, by decide +kernel⟩,
   ⟨live, by decide +kernel⟩,
   ⟨((slp live 1).set F.SPK_CFG_GEN 2 1).set F.WAKE_LINE_EN 0, by decide +kernel⟩,
   ⟨State.reset, by decide +kernel⟩,
   ⟨{ live with course := 40, trw := { live.trw with rx := [rx0] } },
     { uid := 1, src := 1, stream := 2, id := 3, next := 0, last := 4, words := [], seq := 0, course := 20, deferred := false, restart := false, stamp := 0 },
     by decide +kernel⟩⟩

theorem witness_RoleAndFence :
    (∃ (s : State) (level : BitVec 2) (fence : Bool), (8 ≤ s.isl.started) ∧ (s.dumping = false) ∧ (s.boot.twin = false)) ∧
    (∃ (s : State) (level : BitVec 2) (fence : Bool), (8 ≤ s.isl.started) ∧ (s.dumping = false) ∧ (s.boot.twin = false)) ∧
    (∃ (s : State) (level : BitVec 2), (8 ≤ s.isl.started) ∧ (s.dumping = false) ∧ (s.boot.twin = true) ∧ (level.toNat =
      s.twin.roleLevel)) ∧
    (∃ (s : State) (level : BitVec 2), (8 ≤ s.isl.started) ∧ (s.dumping = false) ∧ (s.boot.twin = true) ∧ (level.toNat ≠
      s.twin.roleLevel) ∧ (s.role ≠ 1) ∧ (level ≠ 1)) ∧
    (∃ (s : State) (level : Bool), (8 ≤ s.isl.started) ∧ (s.dumping = false) ∧ (s.boot.twin = true) ∧ (level =
      s.twin.fencedIn)) ∧
    (∃ (s : State) (level : Bool), (8 ≤ s.isl.started) ∧ (s.dumping = false) ∧ (s.boot.twin = true) ∧ (level =
      !s.twin.fencedIn) ∧ (level = true) ∧ (s.role ≠ 1) ∧ (s.roleCmd = 1) ∧ (s.killed = false) ∧ (s.twin.outUntil = false)) ∧
    (∃ (s : State) (level : Bool), (8 ≤ s.isl.started) ∧ (s.dumping = false) ∧ (s.boot.twin = true) ∧ (level =
      !s.twin.fencedIn) ∧ (level = false)) :=
  ⟨⟨live, 0, true, by decide +kernel⟩,
   ⟨live, 0, true, by decide +kernel⟩,
   ⟨A, 0, by decide +kernel⟩,
   ⟨A, 2, by decide +kernel⟩,
   ⟨A, false, by decide +kernel⟩,
   ⟨(tw A fun t => { t with roleLevel := 1 }).set F.TWIN_STAT_ROLE_CMD 1, true, by decide +kernel⟩,
   ⟨tw Act fun t => { t with roleLevel := 2, fencedIn := true }, false, by decide +kernel⟩⟩

theorem witness_IslandCommands :
    (∃ (s : State), (s.qry.held = [])) ∧
    (∃ (s : State) (h : HeldAccess) (t : List HeldAccess), (s.qry.held = h :: t) ∧ (s.heldDeny h = none)) ∧
    (∃ (s : State) (h : HeldAccess) (t : List HeldAccess), (s.qry.held = h :: t) ∧ (s.heldDeny h = some Deny.held)) ∧
    (∃ (pll : Fin 13) (s : State), (s.answers 29 3 = true) ∧ (s.power < 3) ∧ (s.isl.pllLost.contains (pll.val) = false)) ∧
    (∃ (pll : Fin 13) (s : State), (s.answers 29 8 = true) ∧ (s.isl.pllLost.contains (pll.val) = true) ∧ ((pll.val) ≠ 8)) ∧
    (∃ (s : State), (s.answers 29 8 = true) ∧ (s.isl.pllLost.contains 8 = true)) :=
  ⟨⟨live, by decide +kernel⟩,
   ⟨{ live with qry := { live.qry with held := [{ master := 4, addr := 256, be := 255, write := none }, { master := 5, addr := 264, be := 255, write := some 77 }] } },
     { master := 4, addr := 256, be := 255, write := none }, [{ master := 5, addr := 264, be := 255, write := some 77 }],
     by decide +kernel⟩,
   ⟨wq (live.setBank 0 7) fun q => { q with held := [⟨4, 0x100, 255, none⟩] }, ⟨4, 0x100, 255, none⟩, [], by decide +kernel⟩,
   ⟨0, live, by decide +kernel⟩,
   ⟨0, { live with isl := { live.isl with pllLost := [8, 9, 0] } }, by decide +kernel⟩,
   ⟨{ live with isl := { live.isl with pllLost := [8, 9, 0] } }, by decide +kernel⟩⟩

theorem witness_LoadChannels :
    (∃ (chan : Chan) (stamp : DWord) (len : Nat) (codeI : Word) (codeV : Word) (held : Bool) (s : State), (s.awake 27 = true)) ∧
    (∃ (chan : Chan) (stamp : DWord) (len : Nat) (codeI : Word) (codeV : Word) (held : Bool) (s : State), (s.awake 27 = true)
      ∧ (s.loads.length = 48) ∧ (1 < (s.chan (chan.val)).azN)) ∧
    (∃ (chan : Chan) (stamp : DWord) (len : Nat) (codeI : Word) (codeV : Word) (held : Bool) (s : State), (s.awake 27 = true)
      ∧ (s.loads.length = 48) ∧ ((s.chan (chan.val)).azN = 1)) ∧
    (∃ (chan : Chan) (s : State) (w : LWin) (rest : List LWin) (t : Nat), (s.awake 27 = true) ∧ (s.islandAsleep 27 = false) ∧
      ((s.chan (chan.val)).windows = w :: rest) ∧ (w.close = some t) ∧ (t < w.opened + 40000 ∨ w.n < 2 ∨ w.void = true)) ∧
    (∃ (chan : Chan) (s : State) (w : LWin) (rest : List LWin) (t : Nat), (s.awake 27 = true) ∧ (s.islandAsleep 27 = false) ∧
      ((s.chan (chan.val)).windows = w :: rest) ∧ (w.close = some t) ∧ (w.opened + 40000 ≤ t) ∧ (2 ≤ w.n) ∧ (w.void = false) ∧
      (s.kind (chan.val) ≠ 2)) ∧
    (∃ (chan : Chan) (s : State) (w : LWin) (rest : List LWin) (t : Nat), (s.awake 27 = true) ∧ (s.islandAsleep 27 = false) ∧
      ((s.chan (chan.val)).windows = w :: rest) ∧ (w.close = some t) ∧ (w.opened + 40000 ≤ t) ∧ (2 ≤ w.n) ∧ (w.void = false) ∧
      (s.kind (chan.val) = 2)) ∧
    (∃ (chan : Chan) (s : State), (s.awake 27 = true) ∧ ((s.chan (chan.val)).windows = [])) ∧
    (∃ (chan : Chan) (s : State) (w : LWin) (rest : List LWin) (len : Nat), (s.awake 27 = true) ∧ ((s.chan
      (chan.val)).windows = w :: rest) ∧ (w.close = none) ∧ (s.windowNs (chan.val) = some len) ∧ (s.kind (chan.val) ≠ 1) ∧
      (w.n < 2 ∨ w.void = true)) ∧
    (∃ (chan : Chan) (s : State) (w : LWin) (rest : List LWin), (s.awake 27 = true) ∧ ((s.chan (chan.val)).windows = w ::
      rest) ∧ (w.close = none) ∧ (s.windowNs (chan.val) = none)) ∧
    (∃ (chan : Chan) (s : State), (s.awake 27 = true) ∧ (s.islandAsleep 27 = false) ∧ (s.chanOff (chan.val) = true ∨ s.power =
      2 ∨ s.kind (chan.val) = 0 ∨ s.kind (chan.val) = 3 ∨ s.kind (chan.val) = 2 ∧ s.heaterNext ((chan.val)) (s.chan
      (chan.val)).edgeAt = none ∨ s.kind (chan.val) = 1 ∧ s.lampNext ((chan.val)) (s.chan (chan.val)).edgeAt = none)) ∧
    (∃ (chan : Chan) (s : State) (t : Nat), (s.awake 27 = true) ∧ (s.islandAsleep 27 = false) ∧ (s.chanOff (chan.val) = false)
      ∧ (s.power ≠ 2) ∧ (s.kind (chan.val) = 1) ∧ (s.lampNext ((chan.val)) (s.chan (chan.val)).edgeAt = some t) ∧
      (s.loads.length = 48) ∧ (t % (1000 * s.lds F.LDS_PWM_PWM_US (chan.val)) = 0) ∧ ((s.chan (chan.val)).latchLt < t)) ∧
    (∃ (chan : Chan) (s : State) (t : Nat), (s.awake 27 = true) ∧ (s.islandAsleep 27 = false) ∧ (s.chanOff (chan.val) = false)
      ∧ (s.power ≠ 2) ∧ (s.kind (chan.val) = 1) ∧ (s.lampNext ((chan.val)) (s.chan (chan.val)).edgeAt = some t) ∧ (t % (1000 *
      s.lds F.LDS_PWM_PWM_US (chan.val)) ≠ 0) ∧ ((s.chan (chan.val)).proofEnd = 0)) ∧
    (∃ (chan : Chan) (s : State) (t : Nat), (s.awake 27 = true) ∧ (s.islandAsleep 27 = false) ∧ (s.chanOff (chan.val) = false)
      ∧ (s.power ≠ 2) ∧ (s.kind (chan.val) = 2) ∧ (s.heaterNext ((chan.val)) (s.chan (chan.val)).edgeAt = some t)) ∧
    (∃ (chan : Chan) (s : State), (s.awake 27 = true) ∧ ((s.chan (chan.val)).misses < s.lds F.LDS_CFG_CMD_TO (chan.val) ∨
      s.ldsOn F.LDS_CFG_SRC (chan.val) = false ∨ s.lds F.LDS_CFG_CMD_TO (chan.val) = 0 ∨ s.ldsOn F.LDS_STAT_TIMEOUT (chan.val) =
      true)) ∧
    (∃ (chan : Chan) (s : State), (s.awake 27 = true) ∧ (s.ldsOn F.LDS_CFG_SRC (chan.val) = true) ∧ (s.lds F.LDS_CFG_CMD_TO
      (chan.val) ≠ 0) ∧ (s.lds F.LDS_CFG_CMD_TO (chan.val) ≤ (s.chan (chan.val)).misses) ∧ (s.ldsOn F.LDS_STAT_TIMEOUT
      (chan.val) = false) ∧ (s.lds F.LDS_CFG_TO_ACT (chan.val) = 0)) ∧
    (∃ (chan : Chan) (s : State), (s.awake 27 = true) ∧ (s.ldsOn F.LDS_CFG_SRC (chan.val) = true) ∧ (s.lds F.LDS_CFG_CMD_TO
      (chan.val) ≠ 0) ∧ (s.lds F.LDS_CFG_CMD_TO (chan.val) ≤ (s.chan (chan.val)).misses) ∧ (s.ldsOn F.LDS_STAT_TIMEOUT
      (chan.val) = false) ∧ (s.lds F.LDS_CFG_TO_ACT (chan.val) = 1)) ∧
    (∃ (chan : Chan) (s : State), (s.awake 27 = true) ∧ (s.ldsOn F.LDS_CFG_SRC (chan.val) = true) ∧ (s.lds F.LDS_CFG_CMD_TO
      (chan.val) ≠ 0) ∧ (s.lds F.LDS_CFG_CMD_TO (chan.val) ≤ (s.chan (chan.val)).misses) ∧ (s.ldsOn F.LDS_STAT_TIMEOUT
      (chan.val) = false) ∧ (s.lds F.LDS_CFG_TO_ACT (chan.val) = 2) ∧ (s.loads.length = 48)) :=
  ⟨⟨0, 0, 0, 0, 0, true, live, by decide +kernel⟩,
   ⟨0, 0, 0, 0, 0, true, az K 64, by decide +kernel⟩,
   ⟨0, 0, 0, 0, 0, true, az K 1, by decide +kernel⟩,
   ⟨0, ws K [w1],
     { kind := 1, opened := 4900000, close := some 5100000, n := 1, sumI := 123456789012, sumV := -5000000000000, sumP := 10000000000000000000000, sqI := 0, sqV := 0, overI := false, overV := false, deferred := false, void := false },
     [], 5100000, by decide +kernel⟩,
   ⟨3, ws K [w0], w0, [], 5100000, by decide +kernel⟩,
   ⟨47, ws K [w0], w0, [], 5100000, by decide +kernel⟩,
   ⟨0, live, by decide +kernel⟩,
   ⟨13, ws K [{ w1 with close := none }], { w1 with close := none }, [], 10000000, by decide +kernel⟩,
   ⟨47, ws K [{ w1 with close := none }], { w1 with close := none }, [], by decide +kernel⟩,
   ⟨0, live, by decide +kernel⟩,
   ⟨3, List.foldl (fun s n => s.setLds F.LDS_CMD_NOW_CMD n 1) K [3, 13, 47], 2500000, by decide +kernel⟩,
   ⟨3, lamp K (1 + 4 * 300), 3250000, by decide +kernel⟩,
   ⟨47, heat K, 18000000000, by decide +kernel⟩,
   ⟨0, live, by decide +kernel⟩,
   ⟨0, ts K 0 4, by decide +kernel⟩,
   ⟨0, ts K 1 5, by decide +kernel⟩,
   ⟨0, ts K 2 4, by decide +kernel⟩⟩

theorem witness_TieLink :
    (∃ (lane : Fin 2) (s : State) (aligned : Bool) (skew : BitVec 8) (k : Nat), (s.awake 25 = true) ∧ (s.boot.twin = true) ∧
      (s.on F.TIE_CFG_EN = true) ∧ (k < 2)) ∧
    (∃ (lane : Fin 2) (s : State) (bad : Nat), (s.awake 25 = true) ∧ (s.boot.twin = true) ∧ (s.on F.TIE_CFG_EN = true) ∧ (bit
      (s.get F.TIE_STAT_LOCK) (lane.val) = false)) ∧
    (∃ (lane : Fin 2) (s : State) (bad : Nat) (k : Nat), (s.awake 25 = true) ∧ (s.boot.twin = true) ∧ (s.on F.TIE_CFG_EN =
      true) ∧ (bit (s.get F.TIE_STAT_LOCK) (lane.val) = true) ∧ (k < 2)) ∧
    (∃ (lane : Fin 2) (s : State) (bad : Nat), (s.awake 25 = true) ∧ (s.boot.twin = true) ∧ (s.on F.TIE_CFG_EN = true) ∧ (bit
      (s.get F.TIE_STAT_LOCK) (lane.val) = true) ∧ (s.on F.TIE_STAT_UP = true)) ∧
    (∃ (bytes : List Byte) (start : DWord) (stop : DWord) (s : State), (s.awake 25 = true) ∧ (s.boot.twin = true) ∧ (s.on
      F.TIE_CFG_EN = true) ∧ (s.islandServes 25 = true) ∧ (List.drop ((List.map BitVec.toNat bytes).length - 4) (List.map
      BitVec.toNat bytes) ≠ le 4 (crc32r (List.take ((List.map BitVec.toNat bytes).length - 4) (List.map BitVec.toNat bytes))))) ∧
    (∃ (bytes : List Byte) (start : DWord) (stop : DWord) (s : State), (s.awake 25 = true) ∧ (s.boot.twin = true) ∧ (s.on
      F.TIE_CFG_EN = true) ∧ (s.islandServes 25 = true) ∧ (List.drop ((List.map BitVec.toNat bytes).length - 4) (List.map
      BitVec.toNat bytes) ≠ le 4 (crc32r (List.take ((List.map BitVec.toNat bytes).length - 4) (List.map BitVec.toNat bytes))))) ∧
    (∃ (bytes : List Byte) (start : DWord) (stop : DWord) (s : State), (s.awake 25 = true) ∧ (s.boot.twin = true) ∧ (s.on
      F.TIE_CFG_EN = true) ∧ (s.islandServes 25 = true) ∧ (List.drop ((List.map BitVec.toNat bytes).length - 4) (List.map
      BitVec.toNat bytes) ≠ le 4 (crc32r (List.take ((List.map BitVec.toNat bytes).length - 4) (List.map BitVec.toNat bytes))))) ∧
    (∃ (bytes : List Byte) (start : DWord) (stop : DWord) (s : State), (s.awake 25 = true) ∧ (s.boot.twin = true) ∧ (s.on
      F.TIE_CFG_EN = true) ∧ (s.islandServes 25 = true) ∧ (List.drop ((List.map BitVec.toNat bytes).length - 4) (List.map
      BitVec.toNat bytes) ≠ le 4 (crc32r (List.take ((List.map BitVec.toNat bytes).length - 4) (List.map BitVec.toNat bytes))))) ∧
    (∃ (bytes : List Byte) (course : Nat) (p : List Nat) (s : State), (s.awake 25 = true) ∧ (s.boot.twin = true) ∧ (s.on
      F.TIE_CFG_EN = true) ∧ (s.islandServes 25 = true) ∧ (course < 2 ^ 32) ∧ (4 ≤ p.length) ∧ (p.length ≤ 49152) ∧ (List.map
      BitVec.toNat bytes = tieFrame 2 course p) ∧ (s.role = 1) ∧ (leVal (List.take 4 p) % 4 = 1)) ∧
    (∃ (bytes : List Byte) (course : Nat) (p : List Nat) (s : State), (s.awake 25 = true) ∧ (s.boot.twin = true) ∧ (s.on
      F.TIE_CFG_EN = true) ∧ (s.islandServes 25 = true) ∧ (course < 2 ^ 32) ∧ (4 ≤ p.length) ∧ (p.length ≤ 49152) ∧ (List.map
      BitVec.toNat bytes = tieFrame 2 course p) ∧ (s.role ≠ 1)) ∧
    (∃ (bytes : List Byte) (course : Nat) (p : List Nat) (s : State) (stamp : DWord), (s.awake 25 = true) ∧ (s.boot.twin =
      true) ∧ (s.on F.TIE_CFG_EN = true) ∧ (s.islandServes 25 = true) ∧ (course < 2 ^ 32) ∧ (4 ≤ p.length) ∧ (p.length ≤ 49152)
      ∧ (List.map BitVec.toNat bytes = tieFrame 3 course p) ∧ (s.role ≠ 1)) ∧
    (∃ (bytes : List Byte) (course : Nat) (p : List Nat) (s : State) (stamp : DWord), (s.awake 25 = true) ∧ (s.boot.twin =
      true) ∧ (s.on F.TIE_CFG_EN = true) ∧ (s.islandServes 25 = true) ∧ (course < 2 ^ 32) ∧ (4 ≤ p.length) ∧ (p.length ≤ 49152)
      ∧ (List.map BitVec.toNat bytes = tieFrame 3 course p) ∧ (s.role = 1) ∧ (s.get F.TWIN_STAT_SWAP = 1) ∧ (leVal (List.take 4
      (List.drop 4 p)) = s.course + 1) ∧ (s.twin.swapAt = s.course + 1) ∧ (BitVec.toNat stamp < s.base + s.gapAt) ∧ (s.testing
      29 256 = false) ∧ ((s.ctxAlloc 8 2 (tieCtx 4)).fst = true)) ∧
    (∃ (bytes : List Byte) (course : Nat) (p : List Nat) (s : State) (stamp : DWord), (s.awake 25 = true) ∧ (s.boot.twin =
      true) ∧ (s.on F.TIE_CFG_EN = true) ∧ (s.islandServes 25 = true) ∧ (course < 2 ^ 32) ∧ (4 ≤ p.length) ∧ (p.length ≤ 49152)
      ∧ (List.map BitVec.toNat bytes = tieFrame 3 course p) ∧ (s.role = 1) ∧ (s.get F.TWIN_STAT_SWAP = 1) ∧ (leVal (List.take 4
      (List.drop 4 p)) = s.course + 1) ∧ (s.twin.swapAt = s.course + 1) ∧ (BitVec.toNat stamp < s.base + s.gapAt) ∧ (s.testing
      29 256 = false) ∧ ((s.ctxAlloc 8 2 (tieCtx 4)).fst = false)) ∧
    (∃ (bytes : List Byte) (course : Nat) (p : List Nat) (s : State) (stamp : DWord), (s.awake 25 = true) ∧ (s.boot.twin =
      true) ∧ (s.on F.TIE_CFG_EN = true) ∧ (s.islandServes 25 = true) ∧ (course < 2 ^ 32) ∧ (4 ≤ p.length) ∧ (p.length ≤ 49152)
      ∧ (List.map BitVec.toNat bytes = tieFrame 4 course p) ∧ (s.standby = false)) ∧
    (∃ (bytes : List Byte) (course : Nat) (p : List Nat) (s : State) (stamp : DWord), (s.awake 25 = true) ∧ (s.boot.twin =
      true) ∧ (s.on F.TIE_CFG_EN = true) ∧ (s.islandServes 25 = true) ∧ (course < 2 ^ 32) ∧ (4 ≤ p.length) ∧ (p.length ≤ 49152)
      ∧ (List.map BitVec.toNat bytes = tieFrame 4 course p) ∧ (s.standby = true) ∧ (s.get F.TWIN_STAT_SWAP = 2) ∧ (leVal
      (List.take 4 p) = s.course + 1) ∧ (s.twin.swapAt = s.course + 1) ∧ (BitVec.toNat stamp < s.base + s.courseNs)) ∧
    (∃ (bytes : List Byte) (course : Nat) (p : List Nat) (s : State) (start : DWord) (stop : DWord), (s.awake 25 = true) ∧
      (s.boot.twin = true) ∧ (s.on F.TIE_CFG_EN = true) ∧ (s.islandServes 25 = true) ∧ (course < 2 ^ 32) ∧ (4 ≤ p.length) ∧
      (p.length ≤ 49152) ∧ (List.map BitVec.toNat bytes = tieFrame 1 course p) ∧ (s.standby = false)) ∧
    (∃ (bytes : List Byte) (course : Nat) (p : List Nat) (s : State) (start : DWord) (stop : DWord), (s.awake 25 = true) ∧
      (s.boot.twin = true) ∧ (s.on F.TIE_CFG_EN = true) ∧ (s.islandServes 25 = true) ∧ (course < 2 ^ 32) ∧ (4 ≤ p.length) ∧
      (p.length ≤ 49152) ∧ (List.map BitVec.toNat bytes = tieFrame 1 course p) ∧ (s.standby = true)) :=
  ⟨⟨0, A, true, 0, 0, by decide +kernel⟩,
   ⟨0, A, 0, by decide +kernel⟩,
   ⟨0, ((tie A).set F.TIE_STAT_LOCK 3).set F.TIE_STAT_UP 1, 0, 0, by decide +kernel⟩,
   ⟨0, ((tie A).set F.TIE_STAT_LOCK 3).set F.TIE_STAT_UP 1, 0, by decide +kernel⟩,
   ⟨[], 0, 0, A, by decide +kernel⟩,
   ⟨[], 0, 0, A, by decide +kernel⟩,
   ⟨[], 0, 0, A, by decide +kernel⟩,
   ⟨[], 0, 0, A, by decide +kernel⟩,
   ⟨tf 2 17 [1, 0, 0, 0], 17, [1, 0, 0, 0], tie Act, by decide +kernel⟩,
   ⟨tf 2 17 [1, 2, 3, 4], 17, [1, 2, 3, 4], tieA, by decide +kernel⟩,
   ⟨tf 3 17 [1, 2, 3, 4], 17, [1, 2, 3, 4], tieA, 0, by decide +kernel⟩,
   ⟨tf 3 17 [0, 0, 0, 0, 18, 0, 0, 0], 17, [0, 0, 0, 0, 18, 0, 0, 0], tw ((tie Act).set F.TWIN_STAT_SWAP 1) fun t =>
     { t with swapAt := 18 }, 0, by decide +kernel⟩,
   ⟨tf 3 17 [0, 0, 0, 0, 18, 0, 0, 0], 17, [0, 0, 0, 0, 18, 0, 0, 0], tw (((tie Act).set F.TWIN_STAT_SWAP 1).set
     F.TRW_CTX_Q_MAX 0 8) fun t => { t with swapAt := 18 }, 0, by decide +kernel⟩,
   ⟨tf 4 17 [1, 2, 3, 4], 17, [1, 2, 3, 4], tie Act, 0, by decide +kernel⟩,
   ⟨tf 4 17 [18, 0, 0, 0], 17, [18, 0, 0, 0], tw (tieA.set F.TWIN_STAT_SWAP 2) fun t => { t with swapAt := 18 }, 0,
     by decide +kernel⟩,
   ⟨tf 1 17 [1, 2, 3, 4], 17, [1, 2, 3, 4], tie Act, 0, 0, by decide +kernel⟩,
   ⟨tf 1 17 [1, 2, 3, 4], 17, [1, 2, 3, 4], tieA, 0, 0, by decide +kernel⟩⟩

theorem witness_StartsEnd :
    (∃ (low : Nat) (facts : StartFacts) (s : State), (s.pins.main = true) ∧ (low < 1000)) ∧
    (∃ (low : Nat) (facts : StartFacts) (s : State), (s.pins.main = true) ∧ (1000 ≤ low)) ∧
    (∃ (ifc : Ifc) (facts : WFacts) (s : State), (s.takes ifc 280 = true) ∧ (s.dumping = false) ∧ (s.pins.main = true)) :=
  ⟨⟨0, sf0, live, by decide +kernel⟩,
   ⟨1000, sf0, live, by decide +kernel⟩,
   ⟨Ifc.pcie, facts0, live, by decide +kernel⟩⟩

theorem witness_LocalBusAndSpi :
    (∃ (addr : BitVec 21) (found : Upset) (facts : WFacts) (s : State), (s.ifcOn Ifc.lb = false)) ∧
    (∃ (addr : BitVec 21) (found : Upset) (facts : WFacts) (s : State) (v : Nat) (t : State), (s.ifcOn Ifc.lb = true) ∧
      (addr.toNat / 2 * 2 < 262144) ∧ (addr.toNat / 2 * 2 % 4 = 0) ∧ ((s.lbFlush facts).hostRead 1 (addr.toNat / 4 * 4) = (v,
      t))) ∧
    (∃ (addr : BitVec 21) (found : Upset) (facts : WFacts) (s : State) (p : Nat × Nat), (s.ifcOn Ifc.lb = true) ∧ (addr.toNat
      / 2 * 2 < 262144) ∧ (addr.toNat / 2 * 2 % 4 = 2) ∧ (List.find? (fun (p : Nat × Nat) => p.fst == addr.toNat / 4 * 4)
      (s.lbFlush facts).host.lbHigh = some p)) ∧
    (∃ (addr : BitVec 21) (found : Upset) (facts : WFacts) (s : State) (v : Nat) (t : State), (s.ifcOn Ifc.lb = true) ∧
      (addr.toNat / 2 * 2 < 262144) ∧ (addr.toNat / 2 * 2 % 4 = 2) ∧ (List.find? (fun (p : Nat × Nat) => p.fst == addr.toNat / 4
      * 4) (s.lbFlush facts).host.lbHigh = none) ∧ ((s.lbFlush facts).hostRead 1 (addr.toNat / 4 * 4) = (v, t))) ∧
    (∃ (addr : BitVec 21) (found : Upset) (facts : WFacts) (s : State) (d : Nat), (s.ifcOn Ifc.lb = true) ∧ (524288 ≤
      addr.toNat / 2 * 2) ∧ (addr.toNat / 2 * 2 < 1048576) ∧ (((s.lbFlush facts).winAccess 1 (((s.lbFlush facts).get
      F.HOST_LB_QWIN * 524288 + (addr.toNat / 2 * 2 - 524288)) / 8 * 8) (3 * 2 ^ (((s.lbFlush facts).get F.HOST_LB_QWIN * 524288
      + (addr.toNat / 2 * 2 - 524288)) % 8)) none found).lastAnswer 1 = some d)) ∧
    (∃ (addr : BitVec 21) (found : Upset) (facts : WFacts) (s : State), (s.ifcOn Ifc.lb = true) ∧ (524288 ≤ addr.toNat / 2 *
      2) ∧ (addr.toNat / 2 * 2 < 1048576) ∧ (((s.lbFlush facts).winAccess 1 (((s.lbFlush facts).get F.HOST_LB_QWIN * 524288 +
      (addr.toNat / 2 * 2 - 524288)) / 8 * 8) (3 * 2 ^ (((s.lbFlush facts).get F.HOST_LB_QWIN * 524288 + (addr.toNat / 2 * 2 -
      524288)) % 8)) none found).lastAnswer 1 = none)) ∧
    (∃ (addr : BitVec 21) (found : Upset) (facts : WFacts) (s : State), (s.ifcOn Ifc.lb = true) ∧ (1048576 ≤ addr.toNat / 2 *
      2) ∧ (addr.toNat / 2 * 2 < 1572864)) ∧
    (∃ (addr : BitVec 21) (found : Upset) (facts : WFacts) (s : State), (s.ifcOn Ifc.lb = true) ∧ (262144 ≤ addr.toNat / 2 * 2
      ∧ addr.toNat / 2 * 2 < 524288 ∨ 1572864 ≤ addr.toNat / 2 * 2)) ∧
    (∃ (addr : BitVec 21) (data : Word) (be : BitVec 2) (found : Upset) (facts : WFacts) (s : State), (s.ifcOn Ifc.lb =
      false)) ∧
    (∃ (addr : BitVec 21) (data : Word) (be : BitVec 2) (found : Upset) (facts : WFacts) (s : State), (s.ifcOn Ifc.lb = true)
      ∧ (addr.toNat / 2 * 2 < 262144) ∧ (addr.toNat / 2 * 2 % 4 = 0)) ∧
    (∃ (addr : BitVec 21) (data : Word) (be : BitVec 2) (found : Upset) (facts : WFacts) (s : State) (lo : Nat) (lbe : Nat),
      (s.ifcOn Ifc.lb = true) ∧ (addr.toNat / 2 * 2 < 262144) ∧ (addr.toNat / 2 * 2 % 4 = 2) ∧ (s.host.lbLow = some (addr.toNat
      / 4 * 4, lo, lbe))) ∧
    (∃ (addr : BitVec 21) (data : Word) (be : BitVec 2) (found : Upset) (facts : WFacts) (s : State), (s.ifcOn Ifc.lb = true)
      ∧ (addr.toNat / 2 * 2 < 262144) ∧ (addr.toNat / 2 * 2 % 4 = 2) ∧ (∀ (lo lbe : Nat), s.host.lbLow ≠ some (addr.toNat / 4 *
      4, lo, lbe))) ∧
    (∃ (addr : BitVec 21) (data : Word) (be : BitVec 2) (found : Upset) (facts : WFacts) (s : State), (s.ifcOn Ifc.lb = true)
      ∧ (524288 ≤ addr.toNat / 2 * 2) ∧ (addr.toNat / 2 * 2 < 1048576)) ∧
    (∃ (addr : BitVec 21) (data : Word) (be : BitVec 2) (found : Upset) (facts : WFacts) (s : State), (s.ifcOn Ifc.lb = true)
      ∧ (262144 ≤ addr.toNat / 2 * 2 ∧ addr.toNat / 2 * 2 < 524288 ∨ 1048576 ≤ addr.toNat / 2 * 2)) ∧
    (∃ (command : Byte) (frame : List Byte) (us : List Upset) (found : Upset) (facts : WFacts) (s : State), (s.ifcOn Ifc.spi =
      false)) ∧
    (∃ (command : Byte) (frame : List Byte) (us : List Upset) (found : Upset) (facts : WFacts) (s : State), (s.ifcOn Ifc.spi =
      false)) ∧
    (∃ (command : Byte) (frame : List Byte) (us : List Upset) (found : Upset) (facts : WFacts) (s : State), (s.ifcOn Ifc.spi =
      false)) ∧
    (∃ (s : State), (s.ifcOn Ifc.spi = true)) ∧
    (∃ (s : State) (frame : List Byte) (us : List Upset), (s.ifcOn Ifc.spi = true) ∧ (frame.length < 4)) ∧
    (∃ (s : State) (command : Byte) (frame : List Byte) (found : Upset) (facts : WFacts), (s.ifcOn Ifc.spi = true) ∧
      (command ≠ 2 ∨ frame.length < 4)) ∧
    (∃ (s : State) (b0 : Byte) (b1 : Byte) (b2 : Byte) (b3 : Byte), (s.ifcOn Ifc.spi = true)) ∧
    (∃ (s : State) (b0 : Byte) (b1 : Byte) (b2 : Byte) (b3 : Byte) (u : Upset) (us : List Upset) (v : Nat) (t : State),
      (s.ifcOn Ifc.spi = true) ∧ (((BitVec.toNat b0 * 256 + BitVec.toNat b1) * 256 + BitVec.toNat b2) * 256 + BitVec.toNat b3 <
      262144) ∧ (s.reaches ((((BitVec.toNat b0 * 256 + BitVec.toNat b1) * 256 + BitVec.toNat b2) * 256 + BitVec.toNat b3) /
      4096) = true) ∧ ({ s with host := { s.host with spiBad := false : HostX } : State }.hostRead 2 ((((BitVec.toNat b0 * 256 +
      BitVec.toNat b1) * 256 + BitVec.toNat b2) * 256 + BitVec.toNat b3) / 4 * 4) = (v, t))) ∧
    (∃ (s : State) (b0 : Byte) (b1 : Byte) (b2 : Byte) (b3 : Byte) (u : Upset) (us : List Upset), (s.ifcOn Ifc.spi = true) ∧
      (268435456 ≤ ((BitVec.toNat b0 * 256 + BitVec.toNat b1) * 256 + BitVec.toNat b2) * 256 + BitVec.toNat b3) ∧
      (((BitVec.toNat b0 * 256 + BitVec.toNat b1) * 256 + BitVec.toNat b2) * 256 + BitVec.toNat b3 < 335544320)) ∧
    (∃ (s : State) (b0 : Byte) (b1 : Byte) (b2 : Byte) (b3 : Byte) (u : Upset) (us : List Upset), (s.ifcOn Ifc.spi = true) ∧
      (536870912 ≤ ((BitVec.toNat b0 * 256 + BitVec.toNat b1) * 256 + BitVec.toNat b2) * 256 + BitVec.toNat b3) ∧
      (((BitVec.toNat b0 * 256 + BitVec.toNat b1) * 256 + BitVec.toNat b2) * 256 + BitVec.toNat b3 < 545259520)) ∧
    (∃ (s : State) (b0 : Byte) (b1 : Byte) (b2 : Byte) (b3 : Byte) (u : Upset) (us : List Upset), (s.ifcOn Ifc.spi = true) ∧
      (((BitVec.toNat b0 * 256 + BitVec.toNat b1) * 256 + BitVec.toNat b2) * 256 + BitVec.toNat b3 < 262144 ∧ s.reaches
      ((((BitVec.toNat b0 * 256 + BitVec.toNat b1) * 256 + BitVec.toNat b2) * 256 + BitVec.toNat b3) / 4096) = false ∨ 262144 ≤
      ((BitVec.toNat b0 * 256 + BitVec.toNat b1) * 256 + BitVec.toNat b2) * 256 + BitVec.toNat b3 ∧ ((BitVec.toNat b0 * 256 +
      BitVec.toNat b1) * 256 + BitVec.toNat b2) * 256 + BitVec.toNat b3 < 268435456 ∨ 335544320 ≤ ((BitVec.toNat b0 * 256 +
      BitVec.toNat b1) * 256 + BitVec.toNat b2) * 256 + BitVec.toNat b3 ∧ ((BitVec.toNat b0 * 256 + BitVec.toNat b1) * 256 +
      BitVec.toNat b2) * 256 + BitVec.toNat b3 < 536870912 ∨ 545259520 ≤ ((BitVec.toNat b0 * 256 + BitVec.toNat b1) * 256 +
      BitVec.toNat b2) * 256 + BitVec.toNat b3)) ∧
    (∃ (s : State) (b0 : Byte) (b1 : Byte) (b2 : Byte) (b3 : Byte) (ds : List Byte) (found : Upset) (facts : WFacts), (s.ifcOn
      Ifc.spi = true) ∧ (0 < ds.length) ∧ ((((BitVec.toNat b0 * 256 + BitVec.toNat b1) * 256 + BitVec.toNat b2) * 256 +
      BitVec.toNat b3) % 4 + ds.length ≤ 4)) :=
  ⟨⟨0x511c, Upset.none, facts0, State.reset, by decide +kernel⟩,
   ⟨0x511C, .none, facts0, live, ((live.lbFlush facts0).hostRead 1 0x511C).1, ((live.lbFlush facts0).hostRead 1 0x511C).2,
     by decide +kernel⟩,
   ⟨0x511E, .none, facts0, lbh live, (0x511C, 50), by decide +kernel⟩,
   ⟨0x511E, .none, facts0, live, ((live.lbFlush facts0).hostRead 1 0x511C).1, ((live.lbFlush facts0).hostRead 1 0x511C).2,
     by decide +kernel⟩,
   ⟨0x80100, Upset.none, facts0, live, 0, by decide +kernel⟩,
   ⟨0x80100, Upset.none, facts0, cp 0, by decide +kernel⟩,
   ⟨0x100000, Upset.none, facts0, live, by decide +kernel⟩,
   ⟨0x40000, Upset.none, facts0, live, by decide +kernel⟩,
   ⟨0x511c, 0, 0, Upset.none, facts0, State.reset, by decide +kernel⟩,
   ⟨0x511c, 0, 0, Upset.none, facts0, live, by decide +kernel⟩,
   ⟨0x511E, 0, 3, .none, facts0, lbl live, 50, 3, by decide +kernel⟩,
   ⟨0x511e, 0, 0, Upset.none, facts0, live, by decide +kernel, by decide +kernel, by decide +kernel, fun _ _ h =>
     by rw [show live.host.lbLow = none by decide +kernel] at h; cases h⟩,
   ⟨0x80100, 0, 0, Upset.none, facts0, live, by decide +kernel⟩,
   ⟨0x40000, 0, 0, Upset.none, facts0, live, by decide +kernel⟩,
   ⟨0, [], [], Upset.none, facts0, State.reset, by decide +kernel⟩,
   ⟨0, [], [], Upset.none, facts0, State.reset, by decide +kernel⟩,
   ⟨0, [], [], Upset.none, facts0, State.reset, by decide +kernel⟩,
   ⟨live, by decide +kernel⟩,
   ⟨live, [], [], by decide +kernel⟩,
   ⟨live, 0, [], Upset.none, facts0, by decide +kernel⟩,
   ⟨live, 0, 0, 0, 0, by decide +kernel⟩,
   ⟨live, 0, 0, 0x51, 0x1C, .none, [], ((wx live fun h => { h with spiBad := false }).hostRead 2 0x511C).1, ((wx live fun h =>
     { h with spiBad := false }).hostRead 2 0x511C).2, by decide +kernel⟩,
   ⟨live, 0x10, 0, 0, 0, .none, [], by decide +kernel⟩,
   ⟨live, 0x20, 0, 0, 0, .none, [], by decide +kernel⟩,
   ⟨live, 0, 0xf, 0, 0, Upset.none, [], by decide +kernel⟩,
   ⟨live, 0, 0, 0, 0, [1], Upset.none, facts0, by decide +kernel⟩⟩

theorem witness_PowerExit :
    (∃ (took : Nat) (s : State), (s.pwr.exiting = false)) ∧
    (∃ (took : Nat) (s : State), (s.pwr.exiting = true) ∧ (3 ≤ s.power)) ∧
    (∃ (took : Nat) (s : State), (s.pwr.exiting = true) ∧ (s.power ≤ 2)) ∧
    (∃ (took : Nat) (s : State), (s.pwr.exiting = true) ∧ (s.pwr.network = true)) ∧
    (∃ (took : Nat) (s : State) (n : Nat), (s.pwr.exiting = true) ∧ (s.pwr.network = true) ∧ (n < 8)) ∧
    (∃ (took : Nat) (s : State) (n : Nat), (s.pwr.exiting = true) ∧ (s.pwr.network = false) ∧ (n < 8)) ∧
    (∃ (s : State), (s.islandAsleep 29 = true ∨ s.pwr.wakingEnd = none)) ∧
    (∃ (s : State) (t : Nat), (s.islandAsleep 29 = false) ∧ (s.pwr.wakingEnd = some t)) ∧
    (∃ (s : State), (s.islandAsleep 29 = true ∨ s.pwr.confirm = none ∨ s.power ≠ 0 ∨ s.on F.PWR_STAT_ENTERING = true ∨
      s.pwr.exiting = true ∨ ∃ (t : Nat), s.pwr.confirm = some t ∧ s.inFlight (s.asLine t) = true)) ∧
    (∃ (s : State) (t : Nat), (s.islandAsleep 29 = false) ∧ (s.pwr.confirm = some t) ∧ (s.power = 0) ∧ (s.on
      F.PWR_STAT_ENTERING = false) ∧ (s.pwr.exiting = false) ∧ (s.inFlight (s.asLine t) = false) ∧ (decide (s.get
      F.WAKE_BACKOFF_FALSE_MAX ≤ min (s.get F.WAKE_FALSE_IN_WINDOW + 1) (2 ^ F.WAKE_FALSE_IN_WINDOW.width - 1)) = true)) ∧
    (∃ (s : State), (s.islandAsleep 29 = true ∨ s.pwr.backoff = none)) ∧
    (∃ (s : State) (sec : Nat), (s.islandAsleep 29 = false) ∧ (s.pwr.backoff = some sec)) ∧
    (∃ (s : State), (s.islandAsleep 29 = true ∨ s.pwr.window = none)) ∧
    (∃ (s : State) (t : Nat), (s.islandAsleep 29 = false) ∧ (s.pwr.window = some t)) :=
  ⟨⟨0, live, by decide +kernel⟩,
   ⟨0, ex (slp live 3), by decide +kernel⟩,
   ⟨0, wp (ex (slp live 2)) fun p => { p with network := true }, by decide +kernel⟩,
   ⟨0, wp (ex (slp live 2)) fun p => { p with network := true }, by decide +kernel⟩,
   ⟨0, wp (ex (slp live 2)) fun p => { p with network := true }, 0, by decide +kernel⟩,
   ⟨0, ex (slp live 3), 0, by decide +kernel⟩,
   ⟨live, by decide +kernel⟩,
   ⟨wp live fun p => { p with wakingEnd := some 1000500000 }, 1000500000, by decide +kernel⟩,
   ⟨live, by decide +kernel⟩,
   ⟨wp (live.set F.WAKE_BACKOFF_FALSE_MAX 0) fun p => { p with confirm := some 1000000000 }, 1000000000, by decide +kernel⟩,
   ⟨live, by decide +kernel⟩,
   ⟨wp (lns (slp live 2)) fun p => { p with backoff := some 77 }, 77, by decide +kernel⟩,
   ⟨live, by decide +kernel⟩,
   ⟨wp live fun p => { p with window := some 5000 }, 5000, by decide +kernel⟩⟩

theorem witness_ClampRule_registerWrite :
    (∃ (ifc : Ifc) (addr : BitVec 18) (v : Reg) (be : BitVec 4) (facts : WFacts) (s : State) (r : Row), (s.takes ifc
      addr.toNat = true) ∧ (addr.toNat % 4 = 0) ∧ (rowAt (addr.toNat / 4096) (addr.toNat % 4096) = some r) ∧ ((r.fields.all fun
      (d : FieldDef) => d.acc == Acc.ro) = false) ∧ (writeGroup addr.toNat = [])) ∧
    (∃ (ifc : Ifc) (addr : BitVec 18) (v : Reg) (facts : WFacts) (s : State) (r : Row) (d : FieldDef), (s.takes ifc
      addr.toNat = true) ∧ (addr.toNat % 4 = 0) ∧ (256 ≤ addr.toNat % 4096) ∧ ([2, 4, 30, 40].contains (addr.toNat / 4096) =
      true) ∧ (rowAt (addr.toNat / 4096) (addr.toNat % 4096) = some r) ∧ (d ∈ r.fields) ∧ (d.acc = Acc.rw) ∧ (d.legal =
      Legal.any)) :=
  ⟨⟨Ifc.pcie, 0x511c, 0, 0, facts0, live,
     { off := 284, stride := 0, count := 1, fields := [{ fld := { base := 20764, stride := 0, lo := 0, width := 8, reset := Rst.v 50 }, acc := Acc.rw, legal := Legal.range 1 255 }] },
     by decide +kernel⟩,
   ⟨.pcie, 0x1E100, 5, facts0, live, (rowAt 0x1E 0x100).getD Tab.rprRow, (((rowAt 0x1E 0x100).getD Tab.rprRow).fields.filter
     (fun d => d.acc = .rw && d.legal = .any)).headD ⟨F.PG_SEQ, .rw, .any⟩, by decide +kernel⟩⟩

theorem witness_PagesThatRefuse :
    (∃ (ifc : Ifc) (addr : BitVec 18) (v : Reg) (be : BitVec 4) (facts : WFacts) (s : State), (addr.toNat % 4 = 0) ∧
      (pageReserved (addr.toNat / 4096) = false) ∧ (s.ifcTakes ifc (addr.toNat / 4096) = true) ∧ (addr.toNat ≠ 221440) ∧
      (addr.toNat ≠ 280) ∧ (s.islandAsleep (regIsland (addr.toNat / 4096) (addr.toNat % 4096)) = true)) ∧
    (∃ (ifc : Ifc) (addr : BitVec 18) (v : Reg) (be : BitVec 4) (facts : WFacts) (s : State), (addr.toNat % 4 = 0) ∧
      (pageReserved (addr.toNat / 4096) = false) ∧ (s.ifcTakes ifc (addr.toNat / 4096) = true) ∧ (addr.toNat ≠ 221440) ∧
      (addr.toNat ≠ 280) ∧ (s.islandAsleep (regIsland (addr.toNat / 4096) (addr.toNat % 4096)) = false) ∧ (s.on
      F.TOP_READY_READY = false) ∧ (beforeReady (addr.toNat / 4096) = false)) ∧
    (∃ (ifc : Ifc) (addr : BitVec 18) (v : Reg) (be : BitVec 4) (facts : WFacts) (s : State), (addr.toNat % 4 = 0) ∧
      (pageReserved (addr.toNat / 4096) = false) ∧ (s.ifcTakes ifc (addr.toNat / 4096) = true) ∧ (addr.toNat ≠ 221440) ∧
      (addr.toNat ≠ 280) ∧ (s.islandAsleep (regIsland (addr.toNat / 4096) (addr.toNat % 4096)) = true) ∧ (addr.toNat % 4096 =
      12)) ∧
    (∃ (ifc : Ifc) (addr : BitVec 18) (v : Reg) (be : BitVec 4) (facts : WFacts) (s : State), (addr.toNat % 4 = 0) ∧
      (pageReserved (addr.toNat / 4096) = false) ∧ (s.ifcTakes ifc (addr.toNat / 4096) = true) ∧ (addr.toNat ≠ 221440) ∧
      (addr.toNat ≠ 280) ∧ (s.islandAsleep (regIsland (addr.toNat / 4096) (addr.toNat % 4096)) = true) ∧ (addr.toNat % 4096 ≠ 0)
      ∧ (addr.toNat % 4096 ≠ 4) ∧ (addr.toNat % 4096 ≠ 12)) ∧
    (∃ (ifc : Ifc) (addr : BitVec 18) (v : Reg) (facts : WFacts) (s : State), (addr.toNat % 4 = 0) ∧ (pageReserved (addr.toNat
      / 4096) = false) ∧ (s.ifcTakes ifc (addr.toNat / 4096) = true) ∧ (s.islandAsleep (regIsland (addr.toNat / 4096)
      (addr.toNat % 4096)) = false) ∧ (s.on F.TOP_READY_READY = true) ∧ (s.islandFenced (regIsland (addr.toNat / 4096)
      (addr.toNat % 4096)) = true) ∧ (addr.toNat % 4096 ≠ 16) ∧ (addr.toNat % 4096 ≠ 20)) ∧
    (∃ (ifc : Ifc) (addr : BitVec 18) (v : Reg) (be : BitVec 4) (facts : WFacts) (s : State), (addr.toNat % 4 = 0) ∧
      (pageReserved (addr.toNat / 4096) = false) ∧ (s.ifcTakes ifc (addr.toNat / 4096) = true) ∧ (s.islandAsleep (regIsland
      (addr.toNat / 4096) (addr.toNat % 4096)) = false) ∧ (s.on F.TOP_READY_READY = true) ∧ (s.islandFenced (regIsland
      (addr.toNat / 4096) (addr.toNat % 4096)) = false) ∧ (((s.host.reset.any fun (r : Nat × Nat) => r.fst == addr.toNat / 4096)
      || s.testing (addr.toNat / 4096) (addr.toNat % 4096)) = true)) :=
  ⟨⟨Ifc.pcie, 0xf0, 0, 0, facts0, fz, by decide +kernel⟩,
   ⟨Ifc.pcie, 0x18000, 0, 0, facts0, live.set F.TOP_READY_READY 0, by decide +kernel⟩,
   ⟨Ifc.pcie, 0x1800c, 0, 0, facts0, fz, by decide +kernel⟩,
   ⟨Ifc.pcie, 0xf0, 0, 0, facts0, fz, by decide +kernel⟩,
   ⟨Ifc.pcie, 0x18000, 0, facts0, fenced, by decide +kernel⟩,
   ⟨Ifc.pcie, 0x18000, 0, 0, facts0, { live with host := { live.host with reset := [(24, 0), (32, 0)] } }, by decide +kernel⟩⟩

theorem witness_ArbiterCommands :
    (∃ (ifc : Ifc) (facts : WFacts) (s : State), (s.takes ifc 115204 = true) ∧ (s.boot.role = 3) ∧ (s.eligible false = true)) ∧
    (∃ (ifc : Ifc) (facts : WFacts) (s : State), (s.takes ifc 115204 = true) ∧ (s.boot.role = 3) ∧ (s.eligible false = false)) ∧
    (∃ (ifc : Ifc) (facts : WFacts) (s : State), (s.takes ifc 115204 = true) ∧ (s.boot.role = 3) ∧ (s.arbSwapOk = true) ∧
      (s.twin.standby ≤ 1)) ∧
    (∃ (ifc : Ifc) (facts : WFacts) (s : State), (s.takes ifc 115204 = true) ∧ (s.boot.role = 3) ∧ (s.arbSwapOk = false)) ∧
    (∃ (ifc : Ifc) (mask : BitVec 2) (facts : WFacts) (s : State) (i : Nat), (s.takes ifc 115204 = true) ∧ (s.boot.role = 3) ∧
      (i < 2)) ∧
    (∃ (ifc : Ifc) (mask : BitVec 2) (facts : WFacts) (s : State) (i : Nat), (s.takes ifc 115204 = true) ∧ (s.boot.role = 3) ∧
      (i < 2)) ∧
    (∃ (s : State), (s.awake 25 = true) ∧ (s.awake 8 = true) ∧ (s.boot.role = 3) ∧ (s.get F.TWIN_ARB_CFG_SWAP_H ≠ 0) ∧
      (s.twin.swapOn = false) ∧ (s.arbSwapOk = true)) ∧
    (∃ (s : State), (s.awake 25 = true) ∧ (s.awake 8 = true) ∧ (s.boot.role = 3) ∧ (s.get F.TWIN_ARB_CFG_SWAP_H ≠ 0) ∧
      (s.twin.swapOn = false) ∧ (s.arbSwapOk = false)) ∧
    (∃ (s : State), (s.awake 25 = true) ∧ (s.awake 8 = true) ∧ (s.boot.role = 3) ∧ (s.get F.TWIN_ARB_CFG_SWAP_H ≠ 0) ∧
      (s.twin.swapOn = true)) :=
  ⟨⟨Ifc.pcie, facts0, el, by decide +kernel⟩,
   ⟨Ifc.pcie, facts0, Arb, by decide +kernel⟩,
   ⟨Ifc.pcie, facts0, el, by decide +kernel⟩,
   ⟨Ifc.pcie, facts0, Arb, by decide +kernel⟩,
   ⟨Ifc.pcie, 0, facts0, Arb, 0, by decide +kernel⟩,
   ⟨Ifc.pcie, 0, facts0, Arb, 0, by decide +kernel⟩,
   ⟨el, by decide +kernel⟩,
   ⟨Arb, by decide +kernel⟩,
   ⟨tw (Arb.set F.TWIN_ARB_CFG_SWAP_H 1) (fun t => { t with swapOn := true }), by decide +kernel⟩⟩

theorem witness_SlotsServed :
    (∃ (rival : Option (BitVec 48)) (coll : BitVec 8) (s : State) (e : Slot), (s.slot 0 = some e) ∧ (s.originates = true) ∧
      ((s.elapseLt (s.base + e.start)).slotMuted 0 = false) ∧ ((s.elapseLt (s.base + e.start)).actsDatum = true) ∧ ((s.elapseLt
      (s.base + e.start)).so.provis = false)) ∧
    (∃ (slot : Fin 1024) (rival : Option (BitVec 48)) (coll : BitVec 8) (s : State) (e : Slot), (s.slot (slot.val) = some e) ∧
      (s.originates = true) ∧ ((s.elapseLt (s.base + e.start)).slotMuted (slot.val) = true)) ∧
    (∃ (slot : Fin 1024) (rival : Option (BitVec 48)) (coll : BitVec 8) (s : State) (e : Slot), (s.slot (slot.val) = some e) ∧
      (s.originates = true) ∧ ((s.elapseLt (s.base + e.start)).slotMuted (slot.val) = false) ∧ ((slot.val) = 4)) ∧
    (∃ (slot : Fin 1024) (rival : Option (BitVec 48)) (coll : BitVec 8) (s : State) (e : Slot), (s.slot (slot.val) = some e) ∧
      (s.originates = true) ∧ ((s.elapseLt (s.base + e.start)).slotMuted (slot.val) = false) ∧ ((slot.val) = 6) ∧ ((s.elapseLt
      (s.base + e.start)).actsDatum = true) ∧ ((s.elapseLt (s.base + e.start)).claimDecision = none)) ∧
    (∃ (slot : Fin 1024) (rival : Option (BitVec 48)) (coll : BitVec 8) (s : State) (e : Slot), (s.slot (slot.val) = some e) ∧
      (s.originates = true) ∧ ((s.elapseLt (s.base + e.start)).slotMuted (slot.val) = false) ∧ (8 ≤ (slot.val)) ∧ ((s.elapseLt
      (s.base + e.start)).ownerOf (slot.val) ≠ (s.elapseLt (s.base + e.start)).pos)) ∧
    (∃ (slot : Fin 1024) (rival : Option (BitVec 48)) (coll : BitVec 8) (s : State) (e : Slot), (s.slot (slot.val) = some e) ∧
      (s.originates = true) ∧ ((s.elapseLt (s.base + e.start)).slotMuted (slot.val) = false) ∧ (8 ≤ (slot.val)) ∧ (e.kind = 8) ∧
      ((s.elapseLt (s.base + e.start)).ownerOf (slot.val) = (s.elapseLt (s.base + e.start)).pos) ∧ ((s.elapseLt (s.base +
      e.start)).pos ≠ 0) ∧ ((s.elapseLt (s.base + e.start)).on F.SETO_STAT_SCHED_MISMATCH = false)) ∧
    (∃ (slot : Fin 1024) (held : Bool) (s : State) (e : Slot), (s.running = true) ∧ (s.slot (slot.val) = some e) ∧ (e.kind =
      7) ∧ (s.ownerOf (slot.val) = s.pos) ∧ (s.clk.lt < s.base + e.start) ∧ (s.isOut = false) ∧ (s.engineHeld = false) ∧
      (((s.elapseLt (s.base + e.start - s.get F.TRW_TX_LEAD * 1000)).ctxAlloc ((s.elapseLt (s.base + e.start - s.get
      F.TRW_TX_LEAD * 1000)).serving.headD 0) 1 (slot.val)).fst = true)) ∧
    (∃ (slot : Fin 1024) (held : Bool) (s : State) (e : Slot), (s.running = true) ∧ (s.slot (slot.val) = some e) ∧ (e.kind =
      7) ∧ (s.ownerOf (slot.val) = s.pos) ∧ (s.clk.lt < s.base + e.start) ∧ (s.isOut = false) ∧ (s.engineHeld = false) ∧
      (((s.elapseLt (s.base + e.start - s.get F.TRW_TX_LEAD * 1000)).ctxAlloc ((s.elapseLt (s.base + e.start - s.get
      F.TRW_TX_LEAD * 1000)).serving.headD 0) 1 (slot.val)).fst = false)) :=
  ⟨⟨none, 0, live,
     { start := 0, len := 150000, kind := 1, mode := 3, noA := false, val := 0, dst := 63, maxLen := 4, stream := 65535 },
     by decide +kernel⟩,
   ⟨0, none, 0, datum.set F.LINE_STAT_LOCK 0, (builtIn.slots.getD 0 ⟨0, 0, 0, 0, false, 0, 0, 0, 0⟩), by decide +kernel⟩,
   ⟨4, none, 0, datum, (builtIn.slots.getD 4 ⟨0, 0, 0, 0, false, 0, 0, 0, 0⟩), by decide +kernel⟩,
   ⟨6, none, 0, datum, (builtIn.slots.getD 6 ⟨0, 0, 0, 0, false, 0, 0, 0, 0⟩), by decide +kernel⟩,
   ⟨8, none, 0, live,
     { start := 2595000, len := 1000, kind := 0, mode := 0, noA := false, val := 0, dst := 63, maxLen := 0, stream := 65535 },
     by decide +kernel⟩,
   ⟨8, none, 0,
     { datum with sched := { builtIn with slots := builtIn.slots.map (fun e => if e.start = 2595000 then { e with kind := 8, mode := 1, val := 1 } else e) } },
     { (builtIn.slots.getD 8 ⟨0, 0, 0, 0, false, 0, 0, 0, 0⟩) with kind := 8, mode := 1, val := 1 }, by decide +kernel⟩,
   ⟨6, false, msgs, { (builtIn.slots.getD 6 ⟨0, 0, 0, 0, false, 0, 0, 0, 0⟩) with kind := 7, mode := 1, val := 1 },
     by decide +kernel⟩,
   ⟨6, false, (List.range 13).foldl (fun s c => s.set F.TRW_CTX_Q_MAX 0 c) msgs,
     { (builtIn.slots.getD 6 ⟨0, 0, 0, 0, false, 0, 0, 0, 0⟩) with kind := 7, mode := 1, val := 1 }, by decide +kernel⟩⟩

theorem witness_MainAndBackupPower :
    (∃ (s : State), (s.pins.main = false)) ∧
    (∃ (s : State), (s.pins.main = true) ∧ (s.on F.TALY_STAT_SAVING = true)) ∧
    (∃ (s : State), (s.pins.main = true) ∧ (s.on F.TALY_STAT_SAVING = false) ∧ (s.isl.started < 8)) ∧
    (∃ (s : State), (s.pins.main = true) ∧ (s.on F.TALY_STAT_SAVING = false) ∧ (8 ≤ s.isl.started)) ∧
    (∃ (facts : StartFacts) (canary : Reg) (s : State), (s.pins.main = true ∨ s.on F.TALY_STAT_SAVING = false ∧ s.power ≠ 5)) ∧
    (∃ (facts : StartFacts) (canary : Reg) (s : State), (s.pins.main = false) ∧ (s.on F.TALY_STAT_SAVING = true)) ∧
    (∃ (facts : StartFacts) (canary : Reg) (s : State), (s.pins.main = false) ∧ (s.on F.TALY_STAT_SAVING = false) ∧ (s.power =
      5)) ∧
    (∃ (facts : StartFacts) (canary : Reg) (s : State), (s.on F.TALY_STAT_SAVING = false)) ∧
    (∃ (facts : StartFacts) (canary : Reg) (s : State), (s.on F.TALY_STAT_SAVING = true) ∧ (s.pins.main = false)) ∧
    (∃ (facts : StartFacts) (canary : Reg) (s : State), (s.on F.TALY_STAT_SAVING = true) ∧ (s.dump.held = none) ∧
      (s.pins.main = true)) ∧
    (∃ (facts : StartFacts) (canary : Reg) (s : State) (auto : Bool), (s.on F.TALY_STAT_SAVING = true) ∧ (s.dump.held = some
      auto) ∧ (s.pins.main = true)) ∧
    (∃ (mv : BitVec 16) (vao : BitVec 16) (s : State), (s.pins.main = false ∨ s.islandAsleep 29 = true)) ∧
    (∃ (mv : BitVec 16) (vao : BitVec 16) (s : State), (s.pins.main = true) ∧ (s.islandAsleep 29 = false) ∧ (s.on
      F.BKP_CFG_MEAS_EN = false)) ∧
    (∃ (mv : BitVec 16) (vao : BitVec 16) (s : State), (s.pins.main = true) ∧ (s.islandAsleep 29 = false) ∧ (s.on
      F.BKP_CFG_MEAS_EN = true) ∧ (mv.toNat < 2000 + 100 * s.get F.BKP_CFG_WARN) ∧ (s.on F.BKP_STAT_VBAT_LOW = false)) ∧
    (∃ (mv : BitVec 16) (vao : BitVec 16) (s : State), (s.pins.main = true) ∧ (s.islandAsleep 29 = false) ∧ (s.on
      F.BKP_CFG_MEAS_EN = true) ∧ (mv.toNat < 1000) ∧ (s.on F.BKP_STAT_VBAT_ABSENT = false)) :=
  ⟨⟨mo (live.set F.PWR_STAT_STATE 5), by decide +kernel⟩,
   ⟨sav, by decide +kernel⟩,
   ⟨State.reset, by decide +kernel⟩,
   ⟨live, by decide +kernel⟩,
   ⟨sf0, 0, live, by decide +kernel⟩,
   ⟨sf0, 0, mo sav, by decide +kernel⟩,
   ⟨sf0, 0, mo (live.set F.PWR_STAT_STATE 5), by decide +kernel⟩,
   ⟨sf0, 0, live, by decide +kernel⟩,
   ⟨sf0, 0, mo sav, by decide +kernel⟩,
   ⟨sf0, 0, sav, by decide +kernel⟩,
   ⟨sf0, 0, wd sav fun d => { d with held := some true }, true, by decide +kernel⟩,
   ⟨0, 0, fz, by decide +kernel⟩,
   ⟨0, 0, live.set F.BKP_CFG_MEAS_EN 0, by decide +kernel⟩,
   ⟨0, 0, live, by decide +kernel⟩,
   ⟨0, 0, live, by decide +kernel⟩⟩

theorem witness_InterruptsAndWatchdog :
    (∃ (ifc : Ifc) (mask : Reg) (facts : WFacts) (s : State), (s.takes ifc 24856 = true)) ∧
    (∃ (ifc : Ifc) (mask : Reg) (facts : WFacts) (s : State) (v : Nat), (s.takes ifc 24856 = true) ∧ (v < 32) ∧ (BitVec.toNat
      mask = 2 ^ v) ∧ (bit s.vecLive v = true) ∧ (s.host.msix = true) ∧ (s.msixOpen v = true)) ∧
    (∃ (ifc : Ifc) (mask : Reg) (facts : WFacts) (s : State) (v : Nat), (s.takes ifc 24856 = true) ∧ (v < 32) ∧ (BitVec.toNat
      mask = 2 ^ v) ∧ (bit s.vecLive v = true) ∧ (s.host.msix = true) ∧ (s.msixOpen v = false)) ∧
    (∃ (ifc : Ifc) (mask : Reg) (facts : WFacts) (s : State), (s.takes ifc 24856 = true) ∧ ((BitVec.toNat mask).land
      s.vecLive = 0 ∨ s.host.msix = false)) ∧
    (∃ (ifc : Ifc) (facts : WFacts) (s : State), (s.takes ifc 20780 = true)) ∧
    (∃ (facts : StartFacts) (s : State), (s.on F.HOST_WDOG_CFG_EN = false ∨ s.dumping = true ∨ s.islandAsleep 26 = true ∨
      s.isl.started < 8)) ∧
    (∃ (facts : StartFacts) (s : State), (s.on F.HOST_WDOG_CFG_EN = true) ∧ (s.dumping = false) ∧ (s.islandAsleep 26 = false)
      ∧ (8 ≤ s.isl.started) ∧ (s.on F.WDOG_STAT_FIRST = false)) ∧
    (∃ (facts : StartFacts) (s : State), (s.on F.HOST_WDOG_CFG_EN = true) ∧ (s.dumping = false) ∧ (s.islandAsleep 26 = false)
      ∧ (8 ≤ s.isl.started) ∧ (s.on F.WDOG_STAT_FIRST = true) ∧ (s.on F.DUMP_CFG_DUMP_AUTO = false) ∧ (s.on
      F.HOST_WDOG_CFG_RESET_EN = false ∨ s.pins.main = false)) ∧
    (∃ (facts : StartFacts) (s : State), (s.on F.HOST_WDOG_CFG_EN = true) ∧ (s.dumping = false) ∧ (s.islandAsleep 26 = false)
      ∧ (8 ≤ s.isl.started) ∧ (s.on F.WDOG_STAT_FIRST = true) ∧ (s.on F.DUMP_CFG_DUMP_AUTO = false) ∧ (s.on
      F.HOST_WDOG_CFG_RESET_EN = true) ∧ (s.pins.main = true)) ∧
    (∃ (facts : StartFacts) (s : State), (s.on F.HOST_WDOG_CFG_EN = true) ∧ (s.dumping = false) ∧ (s.islandAsleep 26 = false)
      ∧ (8 ≤ s.isl.started) ∧ (s.on F.WDOG_STAT_FIRST = true) ∧ (s.on F.DUMP_CFG_DUMP_AUTO = true) ∧ (s.get F.DUMP_STAT_STATE =
      0) ∧ (s.on F.TALY_STAT_SAVING = false) ∧ (s.power ≤ 1)) :=
  ⟨⟨Ifc.pcie, 0, facts0, live, by decide +kernel⟩,
   ⟨.pcie, 0x2000, facts0, bmB (vl live), 13, by decide +kernel⟩,
   ⟨.pcie, 0x2000, facts0, (bmB (vl live)).set F.MSIX_CTRL 1 13, 13, by decide +kernel⟩,
   ⟨Ifc.pcie, 0, facts0, live, by decide +kernel⟩,
   ⟨Ifc.pcie, facts0, live, by decide +kernel⟩,
   ⟨sf0, live, by decide +kernel⟩,
   ⟨sf0, live.set F.HOST_WDOG_CFG_EN 1, by decide +kernel⟩,
   ⟨sf0, (live.set F.HOST_WDOG_CFG_EN 1).set F.WDOG_STAT_FIRST 1, by decide +kernel⟩,
   ⟨sf0, ((live.set F.HOST_WDOG_CFG_EN 1).set F.WDOG_STAT_FIRST 1).set F.HOST_WDOG_CFG_RESET_EN 1, by decide +kernel⟩,
   ⟨sf0, ((live.set F.HOST_WDOG_CFG_EN 1).set F.WDOG_STAT_FIRST 1).set F.DUMP_CFG_DUMP_AUTO 1, by decide +kernel⟩⟩

theorem witness_MeteringPeriods :
    (∃ (s : State), (s.awake 28 = true) ∧ (s.metering = true)) ∧
    (∃ (s : State), (s.awake 28 = false ∨ s.metering = false)) ∧
    (∃ (slice : Bool) (s : State), (s.awake 28 = false ∨ s.mtr.events = [])) ∧
    (∃ (slice : Bool) (valid : Bool) (s : State) (nom : Nat) (t : Nat), (s.awake 28 = true) ∧ (s.mtr.events = [MtrEvent.edge
      nom t valid]) ∧ (s.mtr.late = []) ∧ (s.mtr.waiting = []) ∧ (s.standby = false) ∧ (nom < 2 ^ 40) ∧ (s.members.length ≤
      s.talyRoom)) ∧
    (∃ (slice : Bool) (valid : Bool) (s : State) (nom : Nat) (t : Nat), (s.awake 28 = true) ∧ (s.mtr.events = [MtrEvent.edge
      nom t valid]) ∧ (s.mtr.late = []) ∧ (s.mtr.waiting = []) ∧ (s.standby = false) ∧ (nom < 2 ^ 40) ∧ (s.talyRoom <
      s.members.length)) ∧
    (∃ (s : State) (os : Nat) (ou : Nat) (ns : Nat) (nu : Nat) (t : Nat), (s.awake 28 = true) ∧ (s.mtr.events = [MtrEvent.set
      os ou ns nu t true]) ∧ (s.mtr.late = []) ∧ (s.actual.fst < ns) ∧ (s.nomOf ns = s.nomOf os)) ∧
    (∃ (s : State) (os : Nat) (ou : Nat) (ns : Nat) (nu : Nat) (t : Nat), (s.awake 28 = true) ∧ (s.mtr.events = [MtrEvent.set
      os ou ns nu t true]) ∧ (s.mtr.late = []) ∧ (s.actual.fst < ns) ∧ (s.nomOf ns = s.nomOf os + s.pSec) ∧ (s.mtr.edgeAt ≠ some
      t) ∧ (s.mtr.waiting = []) ∧ (s.standby = false) ∧ (s.members.length ≤ s.talyRoom) ∧ (s.on F.MTR_STAT_CHANGE_PENDING =
      false) ∧ (ns < 2 ^ 40) ∧ (nu < 2 ^ 15)) ∧
    (∃ (s : State) (sec : Nat) (sub : Nat) (t : Nat) (valid : Bool), (s.awake 28 = true) ∧ (s.mtr.events = [MtrEvent.stop sec
      sub t valid]) ∧ (s.mtr.late = []) ∧ (s.mtr.waiting = []) ∧ (s.standby = false) ∧ (s.members.length ≤ s.talyRoom)) ∧
    (∃ (ifc : Ifc) (facts : WFacts) (s : State), (s.takes ifc 196864 = true) ∧ (s.on F.MTR_CFG_EN = true) ∧ (s.on
      F.MTR_STAT_RUNNING = true) ∧ (s.on F.TALY_STAT_Q_FULL = false)) ∧
    (∃ (ifc : Ifc) (facts : WFacts) (s : State), (s.takes ifc 196864 = true) ∧ (s.on F.MTR_CFG_EN = true) ∧ (s.on
      F.TALY_STAT_Q_FULL = true)) ∧
    (∃ (ifc : Ifc) (facts : WFacts) (s : State), (s.takes ifc 196864 = true) ∧ (s.on F.MTR_CFG_EN = false ∨ s.on
      F.MTR_STAT_RUNNING = false ∧ s.on F.TALY_STAT_Q_FULL = false)) ∧
    (∃ (ifc : Ifc) (facts : WFacts) (s : State), (s.takes ifc 196864 = true) ∧ (s.on F.MTR_CFG_EN = false) ∧ (s.on
      F.MTR_STAT_RUNNING = false) ∧ (s.islandServes 28 = true) ∧ (s.mtr.events = []) ∧ (s.clk.sec < 2 ^ 40) ∧ (s.clk.sub < 2 ^
      15)) ∧
    (∃ (ifc : Ifc) (facts : WFacts) (s : State), (s.takes ifc 196864 = true) ∧ (s.on F.MTR_CFG_EN = true)) ∧
    (∃ (s : State), (s.awake 31 = false ∨ s.awake 28 = false)) ∧
    (∃ (s : State), (s.awake 31 = true) ∧ (s.awake 28 = true) ∧ (s.get F.TALY_WR_IDX ≤ s.get F.TALY_VLT_IDX ∨
      s.talyStat.talyHeld = true ∨ (s.vault.ops.any fun (o : VOp) => o.purpose.cls == 4) = true ∨ s.islandServes 31 = false)) ∧
    (∃ (s : State), (s.awake 31 = true) ∧ (s.awake 28 = true) ∧ (s.get F.TALY_VLT_IDX < s.get F.TALY_WR_IDX) ∧
      (s.talyStat.talyHeld = false) ∧ (s.islandServes 31 = true) ∧ ((s.vault.ops.any fun (o : VOp) => o.purpose.cls == 4) =
      false) ∧ (s.qRefuse 14 (s.get F.TALY_Q_BASE * 64 + s.get F.TALY_VLT_IDX % s.get F.TALY_Q_SIZE * 64) 64 false = none) ∧
      (s.ueIn (s.get F.TALY_Q_BASE * 64 + s.get F.TALY_VLT_IDX % s.get F.TALY_Q_SIZE * 64) 64 = none)) ∧
    (∃ (ifc : Ifc) (index : Reg) (facts : WFacts) (s : State), (s.takes ifc 200976 = true) ∧ (s.get F.TALY_ACK ≤ BitVec.toNat
      index) ∧ (BitVec.toNat index ≤ s.get F.TALY_WR_IDX)) ∧
    (∃ (ifc : Ifc) (index : Reg) (facts : WFacts) (s : State), (s.takes ifc 200976 = true) ∧ (BitVec.toNat index < s.get
      F.TALY_ACK)) ∧
    (∃ (ifc : Ifc) (index : Reg) (facts : WFacts) (s : State), (s.takes ifc 200976 = true) ∧ (s.get F.TALY_ACK ≤ BitVec.toNat
      index) ∧ (s.get F.TALY_WR_IDX < BitVec.toNat index)) :=
  ⟨⟨M, by decide +kernel⟩,
   ⟨live, by decide +kernel⟩,
   ⟨true, live, by decide +kernel⟩,
   ⟨true, true, ev M, 5, 5000000, by decide +kernel⟩,
   ⟨true, true, ((ev (jo M)).set F.TALY_Q_SIZE 64).set F.TALY_WR_IDX 64, 5, 5000000, by decide +kernel⟩,
   ⟨wm ((M.set F.MTR_ACT_LO 50)) fun m => { m with events := [.set 100 0 110 0 5000000 true] }, 100, 0, 110, 0, 5000000,
     by decide +kernel⟩,
   ⟨wm (((M.set F.MTR_ACT_LO 50)).set F.TALY_Q_SIZE 64) fun m =>
     { m with events := [.set 100 0 (100 + M.pSec) 0 5000000 true] }, 100, 0, 100 + M.pSec, 0, 5000000, by decide +kernel⟩,
   ⟨wm (M.set F.TALY_Q_SIZE 64) fun m => { m with events := [.stop 100 0 5000000 true] }, 100, 0, 5000000, true,
     by decide +kernel⟩,
   ⟨Ifc.pcie, facts0, M, by decide +kernel⟩,
   ⟨Ifc.pcie, facts0, M.set F.TALY_STAT_Q_FULL 1, by decide +kernel⟩,
   ⟨Ifc.pcie, facts0, live, by decide +kernel⟩,
   ⟨Ifc.pcie, facts0, live.set F.MTR_CFG_EN 0, by decide +kernel⟩,
   ⟨Ifc.pcie, facts0, live, by decide +kernel⟩,
   ⟨fz, by decide +kernel⟩,
   ⟨live, by decide +kernel⟩,
   ⟨tl, by decide +kernel⟩,
   ⟨Ifc.pcie, 0, facts0, live, by decide +kernel⟩,
   ⟨Ifc.pcie, 0, facts0, tl, by decide +kernel⟩,
   ⟨Ifc.pcie, 1, facts0, live, by decide +kernel⟩⟩

/-! ### Witnesses for the statements about every command -/

/-- A command that has the queue's front and one that waits behind it. -/
theorem witness_StepRunsFront : step { live with pending := [.ppsPulse, .alarm] } = exec .ppsPulse { live with pending := [.alarm] } ∧
    live.pending = [] := ⟨rfl, by decide +kernel⟩

/-- A step from a state whose PBA is as R457 says. -/
theorem witness_PbaKept : ∃ (s t : State), s.pbaOk = true ∧ step s = .next t := ⟨live, live.elapse 1, by decide +kernel, rfl⟩

/-- While CLAMP holds the pins a host read still answers: an emission that no pin held shows. -/
theorem witness_TapHoldsPins : ∃ (c : Instr) (s t : State) (e : Emit), exec c s = .next t ∧ 3 ≤ t.tap.ir ∧
    e ∈ t.out.take (t.out.length - s.out.length) :=
  ⟨.rtcNowSubRead .pcie facts0, after .tapClamp live, after (.rtcNowSubRead .pcie facts0) (after .tapClamp live),
    .hostRead 0 0x32100 0, rfl, by decide +kernel⟩

/-- A node in service with nothing held. -/
theorem witness_FinishFrame : ∃ s x : State, s.steady = true ∧ x.unheld = true := ⟨live, live, by decide +kernel⟩

/-- The last February before 2100, the last month of the calendar, and its last second. -/
theorem witness_CalendarRoundTrip : (∃ y m : Nat, 2000 ≤ y ∧ y ≤ 2199 ∧ 1 ≤ m ∧ m ≤ 12 ∧ y = 2199 ∧ m = 12) ∧
    (∃ c : Nat, c < calEnd ∧ c = 6311433599) := ⟨⟨2199, 12, by decide⟩, ⟨6311433599, by decide⟩⟩

/-! ### Ill-formed commands are refused -/

theorem test_wf_address : (Instr.registerWrite .pcie 2 0 15 facts0).wellFormed = false ∧
    (Instr.quarryAccess 0 4 255 none .none).wellFormed = false ∧ (Instr.bar4WindowAccess false 1 .none).wellFormed = false := by decide

theorem test_wf_upset : (Instr.scrubPatrol (.single 256) false).wellFormed = false := by decide

theorem test_wf_march : (Instr.marchDone ⟨64, [], [], 0, false⟩).wellFormed = false ∧
    (Instr.marchDone ⟨63, [12], [], 0, false⟩).wellFormed = false := by decide

theorem test_wf_start : (Instr.resetPin 1000 { facts0.start with straps := 256 }).wellFormed = false ∧
    (Instr.watchdogExpiry { facts0.start with lbist := [⟨33, false, 0⟩] }).wellFormed = false := by decide

theorem test_wf_host_bytes : (Instr.dmaAbort .pcie 0 { facts0 with host := [256] }).wellFormed = false := by decide

theorem test_wf_fuses : (Instr.powerOn facts0.start ⟨2 ^ 48, 0, [], []⟩ 0).wellFormed = false := by decide

theorem test_wf_slice : (Instr.sliceEnd 0 ⟨850, 850, 850, 0, true, false, 9⟩ facts0).wellFormed = false := by decide

theorem test_wf_can : (Instr.canFrameReceive 0 0 ⟨2048, false, false, true, 0, false, false, []⟩ .intact false []).wellFormed = false := by
  decide

theorem test_wf_evidence : (Instr.arbiterEvidenceHorizon (.window (some [1, 2]) none false false)).wellFormed = false := by decide

theorem test_wf_counts : (Instr.markRaise 1 [0] false).wellFormed = false ∧ (Instr.vaultRetirementDone 257 0).wellFormed = false ∧
    (Instr.powerStateEnter .pcie 0 facts0).wellFormed = false ∧ (Instr.spiWrite 5 [] .none facts0).wellFormed = false ∧
    (Instr.pcieLinkUp 0 1).wellFormed = false ∧ (Instr.dumpImageDone [] 0 facts0.start).wellFormed = false := by decide

/-! ### Figures and worked examples that the spec prints -/

/-- The reference instants under R375. -/
theorem test_calendar_instants : calSeconds 0 1 1 0 0 0 = 0 ∧ calSeconds 0 2 29 0 0 0 = 0x4DC880 ∧
    calSeconds 100 2 28 23 59 59 = 0xBC66DBFF ∧ calSeconds 100 3 1 0 0 0 = 0xBC66DC00 ∧
    calSeconds 199 12 31 23 59 59 = 0x17830D57F := by decide +kernel

/-- The weekdays of the same table. -/
theorem test_calendar_weekdays : (calOf 0).weekday = 5 ∧ (calOf 0x4DC880).weekday = 1 ∧ (calOf 0xBC66DBFF).weekday = 6 ∧
    (calOf 0xBC66DC00).weekday = 0 ∧ (calOf 0x17830D57F).weekday = 1 := by decide +kernel

/-- A write of the RTC's staged date, as year offset, month and day. -/
def staged (y m d : Nat) : Nat × Nat × Nat :=
  let s := after (.registerWrite .pcie 0x32118 (BitVec.ofNat 32 (y + 256 * m + 65536 * d)) 15 facts0) live
  (s.get F.RTC_STG_DATE_YEAR_OFS, s.get F.RTC_STG_DATE_MONTH, s.get F.RTC_STG_DATE_DAY)

/-- The examples under R378. -/
theorem test_staged_dates : staged 31 4 31 = (31, 4, 30) ∧ staged 100 2 29 = (100, 2, 28) ∧ staged 31 13 5 = (31, 12, 5) := by
  decide +kernel

/-- The first line of the semaphore example of chapter 10: 0x0132_0031 written, 0x4032_0031 read back. -/
theorem test_semaphore_example :
    (after (.registerWrite .pcie 0x20404 0x01320031 15 facts0) live).readReg 0x20404 = 0x40320031 := by decide +kernel

/-- The dither register's first two values from the seed 0x0001 (under R74). -/
theorem test_dither_example : lfsrNext 1 = 2 ∧ lfsrNext 2 = 4 := by decide

/-- The IDCODE of R521. -/
theorem test_idcode : (after .tapIdcode live).out = [.tap 1 0x181405D3] := by decide +kernel

/-- Check values of the two CRCs, of the string 123456789 (PRESUMED: from the standards, whose polynomials the spec gives). -/
theorem test_check_values : crc32r [0x31, 0x32, 0x33, 0x34, 0x35, 0x36, 0x37, 0x38, 0x39] = 0xCBF43926 ∧
    crc16 [0x31, 0x32, 0x33, 0x34, 0x35, 0x36, 0x37, 0x38, 0x39] = 0x29B1 := by decide +kernel

end Sys2Proof.Tests
end

/-! SUPPORT. Register accesses by an interface that reaches its page, the registers that the CLMP log may change, and the
reserved pages (R46). -/

namespace Sys2Proof.Machine

/-! ### An interface that reaches the page -/

/-- REGISTER_WRITE is a register write of its interface. -/
theorem exec_registerWrite (ifc : Ifc) (addr : BitVec 18) (v : Reg) (be : BitVec 4) (facts : WFacts) (s : State) :
    exec (.registerWrite ifc addr v be facts) s = .next (s.finish (s.regWrite ifc addr.toNat v.toNat be.toNat facts)) := rfl

/-- LO_PART_READ_LATCH is a register read of its interface. -/
theorem exec_loPartReadLatch (ifc : Ifc) (addr : BitVec 18) (facts : WFacts) (s : State) :
    exec (.loPartReadLatch ifc addr facts) s = .next (s.finish (s.regRead ifc addr.toNat facts)) := rfl

/-- The parts of `State.ifcTakes`. -/
theorem State.ifcTakes_iff (s : State) (i : Ifc) (p : Nat) :
    s.ifcTakes i p = true ↔ s.ifcOn i = true ∧ s.reaches p = true ∧ (i = .lb → s.host.lbLow = none) := by
  rw [Decidable.imp_iff_not_or]
  simp only [State.ifcTakes, Bool.and_eq_true, Bool.or_eq_true, bne_iff_ne, ne_eq, Option.isNone_iff_eq_none, and_assoc]

/-- With no half waiting the local bus has nothing to flush, and the other interfaces flush nothing (R453). -/
theorem State.lbFlush_of_ifcTakes {s : State} {i : Ifc} {p : Nat} (h : s.ifcTakes i p = true) (facts : WFacts) :
    (if i = .lb then s.lbFlush facts else s) = s := by
  obtain ⟨-, -, hlow⟩ := (s.ifcTakes_iff i p).1 h
  refine ite_eq_right_iff.2 fun hi => ?_
  simp [State.lbFlush, hlow hi]

/-- A write by an interface that reaches the page is a host write of the register. -/
theorem State.regWrite_of_ifcTakes {s : State} {i : Ifc} {a : Nat} (h : s.ifcTakes i (a / 0x1000) = true) (ha : a % 4 = 0)
    (v be : Nat) (facts : WFacts) : s.regWrite i a v be facts = s.hostWrite i.id a (v % 2 ^ 32) (be % 16) facts := by
  obtain ⟨hon, hreach, -⟩ := (s.ifcTakes_iff i _).1 h
  have haligned : a / 4 * 4 = a := by omega
  simp [State.regWrite, hon, hreach, haligned, State.lbFlush_of_ifcTakes h]

/-- A read by an interface that reaches the page gives out what the host read of the register answers. -/
theorem State.regRead_of_ifcTakes {s : State} {i : Ifc} {a : Nat} (h : s.ifcTakes i (a / 0x1000) = true) (ha : a % 4 = 0)
    (facts : WFacts) : s.regRead i a facts = (s.hostRead i.id a).2.emit (.hostRead i.id a (s.hostRead i.id a).1) := by
  obtain ⟨hon, hreach, -⟩ := (s.ifcTakes_iff i _).1 h
  have haligned : a / 4 * 4 = a := by omega
  simp [State.regRead, hon, hreach, haligned, State.lbFlush_of_ifcTakes h]

/-! ### Reserved pages -/

/-- A reserved page reads 0 and latches nothing. -/
theorem State.hostRead_of_reserved (s : State) {a : Nat} (h : pageReserved (a / 0x1000) = true) (m : Nat) :
    s.hostRead m a = (0, s) := by
  simp [State.hostRead, State.pageSilent, State.readReg, h]

/-- A write to a reserved page is an UNMAPPED event of the log. -/
theorem State.hostWrite_of_reserved (s : State) {a : Nat} (h : pageReserved (a / 0x1000) = true) (m v be : Nat)
    (facts : WFacts) :
    s.hostWrite m a v be facts = s.clampLog ⟨a / 0x1000, 0xFE, 5, a % 0x1000, mergeBytes 0 v be, 0, m⟩ := by
  simp [State.hostWrite, h]

/-! ### What the CLMP log may change -/

/-- The key is of a register of the CLMP page above its header. -/
abbrev isClmpKey (k : Nat) : Prop := 0x1100 * 32 ≤ k ∧ k < 0x2000 * 32

/-- Every register outside the CLMP page's own reads in `t` as in `s`. -/
def OnlyClmp (s t : State) : Prop := ∀ (f : Fld) (i : Nat), ¬ isClmpKey (f.key i) → t.get f i = s.get f i

theorem OnlyClmp.refl (s : State) : OnlyClmp s s := fun _ _ _ => rfl

/-- A write of a register of the log, after others. -/
theorem OnlyClmp.set {s t : State} (h : OnlyClmp s t) {g : Fld} {j : Nat} (hg : isClmpKey (g.key j)) (v : Nat) :
    OnlyClmp s (t.set g v j) := by
  intro f i hf
  have hne : f.key i ≠ g.key j := fun he => hf (he ▸ hg)
  exact (t.get_set_ne v hne).trans (h f i hf)

/-- The field is one of an entry of the log. -/
abbrev isClmpEntry (g : Fld) : Prop := g.stride = 0x20 ∧ 0x1800 ≤ g.base ∧ g.base < 0x1820 ∧ g.lo < 32

/-- The 64 entries of the log lie in the CLMP page. -/
theorem isClmpKey_entry {g : Fld} {n : Nat} (hn : n < 64) (hg : isClmpEntry g) : isClmpKey (g.key n) := by
  obtain ⟨hs, hlo, hhi, hb⟩ := hg
  unfold isClmpKey Fld.key Fld.addr
  rw [hs]
  omega

/-- An event in the log leaves every register but the log's own. -/
theorem OnlyClmp.clampLog (s : State) (e : ClampEv) : OnlyClmp s (s.clampLog e) := by
  have htotal : OnlyClmp s (s.inc F.CLMP_TOTAL) := (OnlyClmp.refl s).set (by decide) _
  have hn : (s.inc F.CLMP_TOTAL).get F.CLMP_HEAD < 64 := State.get_lt _ F.CLMP_HEAD 0
  unfold State.clampLog
  split
  · exact .refl s
  · dsimp only
    split
    · exact htotal.set (by decide) _
    · -- HEAD and LASTSEQ are the last two writes, the entry's twelve fields those before
      refine OnlyClmp.set (OnlyClmp.set ?_ (by decide) _) (by decide) _
      iterate 12 refine OnlyClmp.set ?_ (isClmpKey_entry hn (by decide)) _
      exact htotal

/-- The field is one of the page header (R48). -/
abbrev isHeaderFld (f : Fld) : Prop := f.stride = 0x1000 ∧ f.base < 0x100 ∧ f.lo < 32

/-- A register of a page header is no register of the log. -/
theorem not_isClmpKey_header {f : Fld} (hf : isHeaderFld f) (p : Nat) : ¬ isClmpKey (f.key p) := by
  obtain ⟨hs, hb, hl⟩ := hf
  unfold isClmpKey Fld.key Fld.addr
  rw [hs]
  omega

/-- An event in the log leaves the header of every page, its own included. -/
theorem State.get_clampLog_header (s : State) (e : ClampEv) {f : Fld} (hf : isHeaderFld f) (p : Nat) :
    (s.clampLog e).get f p = s.get f p :=
  OnlyClmp.clampLog s e f p (not_isClmpKey_header hf p)

/-! ### The statement of R46 -/

/-- Settles O7: the page answers 0 and latches nothing, and the write is one event of the log, whose registers lie apart from
every page header. -/
theorem reservedPage : Obligations.ReservedPage := by
  unfold Obligations.ReservedPage
  intro ifc addr v be facts s ha hp hi
  refine ⟨?_, s.clampLog ⟨addr.toNat / 0x1000, 0xFE, 5, addr.toNat % 0x1000, mergeBytes 0 v.toNat be.toNat, 0, ifc.id⟩, ?_,
    rfl, ?_⟩
  · rw [exec_loPartReadLatch, State.regRead_of_ifcTakes hi ha, State.hostRead_of_reserved s hp]
  · rw [exec_registerWrite, State.regWrite_of_ifcTakes hi ha, State.hostWrite_of_reserved s hp,
      Nat.mod_eq_of_lt v.isLt, Nat.mod_eq_of_lt be.isLt]
  · intro f hf p
    have hheader : isHeaderFld f := (by decide : ∀ g ∈ _, isHeaderFld g) f hf
    exact s.get_clampLog_header _ hheader p

end Sys2Proof.Machine

/-! SUPPORT. The tables of the calendar, the two searches through them, and the round trip of a count below the end of the
calendar (R375). -/

namespace Sys2Proof.Machine

/-! ### The tables of the calendar -/

/-- The length of a month, with the leap years written out. -/
theorem monthLen_eq (y m : Nat) : monthLen y m =
    if m = 2 then (if y % 4 = 0 ∧ y ≠ 2100 then 29 else 28) else if [4, 6, 9, 11].contains m then 30 else 31 := by
  simp [monthLen, leapYear]

/-- A month begins at the end of the month before it. -/
theorem daysToMonth_succ (y k : Nat) : daysToMonth y (k + 2) = daysToMonth y (k + 1) + monthLen y (k + 1) := by
  simp [daysToMonth, List.range_succ]

/-- The twelve months of a year. -/
theorem daysToMonth_thirteen (y : Nat) : daysToMonth y 13 = if y % 4 = 0 ∧ y ≠ 2100 then 366 else 365 := by
  simp only [daysToMonth, monthLen_eq, List.range_succ]
  split <;> rfl

/-- The year 2000 + `o` is as long as its twelve months. -/
theorem daysToYear_succ (o : Nat) (ho : o < 200) :
    daysToYear (o + 1) = daysToYear o + daysToMonth (2000 + o) 13 := by
  rw [daysToMonth_thirteen]
  unfold daysToYear
  split <;> split <;> split <;> omega

/-- The calendar ends with the 200th year. -/
theorem calEnd_eq : calEnd = daysToYear 200 * 86400 := rfl

/-! ### The searches for the year and for the month -/

/-- A fold that keeps the latest index with a property ends with the last such index of the range. -/
theorem foldl_range_keep_last (p : Nat → Prop) [DecidablePred p] (g : Nat → Nat) (a : Nat) (h0 : p 0) (n : Nat) :
    ∃ k ≤ n, (List.range (n + 1)).foldl (fun y i => if p i then g i else y) a = g k ∧ p k ∧
      ∀ i, k < i → i ≤ n → ¬ p i := by
  induction n with
  | zero => exact ⟨0, Nat.le_refl _, by simp [h0], h0, fun i hi hin => absurd hin (by omega)⟩
  | succ n ih =>
    rw [List.range_succ, List.foldl_append, List.foldl_cons, List.foldl_nil]
    by_cases hp : p (n + 1)
    · exact ⟨n + 1, Nat.le_refl _, if_pos hp, hp, fun i hi hin => absurd hin (by omega)⟩
    · obtain ⟨k, hk, hfold, hpk, hlast⟩ := ih
      refine ⟨k, by omega, (if_neg hp).trans hfold, hpk, fun i hi hin => ?_⟩
      obtain rfl | hin : i = n + 1 ∨ i ≤ n := by omega
      · exact hp
      · exact hlast i hi hin

/-- A day of the calendar lies in its year. -/
theorem yearOf_spec {d : Nat} (hd : d < daysToYear 200) :
    yearOf d < 200 ∧ daysToYear (yearOf d) ≤ d ∧ d < daysToYear (yearOf d + 1) := by
  obtain ⟨k, hk, hfold, hfrom, hlast⟩ :=
    foldl_range_keep_last (fun i => daysToYear i ≤ d) (fun i => i) 0 (Nat.zero_le d) 199
  have hyear : yearOf d = k := hfold
  rw [hyear]
  refine ⟨by omega, hfrom, ?_⟩
  obtain rfl | hk' : k = 199 ∨ k < 199 := by omega
  · exact hd
  · exact Nat.lt_of_not_le (hlast (k + 1) (by omega) (by omega))

/-- A day of a year lies in its month. -/
theorem monthOf_spec {y r : Nat} (hr : r < daysToMonth y 13) :
    1 ≤ monthOf y r ∧ monthOf y r ≤ 12 ∧ daysToMonth y (monthOf y r) ≤ r ∧
      r < daysToMonth y (monthOf y r) + monthLen y (monthOf y r) := by
  obtain ⟨k, hk, hfold, hfrom, hlast⟩ :=
    foldl_range_keep_last (fun i => daysToMonth y (i + 1) ≤ r) (fun i => i + 1) 1 (Nat.zero_le r) 11
  have hmonth : monthOf y r = k + 1 := hfold
  rw [hmonth, ← daysToMonth_succ]
  refine ⟨by omega, by omega, hfrom, ?_⟩
  obtain rfl | hk' : k = 11 ∨ k < 11 := by omega
  · exact hr
  · exact Nat.lt_of_not_le (hlast (k + 1) (by omega) (by omega))

/-! ### The round trip -/

/-- The hours, minutes and seconds of a count, and its whole days, give the count back. -/
theorem seconds_of_parts (c : Nat) :
    c / 86400 * 86400 + c % 86400 / 3600 * 3600 + c % 86400 / 60 % 60 * 60 + c % 86400 % 60 = c := by
  omega

/-- Settles O46: the day lies in the year and the month that the searches find, so its day of the month is at most the month's
length, and the days before the year, before the month and in it add up to the day again. -/
theorem calendarRoundTrip : Obligations.CalendarRoundTrip := by
  unfold Obligations.CalendarRoundTrip
  refine ⟨fun y m _ _ _ _ => monthLen_eq y m, fun c hc => ?_⟩
  have hunfrozen : min c (calEnd - 1) = c := by omega
  rw [calOf, hunfrozen]
  dsimp only
  have hday : c / 86400 < daysToYear 200 := by
    rw [calEnd_eq] at hc
    omega
  obtain ⟨hyear, hyearFrom, hyearTo⟩ := yearOf_spec hday
  rw [daysToYear_succ _ hyear] at hyearTo
  have hdayOfYear : c / 86400 - daysToYear (yearOf (c / 86400)) < daysToMonth (2000 + yearOf (c / 86400)) 13 := by omega
  obtain ⟨hmonth1, hmonth12, hmonthFrom, hmonthTo⟩ := monthOf_spec hdayOfYear
  refine ⟨?_, hmonth1, hmonth12, Nat.le_add_left 1 _, ?_, rfl, by omega, by omega, by omega, hyear⟩
  · have hdate : daysToYear (yearOf (c / 86400)) + (c / 86400 - daysToYear (yearOf (c / 86400))) = c / 86400 :=
      Nat.add_sub_of_le hyearFrom
    rw [calSeconds, Nat.add_sub_cancel, Nat.add_assoc (daysToYear _), Nat.add_sub_of_le hmonthFrom, hdate]
    exact seconds_of_parts c
  · omega

end Sys2Proof.Machine
